-- ==== Sys2Proof/Word.lean ====
section
/-! DEFINITION. The word types and index types of the part, and the table of fixed size. -/

namespace Sys2Proof

/-- One byte on a link. -/
abbrev Byte := BitVec 8

/-- A reading of the 32-bit microsecond action clock (00, Time base). -/
abbrev Clock := BitVec 32

/-- A journal sequence number (R64). -/
abbrev Seq := BitVec 32

/-- A key, 0 the lowest A to 87 the highest C (00, Conventions). -/
abbrev Key := Fin 88

/-- A voice slot number (R75). -/
abbrev Slot := Fin 128

/-- A take number (R126). -/
abbrev TakeNo := Fin 8

/-- A block of take memory (R124). -/
abbrev Block := Fin 64

/-- One of the multiplexed analog inputs AIN0 to AIN7 (R1). -/
abbrev Ain := Fin 8

end Sys2Proof
end

