-- ==== Sys2Proof/Syntax.lean ====
section
/-! DEFINITION. The commands: one constructor per row of spec/opcode_table.json. -/

namespace Sys2Proof

/-- The three serial links (09). -/
inductive Link | a | b | c
deriving DecidableEq, Repr

/-- The two calibration regions (R183). -/
inductive Region | factory | user
deriving DecidableEq, Repr

/-- The converter's result for one analog input of the group converted (R8, R14). -/
structure AinResult where
  /-- which of AIN0 to AIN7 -/
  ain : Ain
  /-- the 12-bit raw value -/
  raw : Nat
deriving DecidableEq, Repr

/-- The commands. A request command names its link; its operands stand as bytes in the frame at the
head of that link's receive buffer (R164, R174; log 3). -/
inductive Instr
  /-- POWER_ON_RESET (R189) -/
  | powerOnReset
  /-- RESETN_LOW (R190) -/
  | resetnLow
  /-- SYSTEM_RESET_EFFECT (R190) -/
  | systemResetEffect
  /-- RECEIVE_BYTE (R162): the byte, and whether its stop bit was low -/
  | receiveByte (l : Link) (byte : Byte) (stopLow : Bool)
  /-- INTER_BYTE_GAP_TIMEOUT (R162) -/
  | interByteGapTimeout (l : Link)
  /-- BREAK (R172) -/
  | lineBreak (l : Link)
  /-- TRANSMIT_FRAME_START (R165) -/
  | transmitFrameStart (l : Link)
  /-- PENDING_NOTICE_QUEUED (R179) -/
  | pendingNoticeQueued (l : Link)
  /-- VOICE_ORDER_DRAIN (R95) -/
  | voiceOrderDrain
  /-- UNKNOWN_REQUEST (R164) -/
  | unknownRequest (l : Link)
  /-- HELLO (R168) -/
  | hello (l : Link)
  /-- SET_LINK (R166) -/
  | setLink (l : Link)
  /-- CLAIM_ROLE (R167) -/
  | claimRole (l : Link)
  /-- READ_KEYS (R169) -/
  | readKeys (l : Link)
  /-- SET_WINDOW (R169) -/
  | setWindow (l : Link)
  /-- READ_WINDOW (R169) -/
  | readWindow (l : Link)
  /-- DEPTH_STREAM (R170) -/
  | depthStream (l : Link)
  /-- SET_SCAN_LIST (R6) -/
  | setScanList (l : Link)
  /-- OPEN_JOURNAL (R68) -/
  | openJournal (l : Link)
  /-- READ_JOURNAL (R69) -/
  | readJournal (l : Link)
  /-- CLOSE_JOURNAL (R171) -/
  | closeJournal (l : Link)
  /-- SET_LAYERS (R79) -/
  | setLayers (l : Link)
  /-- READ_VOICES (R102) -/
  | readVoices (l : Link)
  /-- VOICE_ENDED (R97) -/
  | voiceEnded (l : Link)
  /-- RAIL_DEMAND (R107) -/
  | railDemand (l : Link)
  /-- RAIL_RECOVER (R120) -/
  | railRecover (l : Link)
  /-- READ_RAIL (R123) -/
  | readRail (l : Link)
  /-- TAKE_RECORD (R130) -/
  | takeRecord (l : Link)
  /-- TAKE_STOP (R136) -/
  | takeStop (l : Link)
  /-- TAKE_LOAD (R137) -/
  | takeLoad (l : Link)
  /-- WRITE_TAKE_RECORDS (R137) -/
  | writeTakeRecords (l : Link)
  /-- LOAD_END (R138) -/
  | loadEnd (l : Link)
  /-- TAKE_KEEP (R139) -/
  | takeKeep (l : Link)
  /-- TAKE_UNKEEP (R139) -/
  | takeUnkeep (l : Link)
  /-- TAKE_ERASE (R140) -/
  | takeErase (l : Link)
  /-- READ_TAKE_DIRECTORY (R141) -/
  | readTakeDirectory (l : Link)
  /-- READ_TAKE_RECORDS (R142) -/
  | readTakeRecords (l : Link)
  /-- TAKE_PLAY (R147) -/
  | takePlay (l : Link)
  /-- STOP (R151) -/
  | stop (l : Link)
  /-- PAUSE (R152) -/
  | pause (l : Link)
  /-- RESUME (R152) -/
  | resume (l : Link)
  /-- SET_TEMPO (R148) -/
  | setTempo (l : Link)
  /-- SET_LOOP (R153) -/
  | setLoop (l : Link)
  /-- CLEAR_LOOP (R153) -/
  | clearLoop (l : Link)
  /-- SET_GUIDE (R155) -/
  | setGuide (l : Link)
  /-- CAL_READ (R185) -/
  | calRead (l : Link)
  /-- CAL_WRITE (R186) -/
  | calWrite (l : Link)
  /-- CAL_COMMIT (R188) -/
  | calCommit (l : Link)
  /-- CAL_DEFAULTS (R187) -/
  | calDefaults (l : Link)
  /-- COMMIT_COMPLETE (R188): the region and whether the image read back was equal -/
  | commitComplete (r : Region) (equal : Bool)
  /-- NOTICE_SET (R177) -/
  | noticeSet (l : Link)
  /-- NOTICE_MASK (R180) -/
  | noticeMask (l : Link)
  /-- READ_FAULTS (R182) -/
  | readFaults (l : Link)
  /-- CLEAR_FAULTS (R182) -/
  | clearFaults (l : Link)
  /-- SYSTEM_RESET (R173) -/
  | systemReset (l : Link)
  /-- FRAME_START (R11) -/
  | frameStart
  /-- SETTLE_END (R8) -/
  | settleEnd
  /-- CONVERSION_END (R14): the results in the order they are handled (R9; log 4) -/
  | conversionEnd (results : List AinResult)
  /-- RECORDER_SECOND_STEP (R132) -/
  | recorderSecondStep
  /-- MILLISECOND_STEP (R148) -/
  | millisecondStep
  /-- SILENT_INPUT_CHANGE (R108): whether the input is now low -/
  | silentInputChange (low : Bool)
  /-- LEVER_DEBOUNCE_EXPIRY (R108) -/
  | leverDebounceExpiry
  /-- RAIL_HOMING_START (R111) -/
  | railHomingStart
  /-- RAIL_QUIET_MOVE_START (R114) -/
  | railQuietMoveStart
  /-- RAIL_CURRENT_CHANGE (R105): the motor current, in mA -/
  | railCurrentChange (current : Nat)
  /-- INRUSH_BLANKING_END (R105) -/
  | inrushBlankingEnd
  /-- STALL (R105) -/
  | stall
  /-- MAXIMUM_TRAVEL_TIMEOUT (R106) -/
  | maximumTravelTimeout
  /-- BACKOFF_TIME_END (R118) -/
  | backoffTimeEnd
  /-- RETRY_DELAY_END (R119) -/
  | retryDelayEnd
  /-- RAIL_HELD (R114) -/
  | railHeld
  /-- RESETN_HIGH (R190) -/
  | resetnHigh
  /-- LINE_RETURNS_HIGH (R172) -/
  | lineReturnsHigh (l : Link)
  /-- POWER_LOSS (R190) -/
  | powerLoss
  /-- REGIONS_LOADED (R189) -/
  | regionsLoaded
deriving DecidableEq, Repr

end Sys2Proof
end

