-- ==== Sys2Proof/Decode.lean ====
section
/-! DEFINITION. The command a table word spells. The table gives no row any bits, so no word spells one. -/

namespace Sys2Proof

/-- The command spelled by a word of `nbits` bits under spec/opcode_table.json. Every row's list of
fields is empty there, so the answer is none for every word. -/
def decodeTableWord (_nbits _w : Nat) : Option Instr := none

end Sys2Proof
end

