-- ==== Sys2Proof/Config.lean ====
section
/-! DEFINITION. What is fixed for the part, and the free values: constants without a body that no proof can see into. -/

namespace Sys2Proof.Config

/-- Part code answered by HELLO (R168). -/
def partCode : Nat := 2188

/-- Silicon revision answered by HELLO (R168). -/
def revision : Nat := 1

/-- Length of the longest voice order queue (R91). -/
def queueLimit : Nat := 48

/-- Queue length whose reaching raises VOICE_ATTENTION (R91). -/
def queueAttention : Nat := 40

/-- Queue length below which stale damps are refilled (R93). -/
def queueRefill : Nat := 32

/-- Events held by the journal ring (R65). -/
def ringLimit : Nat := 512

/-- Unprompted places of a transmit queue (R165). -/
def unpromptedPlaces : Nat := 7

/-- Complete frames a receive buffer holds (R163). -/
def rxFrames : Nat := 2

/-- Entries a walk samples at most (R5). -/
def walkLimit : Nat := 64

/-- The longest duration of a take in ms (R126, R134). -/
def maxDuration : Nat := 4294967295

/-- FREE VALUE (log 5): the 16-bit check of an image with these contents, which the spec names without its
polynomial and its field order (R183). -/
opaque imageCheck {α : Type} : α → BitVec 16

/-- FREE VALUE (log 6): the 16-bit check that a cut-off or failed write leaves in a stored image
(R188, R190). The argument is the draw counter. -/
opaque damagedImageCheck : Nat → BitVec 16

/-- FREE VALUE (log 6): whether the image that a cut-off or failed write leaves holds the new contents
rather than the old ones (R190). The argument is the draw counter. -/
opaque damagedImageIsNew : Nat → Bool

end Sys2Proof.Config
end

