-- ==== Sys2Proof/Machine/State.lean ====
section
/-! DEFINITION. The state of the part as plain data, block by block, and the state right after a power-on reset. -/

namespace Sys2Proof.Machine

/-! ## Names shared by several blocks -/

/-- A gate bank (R27), an end of the rail's travel and a rail target (R107). -/
inductive Side | openEnd | blockedEnd
deriving DecidableEq, Repr

/-- The sound route (R121). -/
inductive Route | silent | acoustic
deriving DecidableEq, Repr

/-- The source of an action event (R61). -/
inductive Source | live | playback
deriving DecidableEq, Repr

/-- A set of keys: each key once and no order (00, Conventions), so equal sets are equal data. -/
abbrev KeySet := Vector Bool 88

/-- One value for each of the three links. -/
structure PerLink (α : Type) where
  a : α
  b : α
  c : α
deriving DecidableEq, Repr

/-- The value of link `l`. -/
def PerLink.get {α : Type} (p : PerLink α) : Link → α
  | .a => p.a
  | .b => p.b
  | .c => p.c

/-- The value of link `l` replaced. -/
def PerLink.set {α : Type} (p : PerLink α) (l : Link) (x : α) : PerLink α :=
  match l with
  | .a => { p with a := x }
  | .b => { p with b := x }
  | .c => { p with c := x }

/-! ## Sensor front end (01) -/

/-- A sensor group (R1). -/
inductive Group
  | k (g : Fin 11)
  | h (g : Fin 11)
  | p
deriving DecidableEq, Repr

/-- One channel record (R2). -/
structure ChannelRec where
  lastRaw : Option Nat := none
  failed : Bool := false
  outRun : Nat := 0
  inRun : Nat := 0
  delivered : Bool := false
deriving DecidableEq, Repr

/-- One entry of a scan list (R3). -/
structure ScanEntry where
  group : Group
  next : Fin 64
  last : Bool
deriving DecidableEq, Repr

/-- A scan list: 64 entries and a first entry index (R3). -/
structure ScanList where
  entries : Vector ScanEntry 64
  first : Fin 64
deriving DecidableEq, Repr

/-- Where a walk stands (R4, R8). -/
structure WalkPos where
  /-- the entry under way -/
  index : Fin 64
  /-- entries of this walk sampled before it -/
  count : Nat
deriving DecidableEq, Repr

/-- What the front end is doing (R8, R11). -/
inductive Walk
  /-- no frame has started since the reset -/
  | noFrame
  /-- between a walk's end and the due time -/
  | waiting
  /-- settling after a switch that was made at `since` -/
  | settling (pos : WalkPos) (since : Clock)
  /-- converting a group sampled at `sampled` -/
  | converting (pos : WalkPos) (sampled : Clock)
deriving DecidableEq, Repr

/-- The sensor front end. -/
structure Sfe where
  keyCh : Vector ChannelRec 88
  hammerCh : Vector ChannelRec 88
  pedalCh : Vector ChannelRec 3
  active : ScanList
  pendingList : Option ScanList
  staging : ScanList
  due : Option Clock
  /-- the settle interval read at the frame's start (R10) -/
  settle : Nat
  /-- the group selected on MSEL0 to MSEL4; none is code 31 (R1) -/
  selected : Option Group
  walk : Walk
deriving DecidableEq, Repr

/-! ## Action tracker (02) -/

/-- Key state; the rise-start time and below-press flag are present while RISING (R21). -/
inductive KeyState
  | up
  | down
  | rising (start : Clock) (belowPress : Bool)
deriving DecidableEq, Repr

/-- Hammer state; the armed bank and gate-1 time are present while ARMED (R21). -/
inductive HammerState
  | ready
  | armed (bank : Side) (gate1 : Clock)
  | spent
deriving DecidableEq, Repr

/-- One key record (R21). -/
structure KeyRec where
  depth : Nat := 0
  state : KeyState := .up
  lift : Nat := 0
  heldOut : Bool := false
  height : Nat := 0
  hammerTime : Option Clock := none
  hammer : HammerState := .ready
  rearm : Option Clock := none
  sounding : Bool := false
  depthFailed : Bool := false
  hammerFailed : Bool := false
deriving DecidableEq, Repr

/-! ## Pedal unit (03) -/

/-- The three pedals, in the order of group P (R1). -/
inductive Pedal | damper | sostenuto | soft
deriving DecidableEq, Repr

/-- One pedal record (R45). -/
structure PedalRec where
  depth : Nat := 0
  lift : Nat := 0
  reported : Nat := 0
  failed : Bool := false
deriving DecidableEq, Repr

/-- The pedal unit: three records, the sostenuto state and the live sostenuto set (R45). -/
structure Pdu where
  damper : PedalRec := {}
  sostenuto : PedalRec := {}
  soft : PedalRec := {}
  sostOn : Bool := false
  sostSet : KeySet := Vector.replicate 88 false
deriving DecidableEq, Repr

/-! ## Action journal (04) -/

/-- Kinds of action event (R61). -/
inductive EventKind
  | strike | restrike | release | damper | sostenuto | soft | keyFail | keyRecover | rail | playMark
deriving DecidableEq, Repr

/-- The flags of an event; BANK is present on live strikes only (R63). -/
structure EventFlags where
  bank : Option Side := none
  transit : Bool := false
  calDefault : Bool := false
  failed : Bool := false
  guide : Bool := false
deriving DecidableEq, Repr

/-- An action event as its block makes it, before the journal numbers it (R61). -/
structure Event where
  time : Clock
  kind : EventKind
  source : Source
  key : Option Nat
  value : Nat
  flags : EventFlags := {}
deriving DecidableEq, Repr

/-- An event held in the ring (R61, R64). -/
structure JournalEvent where
  seq : Seq
  event : Event
deriving DecidableEq, Repr

/-- The journal: next sequence number and the ring, oldest event first (R64, R65). -/
structure Ajn where
  next : Seq := 0
  ring : List JournalEvent := []
deriving DecidableEq, Repr

/-- An open stream record (R67). -/
structure Stream where
  cursor : Seq
  threshold : Nat
deriving DecidableEq, Repr

/-! ## Voice assigner (05) -/

/-- What a layer's source filter takes (R78). -/
inductive SourceFilter | live | playback | both
deriving DecidableEq, Repr

/-- One layer entry (R78). -/
structure Layer where
  enabled : Bool
  program : Nat
  low : Key
  high : Key
  trim : Nat
  filter : SourceFilter
  follows : Bool
  acoustic : Bool
deriving DecidableEq, Repr

/-- What a slot holds while it is not FREE (R75). RINGING is `damped = false`, DAMPED is `damped = true`. -/
structure Voice where
  damped : Bool
  key : Key
  source : Source
  layer : Fin 4
  follows : Bool
  level : Nat
  applied : Nat
  lastSent : Nat
  startOrder : BitVec 32
deriving DecidableEq, Repr

/-- One voice slot; FREE is `voice = none` (R75). -/
structure VoiceSlot where
  gen : BitVec 8 := 0
  stale : Bool := false
  voice : Option Voice := none
deriving DecidableEq, Repr

/-- One order of the voice order queue (R91). -/
inductive VoiceOrder
  | start (slot : Slot) (gen : BitVec 8) (key : Key) (program level : Nat) (source : Source) (retrigger steal : Bool)
  | damp (slot : Slot) (gen : BitVec 8) (lift : Nat)
  | soft (source : Source) (level : Nat)
deriving DecidableEq, Repr

/-- Last sent soft level and soft-stale flag of one source (R96). -/
structure SoftTrack where
  sent : Nat := 0
  stale : Bool := false
deriving DecidableEq, Repr

/-- The voice assigner. -/
structure Vas where
  slots : Vector VoiceSlot 128
  startCounter : BitVec 32
  layers : Vector Layer 4
  queue : List VoiceOrder
  softLive : SoftTrack
  softPlay : SoftTrack
deriving DecidableEq, Repr

/-! ## Rail controller (06) -/

/-- WAITING's fields (R110, R114). `stopped` is the model's own: the count has reached 65,534 ms (log 18). -/
structure WaitInfo where
  side : Side
  start : Clock
  held : Bool
  /-- the retreat stalled flag, present when entered from a retry delay -/
  retreatStalled : Option Bool
  stopped : Bool
deriving DecidableEq, Repr

/-- The phase of a backoff, with the time in ms read at its start (R104, R110). -/
inductive BackoffPhase
  | retreat (backoffMs : Nat)
  | delay (retryMs : Nat) (retreatStalled : Bool)
deriving DecidableEq, Repr

/-- BACKOFF's fields (R110). -/
structure BackoffInfo where
  phase : BackoffPhase
  origin : Side
  start : Clock
deriving DecidableEq, Repr

/-- The rail states (R110). -/
inductive RailState
  | unknown
  | homing
  | openState
  | closing
  | blocked
  | opening
  | waiting (w : WaitInfo)
  | backoff (b : BackoffInfo)
  | fault
deriving DecidableEq, Repr

/-- The nine rail parameters (R104). -/
structure RailParams where
  duty : Nat
  threshold : Nat
  filterUs : Nat
  blankingMs : Nat
  minTravelMs : Nat
  maxTravelMs : Nat
  backoffMs : Nat
  retryMs : Nat
  attempts : Nat
deriving DecidableEq, Repr

/-- A leg: a period of drive in one direction, with what it latched at its start (R103, R104). -/
structure Leg where
  toward : Side
  start : Clock
  minCheck : Bool
  params : RailParams
  /-- the inrush blanking has ended (R105) -/
  blanked : Bool
  /-- start of the glitch-filter run under way (R105) -/
  run : Option Clock
deriving DecidableEq, Repr

/-- The demand set (R107). -/
structure Demand where
  a : Bool := false
  b : Bool := false
  c : Bool := false
  lever : Bool := false
deriving DecidableEq, Repr

/-- The rail controller (R110). -/
structure Rlc where
  state : RailState
  leg : Option Leg
  obstructions : Nat
  lastTravelMs : Option Nat
  demand : Demand
  /-- the lever level is LOW (R108) -/
  leverLow : Bool
  /-- the SILENT input is low -/
  silentLow : Bool
  /-- when the SILENT input last changed, or the reset -/
  silentSince : Clock
  /-- the motor current that the current-sense input reads, in mA (R105) -/
  current : Nat
  sensingSeen : Bool
deriving DecidableEq, Repr

/-! ## Take store (07) -/

/-- An entry of the block table (R124). -/
inductive BlockEntry
  | free
  | next (b : Block)
  | last
deriving DecidableEq, Repr

/-- Kinds of take record (R127). -/
inductive TakeKind | strike | release | damper | sostenuto | soft | pause
deriving DecidableEq, Repr

/-- One take record (R127). -/
structure TakeRec where
  kind : TakeKind
  key : Key
  value : Nat
  delta : Nat
deriving DecidableEq, Repr

/-- Take memory: (block x 256 + place, record) with rising addresses; a place not listed holds nothing
(R124; log 22). -/
abbrev TakeMem := List (Nat × TakeRec)

/-- Directory state of a take (R126). -/
inductive TakeState | empty | recording | loading | closed
deriving DecidableEq, Repr

/-- A directory entry (R126). -/
structure TakeEntry where
  state : TakeState := .empty
  kept : Bool := false
  truncated : Bool := false
  firstBlock : Option Block := none
  count : Nat := 0
  duration : Nat := 0
  strikes : Nat := 0
  tag : Nat := 0
deriving DecidableEq, Repr

/-- The recorder's fields while RECORDING (R129). -/
structure RecInfo where
  start : Clock
  position : Nat
  mark : Clock
  struck : KeySet
deriving DecidableEq, Repr

/-- The recorder (R129). -/
inductive Recorder
  | idle
  | armed (t : TakeNo)
  | recording (t : TakeNo) (r : RecInfo)
deriving DecidableEq, Repr

/-- The take store. -/
structure Tks where
  blocks : Vector BlockEntry 64
  mem : TakeMem
  dir : Vector TakeEntry 8
  recorder : Recorder
deriving DecidableEq, Repr

/-! ## Player (08) -/

/-- The player's state while not IDLE (R144). -/
inductive PlayMode
  | playing (nextStep : Clock)
  | paused (previousWaiting : Bool)
  | waiting
deriving DecidableEq, Repr

/-- What the player holds while not IDLE (R144). -/
structure Session where
  take : TakeNo
  cursor : Nat
  position : Nat
  mode : PlayMode
deriving DecidableEq, Repr

/-- A loop and its snapshot (R153). -/
structure Loop where
  start : Nat
  stop : Nat
  damper : Nat
  sostOn : Bool
  soft : Nat
deriving DecidableEq, Repr

/-- Guide modes (R144). -/
inductive GuideMode | none | mute | wait
deriving DecidableEq, Repr

/-- The player record (R144); IDLE is `session = none`. -/
structure Ply where
  session : Option Session := .none
  tempo : Nat := 100
  acc : Nat := 0
  loop : Option Loop := .none
  guide : GuideMode := .none
  low : Key := 0
  high : Key := 87
  chordWindow : Nat := 30
  expected : KeySet := Vector.replicate 88 false
  /-- collection limit (R157) -/
  limit : Option Nat := .none
  keys : KeySet := Vector.replicate 88 false
  damper : Nat := 0
  sostOn : Bool := false
  sostSet : KeySet := Vector.replicate 88 false
  soft : Nat := 0
deriving DecidableEq, Repr

/-! ## Notice unit (10) -/

/-- Event classes, in the bit order of a NOTICE frame (R174, R175). -/
inductive EventClass
  | journalReady | journalOverrun | railState | railFault | railHeld | playState | takeState
  | voiceAttention | keyFail | calDone | calInvalid | frameOverrun | linkError | roleChange
  | staleEnded | pedalFail
deriving DecidableEq, Repr

/-- A notice entry (R176); unused is an empty class set. -/
structure NoticeEntry where
  classes : BitVec 16 := 0
  tag : BitVec 16 := 0
  mask : Bool := false
  pending : Bool := false
  queued : Bool := false
  acc : BitVec 16 := 0
deriving DecidableEq, Repr

/-- One link's notice table (R176). -/
structure NoticeTable where
  enable : Bool := false
  linkMask : Bool := false
  grant : Nat := 1
  entries : Vector NoticeEntry 8 := Vector.replicate 8 {}
deriving DecidableEq, Repr

/-- Fault kinds, in the order of their codes 1 to 11 (R174, R181). -/
inductive FaultKind
  | listLoop | frameOverrun | sensorFail | pedalFail | railObstructed | railTimeout | voiceRefused
  | staleEnded | takeFull | calInvalid | calWriteFail
deriving DecidableEq, Repr

/-- The device part of the fault record (R181). -/
structure FaultRecord where
  /-- bit n - 1 is the flag of fault kind code n -/
  flags : BitVec 16 := 0
  first : Option FaultKind := none
  overruns : Nat := 0
  missed : Nat := 0
  steals : Nat := 0
  refused : Nat := 0
  stale : Nat := 0
  skipped : Nat := 0
deriving DecidableEq, Repr

/-! ## Link ports (09) -/

/-- A link's receiver (R162). -/
inductive Receiver
  | hunt
  | length
  /-- `len` payload bytes are due; those taken so far, in order -/
  | payload (len : Nat) (got : List Byte)
  | check (got : List Byte)
deriving DecidableEq, Repr

/-- The payload limit (R166). -/
inductive Limit | b16 | b32 | b64
deriving DecidableEq, Repr

/-- A frame in a transmit queue (R165). -/
inductive TxFrame
  | reply (payload : List Byte)
  /-- names its entry only; its content is taken at the hand-over (R179) -/
  | notice (entry : Fin 8)
  | voiceOrders (payload : List Byte)
  | depth (payload : List Byte)
deriving DecidableEq, Repr

/-- The frame being sent: every byte of it and the time its first byte went out (R161, R165). -/
structure Sending where
  bytes : List Byte
  start : Clock
deriving DecidableEq, Repr

/-- One link port, with what the journal and the notice unit hold for the link (09, R67, R176, R181). -/
structure LinkState where
  rx : Receiver := .hunt
  lastByte : Clock := 0
  lineLow : Bool := false
  rxBuf : List (List Byte) := []
  tx : List TxFrame := []
  sending : Option Sending := none
  limit : Limit := .b16
  base0 : Fin 81 := 0
  base1 : Fin 81 := 8
  depthPeriod : Nat := 0
  depthCount : Nat := 0
  depthNumber : BitVec 8 := 0
  stream : Option Stream := none
  notice : NoticeTable := {}
  checkFlag : Bool := false
  overflowFlag : Bool := false
  overrunFlag : Bool := false
  checkErrors : Nat := 0
  overflows : Nat := 0
  lost : Nat := 0
deriving DecidableEq, Repr

/-- The two roles (R167). -/
structure Roles where
  tone : Option Link := none
  panel : Option Link := none
deriving DecidableEq, Repr

/-! ## Calibration store (11) -/

/-- KEY SENSOR entry (R183). -/
structure KeySensor where
  keyRest : Nat
  keyBottom : Nat
  hammerRest : Nat
  hammerTop : Nat
deriving DecidableEq, Repr

/-- One gate bank of a key (R27). -/
structure GateBank where
  gate1 : Nat
  gate2 : Nat
  spacing : Nat
deriving DecidableEq, Repr

/-- GATES entry (R183). -/
structure Gates where
  openBank : GateBank
  blockedBank : GateBank
deriving DecidableEq, Repr

/-- PEDAL SENSOR entry (R183). -/
structure PedalSensor where
  rest : Nat
  full : Nat
deriving DecidableEq, Repr

/-- The calibration link of the option word (R184). -/
inductive CalLink
  | link (l : Link)
  | panelHolder
deriving DecidableEq, Repr

/-- The option word (R184). -/
structure OptionWord where
  protect : Bool
  calLink : CalLink
  /-- lever mode: demand source -/
  leverDemand : Bool
deriving DecidableEq, Repr

/-- The factory region (R183). -/
structure FactoryRegion where
  keySensor : Vector KeySensor 88
  gates : Vector Gates 88
  pedalSensor : Vector PedalSensor 3
  option : OptionWord
deriving DecidableEq, Repr

/-- KEY PROFILE (02, R183). -/
structure KeyProfile where
  press : Nat
  releaseStart : Nat
  noteOff : Nat
  damperStart : Nat
  damperFull : Nat
deriving DecidableEq, Repr

/-- HAMMER (R27). -/
structure HammerParams where
  rearmHeight : Nat
  clearHeight : Nat
  gateTimeoutMs : Nat
  reboundMs : Nat
deriving DecidableEq, Repr

/-- A breakpoint of the touch curve (R35). -/
structure Breakpoint where
  speed : Nat
  level : Nat
deriving DecidableEq, Repr

/-- PEDAL POINTS (R46). -/
structure PedalPoints where
  damperP1 : Nat
  damperP2 : Nat
  softP1 : Nat
  softP2 : Nat
  sostOnAt : Nat
  sostOffAt : Nat
  step : Nat
deriving DecidableEq, Repr

/-- The user region (R183). -/
structure UserRegion where
  trim : Vector Nat 88
  profile : KeyProfile
  hammer : HammerParams
  curve : Vector Breakpoint 9
  pedals : PedalPoints
  dampStep : Nat
  settle : Nat
  period : Nat
  scan : ScanList
  rail : RailParams
  layers : Vector Layer 4
deriving DecidableEq, Repr

/-- A stored image: the contents, and the 16-bit check that a commit writes over them (R183; log 5). -/
structure Image (α : Type) where
  contents : α
  check : BitVec 16
deriving DecidableEq, Repr

/-- The image that a commit of `copy` writes (R183). -/
def Image.written {α : Type} (copy : α) : Image α where
  contents := copy
  check := Config.imageCheck copy

/-- The image passes its check (R183, R189). -/
def Image.passes {α : Type} (im : Image α) : Bool := im.check == Config.imageCheck im.contents

/-- A commit in flight: the copy being written and when it was taken (R188). -/
structure Commit (α : Type) where
  copy : α
  start : Clock
deriving DecidableEq, Repr

/-- One region of the store (R183). -/
structure RegionState (α : Type) where
  stored : Image α
  working : α
  modified : Bool
  /-- the commit in flight; IDLE is none -/
  commit : Option (Commit α)
  /-- the region failed its check at the last start-up (R185) -/
  startFailed : Bool
deriving DecidableEq, Repr

/-- The calibration store. -/
structure Cst where
  factory : RegionState FactoryRegion
  user : RegionState UserRegion
  committedOption : OptionWord
  defaultMarking : Bool
deriving DecidableEq, Repr

/-! ## The whole part -/

/-- Power and start-up (R189, R190). -/
inductive Phase
  /-- power is removed -/
  | off
  /-- reset has taken effect and start-up waits for RESETn to go high -/
  | heldInReset
  /-- the calibration regions are being loaded -/
  | loading
  | running
deriving DecidableEq, Repr

/-- A system reset awaiting its effect (R173, R190). -/
inductive SysReset
  | none
  /-- asked for on link `l`, its reply not yet sent in full -/
  | awaitingReply (l : Link)
  /-- arrived, and held behind the commits still flagged -/
  | arrived (factoryCommit userCommit : Bool)
deriving DecidableEq, Repr

/-- The state of the part, and the queue of commands waiting. -/
structure State where
  phase : Phase
  clock : Clock
  resetnLow : Bool
  sysReset : SysReset
  sfe : Sfe
  keys : Vector KeyRec 88
  pdu : Pdu
  ajn : Ajn
  vas : Vas
  rlc : Rlc
  tks : Tks
  ply : Ply
  links : PerLink LinkState
  roles : Roles
  faults : FaultRecord
  cst : Cst
  /-- draw counter of the free values (log 6); the model's own -/
  freeCount : Nat
  /-- commands waiting, first in, first out; the model's own -/
  pending : List Instr
deriving DecidableEq, Repr

/-- Reasons a command would stop the machine with a fault. The part has no such stop: no command of the
model answers one (log 32). -/
inductive Fault
  /-- Raised by no command. It stands because the interface asks for a type of faults; safe. -/
  | never
deriving DecidableEq, Repr

/-- Reasons a command has no meaning. -/
inductive Refusal
  /-- Raised by exec's arm of a command that has no meaning yet; safe. No arm raises it now. -/
  | notModelled (mnemonic : String)
deriving DecidableEq, Repr

/-! ## Built-in defaults (R3, R78, R183) -/

/-- Group K*g* for a number, group H*g* likewise; numbers past 10 are not used. -/
def kGroup (g : Nat) : Group := .k (Fin.ofNat 11 g)
/-- See `kGroup`. -/
def hGroup (g : Nat) : Group := .h (Fin.ofNat 11 g)

/-- The group of entry `i` of the built-in default list (R3). -/
def defaultGroup (i : Nat) : Group :=
  if i ≤ 10 then hGroup i
  else if i ≤ 16 then kGroup (i - 11)
  else if i ≤ 27 then hGroup (i - 17)
  else if i ≤ 32 then kGroup (i - 28 + 6)
  else if i ≤ 43 then hGroup (i - 33)
  else if i = 44 then .p
  else if i ≤ 55 then hGroup (i - 45)
  else hGroup 0

/-- The built-in default scan list: 56 entries, then H0 entries with the end flag (R3). -/
def defaultScan : ScanList where
  entries := Vector.ofFn fun i =>
    { group := defaultGroup i.val
      next := if i.val ≤ 55 then Fin.ofNat 64 (i.val + 1) else 0
      last := decide (55 ≤ i.val) }
  first := 0

/-- The built-in default layer `i` (R78). -/
def defaultLayer (i : Nat) : Layer where
  enabled := i == 0
  program := 0
  low := 0
  high := 87
  trim := 100
  filter := .both
  follows := true
  acoustic := false

/-- The built-in default layer list (R78). -/
def defaultLayers : Vector Layer 4 := Vector.ofFn fun i => defaultLayer i.val

/-- The built-in default rail parameters (R104). -/
def defaultRail : RailParams where
  duty := 60
  threshold := 99
  filterUs := 200
  blankingMs := 60
  minTravelMs := 150
  maxTravelMs := 1500
  backoffMs := 200
  retryMs := 500
  attempts := 3

/-- The built-in default touch curve (R35). -/
def defaultCurve : Vector Breakpoint 9 :=
  #v[⟨200, 1⟩, ⟨500, 120⟩, ⟨1000, 300⟩, ⟨1500, 450⟩, ⟨2000, 580⟩, ⟨3000, 760⟩, ⟨4000, 880⟩, ⟨5000, 960⟩, ⟨6000, 1023⟩]

/-- The built-in default option word (R183). -/
def defaultOption : OptionWord where
  protect := false
  calLink := .panelHolder
  leverDemand := false

/-- The built-in defaults of the factory region (R183). -/
def defaultFactory : FactoryRegion where
  keySensor := Vector.replicate 88 ⟨400, 3600, 400, 3600⟩
  gates := Vector.replicate 88 ⟨⟨480, 800, 2000⟩, ⟨400, 700, 1500⟩⟩
  pedalSensor := Vector.replicate 3 ⟨400, 3600⟩
  option := defaultOption

/-- The built-in defaults of the user region (R183). -/
def defaultUser : UserRegion where
  trim := Vector.replicate 88 1024
  profile := ⟨600, 700, 300, 150, 450⟩
  hammer := ⟨250, 200, 150, 12⟩
  curve := defaultCurve
  pedals := ⟨100, 700, 80, 880, 500, 350, 8⟩
  dampStep := 4
  settle := 2
  period := 400
  scan := defaultScan
  rail := defaultRail
  layers := defaultLayers

/-! ## Reset values of the blocks -/

/-- The front end after a reset and before its first frame (R2, R3, R20). -/
def Sfe.initial : Sfe where
  keyCh := Vector.replicate 88 {}
  hammerCh := Vector.replicate 88 {}
  pedalCh := Vector.replicate 3 {}
  active := defaultScan
  pendingList := none
  staging := defaultScan
  due := none
  settle := 2
  selected := none
  walk := .noFrame

/-- The voice assigner after a power-on reset (R75, R77, R91, R96). -/
def Vas.initial : Vas where
  slots := Vector.replicate 128 {}
  startCounter := 0
  layers := defaultLayers
  queue := []
  softLive := {}
  softPlay := {}

/-- The rail controller after a reset, for what its two inputs read (R107 to R110). -/
def Rlc.initial (silentLow : Bool) (current : Nat) : Rlc where
  state := .unknown
  leg := none
  obstructions := 0
  lastTravelMs := none
  demand := {}
  leverLow := false
  silentLow := silentLow
  silentSince := 0
  current := current
  sensingSeen := false

/-- The take store after a power-on reset (R124, R126, R129). -/
def Tks.initial : Tks where
  blocks := Vector.replicate 64 .free
  mem := []
  dir := Vector.replicate 8 {}
  recorder := .idle

/-- A region whose stored image holds `d` and passes its check, as loaded by start-up (R189; log 5). -/
def RegionState.initial {α : Type} (d : α) : RegionState α where
  stored := .written d
  working := d
  modified := false
  commit := none
  startFailed := false

/-- The calibration store of a part whose stored images hold the built-in defaults (log 5). -/
def Cst.initial : Cst where
  factory := .initial defaultFactory
  user := .initial defaultUser
  committedOption := defaultOption
  defaultMarking := false

/-- The part right after a power-on reset, its regions read and about to be taken up (R189). -/
def State.reset : State where
  phase := .loading
  clock := 0
  resetnLow := false
  sysReset := .none
  sfe := .initial
  keys := Vector.replicate 88 {}
  pdu := {}
  ajn := {}
  vas := .initial
  rlc := .initial false 0
  tks := .initial
  ply := {}
  links := ⟨{}, {}, {}⟩
  roles := {}
  faults := {}
  cst := .initial
  freeCount := 0
  pending := []

end Sys2Proof.Machine
end

