-- ==== Sys2Proof/Machine/Flags.lean ====
section
/-! DEFINITION. Codes and flag bits: class bits, fault codes, state codes, and the flag bytes of every record a link sees (R62, R174). -/

namespace Sys2Proof.Machine

/-- A flag as bit `n` of a number. -/
def bitAt (n : Nat) (b : Bool) : Nat := if b then 2 ^ n else 0

/-- Bit number of a class in a NOTICE frame (R174). -/
def EventClass.index : EventClass → Nat
  | .journalReady => 0
  | .journalOverrun => 1
  | .railState => 2
  | .railFault => 3
  | .railHeld => 4
  | .playState => 5
  | .takeState => 6
  | .voiceAttention => 7
  | .keyFail => 8
  | .calDone => 9
  | .calInvalid => 10
  | .frameOverrun => 11
  | .linkError => 12
  | .roleChange => 13
  | .staleEnded => 14
  | .pedalFail => 15

/-- A class as a set of one (R174). -/
def EventClass.bit (c : EventClass) : BitVec 16 := BitVec.ofNat 16 (2 ^ c.index)

/-- A class belongs to a class set. -/
def hasClass (set : BitVec 16) (c : EventClass) : Bool := set.getLsbD c.index

/-- Fault kind code (R174); 0 is none. -/
def FaultKind.code : FaultKind → Nat
  | .listLoop => 1
  | .frameOverrun => 2
  | .sensorFail => 3
  | .pedalFail => 4
  | .railObstructed => 5
  | .railTimeout => 6
  | .voiceRefused => 7
  | .staleEnded => 8
  | .takeFull => 9
  | .calInvalid => 10
  | .calWriteFail => 11

/-- The device flag of a fault kind: bit code − 1 (R174). -/
def FaultKind.bit (k : FaultKind) : BitVec 16 := BitVec.ofNat 16 (2 ^ (k.code - 1))

/-- The device flags that exist: the eleven of R181. -/
def deviceFlagMask : BitVec 16 := 0x07FF

/-- State codes carried by RAIL events (R62). -/
def RailState.code : RailState → Nat
  | .unknown => 0
  | .homing => 1
  | .openState => 2
  | .closing => 3
  | .blocked => 4
  | .opening => 5
  | .waiting _ => 6
  | .backoff _ => 7
  | .fault => 8

/-- Kind codes of action events (R174). -/
def EventKind.code : EventKind → Nat
  | .strike => 0
  | .restrike => 1
  | .release => 2
  | .damper => 3
  | .sostenuto => 4
  | .soft => 5
  | .keyFail => 6
  | .keyRecover => 7
  | .rail => 8
  | .playMark => 9

/-- Kind codes of take records (R174). -/
def TakeKind.code : TakeKind → Nat
  | .strike => 0
  | .release => 1
  | .damper => 2
  | .sostenuto => 3
  | .soft => 4
  | .pause => 5

/-- The take record kind of a code, none for the codes that name none (R137, R174). -/
def TakeKind.ofCode : Nat → Option TakeKind
  | 0 => some .strike
  | 1 => some .release
  | 2 => some .damper
  | 3 => some .sostenuto
  | 4 => some .soft
  | 5 => some .pause
  | _ => none

/-- Directory state codes (R174). -/
def TakeState.code : TakeState → Nat
  | .empty => 0
  | .recording => 1
  | .loading => 2
  | .closed => 3

/-- Guide mode codes (R174). -/
def GuideMode.code : GuideMode → Nat
  | .none => 0
  | .mute => 1
  | .wait => 2

/-- Source filter codes (R174). -/
def SourceFilter.code : SourceFilter → Nat
  | .live => 0
  | .playback => 1
  | .both => 2

/-- The source filter of a code. -/
def SourceFilter.ofCode : Nat → Option SourceFilter
  | 0 => some .live
  | 1 => some .playback
  | 2 => some .both
  | _ => none

/-- Link codes: 3 is none (R174). -/
def linkCode : Option Link → Nat
  | some .a => 0
  | some .b => 1
  | some .c => 2
  | none => 3

/-- Calibration link codes (R174). -/
def CalLink.code : CalLink → Nat
  | .link .a => 0
  | .link .b => 1
  | .link .c => 2
  | .panelHolder => 3

/-- The calibration link of a code. -/
def CalLink.ofCode : Nat → Option CalLink
  | 0 => some (.link .a)
  | 1 => some (.link .b)
  | 2 => some (.link .c)
  | 3 => some .panelHolder
  | _ => none

/-- Select code of a group (R1). -/
def Group.code : Group → Nat
  | .k g => g.val
  | .h g => 16 + g.val
  | .p => 12

/-- The group a select code selects, none for the codes not listed (R1). -/
def Group.ofCode (n : Nat) : Option Group :=
  if h : n < 11 then some (.k ⟨n, h⟩)
  else if n = 12 then some .p
  else if h : 16 ≤ n ∧ n < 27 then some (.h ⟨n - 16, by omega⟩)
  else none

/-- The code on MSEL0 to MSEL4: 31 while no group is selected (R1). -/
def muxSelect (s : State) : Nat :=
  match s.sfe.selected with
  | some g => g.code
  | none => 31

/-- A payload limit in bytes (R166). -/
def Limit.bytes : Limit → Nat
  | .b16 => 16
  | .b32 => 32
  | .b64 => 64

/-- Key state code (R174). -/
def KeyState.code : KeyState → Nat
  | .up => 0
  | .down => 1
  | .rising _ _ => 2

/-- Hammer state code (R174). -/
def HammerState.code : HammerState → Nat
  | .ready => 0
  | .armed _ _ => 1
  | .spent => 2

/-- The armed bank is BLOCKED (R174). -/
def HammerState.armedBlocked : HammerState → Bool
  | .armed .blockedEnd _ => true
  | _ => false

/-- Byte 1 of a key record as read (R174). -/
def keyFlagByte (k : KeyRec) : Nat :=
  k.state.code + 4 * k.hammer.code + bitAt 4 k.sounding + bitAt 5 k.heldOut + bitAt 6 k.depthFailed
    + bitAt 7 k.hammerFailed

/-- Byte 11 of a key record as read (R174). DESIGN CHOICE (log 47): bit 0 is 0 while the hammer is not ARMED and has no
armed bank. -/
def keyTailByte (k : KeyRec) (captured : Bool) : Nat :=
  bitAt 0 k.hammer.armedBlocked + bitAt 1 k.rearm.isSome + bitAt 2 captured

/-- The two bytes 0 and 1 of a window entry, as a number (R174). -/
def windowWord (k : KeyRec) : Nat :=
  k.depth % 1024 + 1024 * k.state.code + 4096 * k.hammer.code + bitAt 14 k.sounding + bitAt 15 k.heldOut

/-- Bytes 10 and 11 of an action event, as a number (R174); a flag that does not apply is clear (R63). -/
def eventWord (value : Nat) (f : EventFlags) : Nat :=
  value % 1024 + bitAt 10 (f.bank == some .blockedEnd) + bitAt 11 f.transit + bitAt 12 f.calDefault
    + bitAt 13 f.failed + bitAt 14 f.guide

/-- Byte 8 of an action event (R174). -/
def eventKindByte (k : EventKind) (src : Source) : Nat := k.code + bitAt 4 (src == .playback)

/-- Slot state code: 0 FREE, 1 RINGING, 2 DAMPED (R174). -/
def VoiceSlot.code (v : VoiceSlot) : Nat :=
  match v.voice with
  | none => 0
  | some x => if x.damped then 2 else 1

/-- Members of the demand set in bits 0 to 3 (R174). -/
def Demand.bits (d : Demand) : Nat := bitAt 0 d.a + bitAt 1 d.b + bitAt 2 d.c + bitAt 3 d.lever

/-- Flags byte of a link's section of the fault record (R174). -/
def LinkState.flagByte (ls : LinkState) : Nat :=
  bitAt 0 ls.checkFlag + bitAt 1 ls.overflowFlag + bitAt 2 ls.overrunFlag

/-- The byte of one entry in the reply to NOTICE MASK (R174). -/
def NoticeEntry.statusByte (e : NoticeEntry) : Nat :=
  bitAt 0 (e.classes != 0) + bitAt 1 e.mask + bitAt 2 e.pending + bitAt 3 e.queued

/-- Roles held by a link: bit 0 TONE, bit 1 PANEL (R174). -/
def rolesHeld (r : Roles) (l : Link) : Nat := bitAt 0 (r.tone == some l) + bitAt 1 (r.panel == some l)

/-- First byte of a directory entry (R174). -/
def TakeEntry.flagByte (t : TakeNo) (e : TakeEntry) : Nat :=
  t.val + 8 * e.state.code + bitAt 5 e.kept + bitAt 6 e.truncated

/-- Layer flag byte (R174). -/
def Layer.flagByte (y : Layer) : Nat :=
  bitAt 0 y.enabled + bitAt 1 y.follows + bitAt 2 y.acoustic + 16 * y.filter.code

end Sys2Proof.Machine
end

