-- ==== Sys2Proof/Machine/Operands.lean ====
section
/-! DEFINITION. Operands as bytes: byte order, the check of R161, what a request carries, and every record layout of R174. -/

namespace Sys2Proof.Machine

/-! ## Bytes -/

/-- The low byte of a number. -/
def byteOf (n : Nat) : Byte := BitVec.ofNat 8 n

/-- A 16-bit number, low byte first (R174). -/
def le16 (n : Nat) : List Byte := [byteOf n, byteOf (n / 256)]

/-- A 32-bit number, low byte first (R174). -/
def le32 (n : Nat) : List Byte := [byteOf n, byteOf (n / 256), byteOf (n / 65536), byteOf (n / 16777216)]

/-- Byte `i` of a list as a number. It is read only where the list is known to reach that far. -/
def byteAt (bs : List Byte) (i : Nat) : Nat := (bs.getD i 0).toNat

/-- The 16-bit number at `i`, low byte first (R174). -/
def word16At (bs : List Byte) (i : Nat) : Nat := byteAt bs i + 256 * byteAt bs (i + 1)

/-- The 32-bit number at `i`, low byte first (R174). -/
def word32At (bs : List Byte) (i : Nat) : Nat := word16At bs i + 65536 * word16At bs (i + 2)

/-- Bit `n` of byte `i`. -/
def bitOf (bs : List Byte) (i n : Nat) : Bool := (bs.getD i 0).getLsbD n

/-! ## The check byte (R161) -/

/-- One shift of the check register (R161): the polynomial's low eight bits are 07h. -/
def crcShift (r : Byte) : Byte := if r.getLsbD 7 then (r <<< 1) ^^^ 0x07 else r <<< 1

/-- One byte folded into the check register and shifted eight times (R161). -/
def crcByte (r b : Byte) : Byte :=
  crcShift (crcShift (crcShift (crcShift (crcShift (crcShift (crcShift (crcShift (r ^^^ b))))))))

/-- The check over a list of bytes, from 0 (R161). -/
def crc8 (bs : List Byte) : Byte := bs.foldl crcByte 0

/-- The sync byte C3h (R174). -/
def syncByte : Byte := 0xC3

/-- A payload in its envelope: sync, length, payload, check (R161, R174). -/
def envelope (payload : List Byte) : List Byte :=
  let body := byteOf payload.length :: payload
  syncByte :: (body ++ [crc8 body])

/-! ## Requests and replies -/

/-- Result codes (R164); `guarded` is PROTECTED. -/
inductive Result | done | busy | role | argument | state | full | guarded | unknown
deriving DecidableEq, Repr

/-- The code of a result (R174). -/
def Result.code : Result → Nat
  | .done => 0
  | .busy => 1
  | .role => 2
  | .argument => 3
  | .state => 4
  | .full => 5
  | .guarded => 6
  | .unknown => 7

/-- A result code with the reply's data (R164). -/
structure Reply where
  result : Result
  data : List Byte := []
deriving DecidableEq, Repr

/-- Kind bytes of the requests (R174). -/
def kHello : Byte := 0x01
def kSetLink : Byte := 0x02
def kClaimRole : Byte := 0x03
def kLinkReset : Byte := 0x0F
def kReadKeys : Byte := 0x10
def kSetWindow : Byte := 0x11
def kReadWindow : Byte := 0x12
def kDepthStream : Byte := 0x13
def kSetScanList : Byte := 0x14
def kOpenJournal : Byte := 0x18
def kReadJournal : Byte := 0x19
def kCloseJournal : Byte := 0x1A
def kSetLayers : Byte := 0x20
def kReadVoices : Byte := 0x21
def kVoiceEnded : Byte := 0x22
def kRailDemand : Byte := 0x28
def kRailRecover : Byte := 0x29
def kReadRail : Byte := 0x2A
def kTakeRecord : Byte := 0x30
def kTakeStop : Byte := 0x31
def kTakeLoad : Byte := 0x32
def kWriteTakeRecords : Byte := 0x33
def kLoadEnd : Byte := 0x34
def kTakeKeep : Byte := 0x35
def kTakeUnkeep : Byte := 0x36
def kTakeErase : Byte := 0x37
def kReadTakeDirectory : Byte := 0x38
def kReadTakeRecords : Byte := 0x39
def kTakePlay : Byte := 0x40
def kStop : Byte := 0x41
def kPause : Byte := 0x42
def kResume : Byte := 0x43
def kSetTempo : Byte := 0x44
def kSetLoop : Byte := 0x45
def kClearLoop : Byte := 0x46
def kSetGuide : Byte := 0x47
def kCalRead : Byte := 0x50
def kCalWrite : Byte := 0x51
def kCalCommit : Byte := 0x52
def kCalDefaults : Byte := 0x53
def kNoticeSet : Byte := 0x58
def kNoticeMask : Byte := 0x59
def kReadFaults : Byte := 0x5A
def kClearFaults : Byte := 0x5B
def kSystemReset : Byte := 0x60
/-- Kind bytes of the unprompted frames (R174). -/
def kNotice : Byte := 0x70
def kVoiceOrder : Byte := 0x71
def kDepth : Byte := 0x72

/-- The request command that takes a frame of the given kind; none where the kind names no request (R164, R174). -/
def requestCommand (l : Link) (kind : Byte) : Option Instr :=
  if kind = kHello then some (.hello l)
  else if kind = kSetLink then some (.setLink l)
  else if kind = kClaimRole then some (.claimRole l)
  else if kind = kReadKeys then some (.readKeys l)
  else if kind = kSetWindow then some (.setWindow l)
  else if kind = kReadWindow then some (.readWindow l)
  else if kind = kDepthStream then some (.depthStream l)
  else if kind = kSetScanList then some (.setScanList l)
  else if kind = kOpenJournal then some (.openJournal l)
  else if kind = kReadJournal then some (.readJournal l)
  else if kind = kCloseJournal then some (.closeJournal l)
  else if kind = kSetLayers then some (.setLayers l)
  else if kind = kReadVoices then some (.readVoices l)
  else if kind = kVoiceEnded then some (.voiceEnded l)
  else if kind = kRailDemand then some (.railDemand l)
  else if kind = kRailRecover then some (.railRecover l)
  else if kind = kReadRail then some (.readRail l)
  else if kind = kTakeRecord then some (.takeRecord l)
  else if kind = kTakeStop then some (.takeStop l)
  else if kind = kTakeLoad then some (.takeLoad l)
  else if kind = kWriteTakeRecords then some (.writeTakeRecords l)
  else if kind = kLoadEnd then some (.loadEnd l)
  else if kind = kTakeKeep then some (.takeKeep l)
  else if kind = kTakeUnkeep then some (.takeUnkeep l)
  else if kind = kTakeErase then some (.takeErase l)
  else if kind = kReadTakeDirectory then some (.readTakeDirectory l)
  else if kind = kReadTakeRecords then some (.readTakeRecords l)
  else if kind = kTakePlay then some (.takePlay l)
  else if kind = kStop then some (.stop l)
  else if kind = kPause then some (.pause l)
  else if kind = kResume then some (.resume l)
  else if kind = kSetTempo then some (.setTempo l)
  else if kind = kSetLoop then some (.setLoop l)
  else if kind = kClearLoop then some (.clearLoop l)
  else if kind = kSetGuide then some (.setGuide l)
  else if kind = kCalRead then some (.calRead l)
  else if kind = kCalWrite then some (.calWrite l)
  else if kind = kCalCommit then some (.calCommit l)
  else if kind = kCalDefaults then some (.calDefaults l)
  else if kind = kNoticeSet then some (.noticeSet l)
  else if kind = kNoticeMask then some (.noticeMask l)
  else if kind = kReadFaults then some (.readFaults l)
  else if kind = kClearFaults then some (.clearFaults l)
  else if kind = kSystemReset then some (.systemReset l)
  else none

/-- A number as an index below `n`, none when it is too large. -/
def finOf (n v : Nat) : Option (Fin n) := if h : v < n then some ⟨v, h⟩ else none

/-! ## Operands a request carries (R174) -/

/-- The scan list entries carried by SET SCAN LIST, `n` of them from byte `i`; none when an entry names
no group (R6). A next index is a 7-bit field; one over 63 gives none. -/
def scanEntriesAt (bs : List Byte) : Nat → Nat → Option (List ScanEntry)
  | _, 0 => some []
  | i, n + 1 => do
    let group ← Group.ofCode (byteAt bs i)
    let next ← finOf 64 (byteAt bs (i + 1) % 128)
    let rest ← scanEntriesAt bs (i + 2) n
    pure ({ group := group, next := next, last := bitOf bs (i + 1) 7 } :: rest)

/-- The layer entry at byte `i`, its trim clamped to 200; none for a key over 87, a low key above its high
key, or an unknown source filter (R79). -/
def layerAt (bs : List Byte) (i : Nat) : Option Layer := do
  let low ← finOf 88 (byteAt bs (i + 2))
  let high ← finOf 88 (byteAt bs (i + 3))
  let filter ← SourceFilter.ofCode (byteAt bs i / 16 % 4)
  if high < low then none
  pure
    { enabled := bitOf bs i 0
      program := byteAt bs (i + 1)
      low := low
      high := high
      trim := min (byteAt bs (i + 4)) 200
      filter := filter
      follows := bitOf bs i 1
      acoustic := bitOf bs i 2 }

/-- The pairs of VOICE ENDED; a last odd byte is ignored (R97, R174). -/
def endedPairs : List Byte → List (Nat × Byte)
  | s :: g :: rest => (s.toNat, g) :: endedPairs rest
  | _ => []

/-- The take record in a 32-bit word: bits 0 to 3 kind, 4 to 10 key, 11 to 20 value, 21 to 31 delta; none
for an unknown kind or a key above 87 (R137, R174). -/
def takeRecOfWord (w : Nat) : Option TakeRec := do
  let kind ← TakeKind.ofCode (w % 16)
  let key ← finOf 88 (w / 16 % 128)
  pure { kind := kind, key := key, value := w / 2048 % 1024, delta := w / 2097152 % 2048 }

/-- The batch of take records from byte `i` on: `n` whole records (R137). -/
def takeRecsAt (bs : List Byte) : Nat → Nat → Option (List TakeRec)
  | _, 0 => some []
  | i, n + 1 => do
    let r ← takeRecOfWord (word32At bs i)
    let rest ← takeRecsAt bs (i + 4) n
    pure (r :: rest)

/-! ## Record layouts (R174) -/

/-- A take record as a 32-bit word (R174). -/
def TakeRec.word (r : TakeRec) : Nat :=
  r.kind.code + 16 * r.key.val + 2048 * (r.value % 1024) + 2097152 * (r.delta % 2048)

/-- An action event, 12 bytes (R174). -/
def JournalEvent.bytes (e : JournalEvent) : List Byte :=
  le32 e.seq.toNat ++ le32 e.event.time.toNat
    ++ [byteOf (eventKindByte e.event.kind e.event.source), byteOf (e.event.key.getD 255)]
    ++ le16 (eventWord e.event.value e.event.flags)

/-- A raw sample as read: FFFFh when absent (R174). -/
def rawWord (c : ChannelRec) : Nat := c.lastRaw.getD 65535

/-- A layer entry, 5 bytes (R174). -/
def Layer.bytes (y : Layer) : List Byte :=
  [byteOf y.flagByte, byteOf y.program, byteOf y.low.val, byteOf y.high.val, byteOf y.trim]

/-- A voice order, 8 bytes (R174). -/
def VoiceOrder.bytes : VoiceOrder → List Byte
  | .start slot gen key program level src re st =>
    [byteOf (1 + bitAt 4 re + bitAt 5 st + bitAt 6 (src == .playback)), byteOf slot.val, gen, byteOf key.val,
      byteOf program] ++ le16 level ++ [0]
  | .damp slot gen lift => [2, byteOf slot.val, gen, byteOf lift, 0, 0, 0, 0]
  | .soft src level => [byteOf (3 + bitAt 6 (src == .playback)), 0, 0, byteOf level, 0, 0, 0, 0]

/-- A voice slot as read, 8 bytes (R174): bytes 3 to 7 are 0 for a FREE slot. DESIGN CHOICE (log 47): bits 3 to 6 of
byte 1, the source, follows and layer of a voice, are 0 for one too. -/
def VoiceSlot.bytes (n : Slot) (v : VoiceSlot) : List Byte :=
  match v.voice with
  | none => [byteOf n.val, byteOf (v.code + bitAt 2 v.stale), v.gen, 0, 0, 0, 0, 0]
  | some x =>
    [byteOf n.val,
      byteOf (v.code + bitAt 2 v.stale + bitAt 3 (x.source == .playback) + bitAt 4 x.follows + 32 * x.layer.val),
      v.gen, byteOf x.key.val] ++ le16 x.level ++ [byteOf x.applied, byteOf x.lastSent]

/-- A directory entry, 11 bytes (R174). -/
def TakeEntry.bytes (t : TakeNo) (e : TakeEntry) : List Byte :=
  [byteOf (e.flagByte t)] ++ le16 e.count ++ le32 e.duration ++ le16 e.strikes ++ le16 e.tag

end Sys2Proof.Machine
end

