-- ==== Sys2Proof/Machine/Ops.lean ====
section
/-! DEFINITION. The named operations every block uses: clock differences, sets of keys, links, notices, the fault record, the journal, requests and replies, take memory. -/

namespace Sys2Proof.Machine

/-! ## Numbers and the clock -/

/-- Clamped to `lo`…`hi` (00, Conventions). -/
def clamp (lo hi v : Nat) : Nat := if v < lo then lo else if hi < v then hi else v

/-- A counter increased by 1 that stays at 65,535 (R181). -/
def satInc (n : Nat) : Nat := min (n + 1) 65535

/-- Time from `t` to `now` in µs, modulo 2^32 (00, Time base). -/
def elapsed (now t : Clock) : Nat := (now - t).toNat

/-- The clock has reached `t`: the difference, taken modulo 2^32, is below 2^31 (00, Time base; R132). -/
def reached (now t : Clock) : Bool := decide (elapsed now t < 2147483648)

/-! ## Sets of keys -/

/-- The empty set. -/
def KeySet.empty : KeySet := Vector.replicate 88 false

/-- Membership. -/
def KeySet.has (S : KeySet) (k : Key) : Bool := S[k]

/-- `S` with `k`. -/
def KeySet.add (S : KeySet) (k : Key) : KeySet := S.set k true

/-- `S` without `k`. -/
def KeySet.drop (S : KeySet) (k : Key) : KeySet := S.set k false

/-- Number of members. -/
def KeySet.size (S : KeySet) : Nat := (List.finRange 88).countP fun k => S[k]

/-- The set of the keys for which `p` holds. -/
def KeySet.ofPred (p : Key → Bool) : KeySet := Vector.ofFn p

/-- Members of either set. -/
def KeySet.union (S T : KeySet) : KeySet := KeySet.ofPred fun k => S.has k || T.has k

/-! ## Links -/

/-- The state of link `l`. -/
def State.link (s : State) (l : Link) : LinkState := s.links.get l

/-- Link `l` changed by `f`; nothing else. -/
def onLink (l : Link) (f : LinkState → LinkState) (s : State) : State :=
  { s with links := s.links.set l (f (s.links.get l)) }

/-- Every link changed by `f`; nothing else. -/
def onEveryLink (f : LinkState → LinkState) (s : State) : State :=
  { s with links := ⟨f s.links.a, f s.links.b, f s.links.c⟩ }

/-- A frame in a transmit queue that is not the reply. -/
def TxFrame.unprompted : TxFrame → Bool
  | .reply _ => false
  | _ => true

/-- One of the seven unprompted places is free (R165). -/
def LinkState.placeFree (ls : LinkState) : Bool := ls.tx.countP TxFrame.unprompted < Config.unpromptedPlaces

/-- The reply place is empty (R164, R165). -/
def LinkState.replyFree (ls : LinkState) : Bool := ls.tx.all TxFrame.unprompted

/-- A VOICE ORDER frame waits in the transmit queue (R95). -/
def LinkState.ordersWaiting (ls : LinkState) : Bool :=
  ls.tx.any fun f => match f with
    | .voiceOrders _ => true
    | _ => false

/-! ## Notices (10) -/

/-- Entry `i` of a notice table replaced. -/
def LinkState.setEntry (ls : LinkState) (i : Fin 8) (e : NoticeEntry) : LinkState :=
  { ls with notice := { ls.notice with entries := ls.notice.entries.set i e } }

/-- Entry `i` of a notice table. -/
def LinkState.entry (ls : LinkState) (i : Fin 8) : NoticeEntry := ls.notice.entries[i]

/-- A NOTICE frame of entry `i` joins the transmit queue: queued-unsent is set and pending cleared (R178, R179). -/
def LinkState.queueNotice (ls : LinkState) (i : Fin 8) : LinkState :=
  let e := ls.entry i
  { ls.setEntry i { e with queued := true, pending := false } with tx := ls.tx ++ [.notice i] }

/-- What a class raised on a link does to entry `i` of its table (R178, steps 1 to 5). -/
def LinkState.raiseEntry (c : EventClass) (ls : LinkState) (i : Fin 8) : LinkState :=
  let e := ls.entry i
  if i.val < ls.notice.grant && hasClass e.classes c then
    let ls1 := ls.setEntry i { e with acc := e.acc ||| c.bit }
    if e.mask || ls.notice.linkMask then
      ls.setEntry i { e with acc := e.acc ||| c.bit, pending := true }
    else if e.queued then ls1
    else if ls.placeFree then ls1.queueNotice i
    else ls.setEntry i { e with acc := e.acc ||| c.bit, pending := true }
  else ls

/-- A class raised on one link (R175, R178): each granted entry that includes it is handled on its own, in rising entry
number (log 41). -/
def LinkState.raise (c : EventClass) (ls : LinkState) : LinkState :=
  if ls.notice.enable then (List.finRange 8).foldl (LinkState.raiseEntry c) ls else ls

/-- A class raised on link `l` alone (R175). -/
def raiseOn (l : Link) (c : EventClass) (s : State) : State := onLink l (LinkState.raise c) s

/-- A class raised on every link (R175). -/
def raiseAll (c : EventClass) (s : State) : State := onEveryLink (LinkState.raise c) s

/-- Entry `i` waits for a freed place (R179): granted, pending, unmasked, its link enabled and unmasked, and no
frame of it queued. -/
def LinkState.eligible (ls : LinkState) (i : Fin 8) : Bool :=
  let e := ls.entry i
  decide (i.val < ls.notice.grant) && e.pending && !e.mask && !ls.notice.linkMask && ls.notice.enable && !e.queued

/-- The lowest-numbered entry that waits for a freed place (R179). -/
def LinkState.nextEligible (ls : LinkState) : Option (Fin 8) := (List.finRange 8).find? ls.eligible

/-- A NOTICE frame of entry `i` is withdrawn from the transmit queue, which frees its place (R176, R177). -/
def LinkState.withdraw (ls : LinkState) (i : Fin 8) : LinkState :=
  { ls with tx := ls.tx.filter fun f => f != .notice i }

/-! ## The fault record (R181) -/

/-- A fault kind reported: its flag is set, and it becomes the first fault kind if there is none. -/
def reportFault (k : FaultKind) (s : State) : State :=
  { s with faults := { s.faults with flags := s.faults.flags ||| k.bit, first := s.faults.first.or (some k) } }

/-! ## The journal (04) -/

/-- The oldest held sequence number (R65). -/
def Ajn.oldest (j : Ajn) : Seq := j.next - BitVec.ofNat 32 j.ring.length

/-- The unread count of a stream (R67). -/
def unread (next cursor : Seq) : Nat := (next - cursor).toNat

/-- What an append does to one link's stream: the cursor of the event overwritten moves up and the loss is
counted (R71), or the unread count reaches the threshold (R72). `next` is the number the new event is given. -/
def LinkState.appendSeen (next : Seq) (overwritten : Option Seq) (ls : LinkState) : LinkState :=
  match ls.stream with
  | none => ls
  | some st =>
    if overwritten = some st.cursor then
      LinkState.raise .journalOverrun
        { ls with stream := some { st with cursor := st.cursor + 1 }, lost := satInc ls.lost, overrunFlag := true }
    else if unread next st.cursor + 1 = st.threshold then ls.raise .journalReady
    else ls

/-- The ring after an append: the oldest of 512 gives way (R65). -/
def Ajn.push (j : Ajn) (e : Event) : Ajn where
  next := j.next + 1
  ring := (if j.ring.length < Config.ringLimit then j.ring else j.ring.drop 1) ++ [{ seq := j.next, event := e }]

/-- The sequence number an append overwrites, when the ring is full (R65). -/
def Ajn.overwrites (j : Ajn) : Option Seq := if j.ring.length < Config.ringLimit then none else some j.oldest

/-- An event appended to the journal (R64, R65, R71, R72). -/
def appendEvent (e : Event) (s : State) : State :=
  onEveryLink (LinkState.appendSeen s.ajn.next s.ajn.overwrites) { s with ajn := s.ajn.push e }

/-! ## Requests and replies (R164) -/

/-- The payload of a reply: the request's kind with its top bit set, the result code and the data, cut at the
payload limit (R164). -/
def replyPayload (limit : Limit) (kind : Byte) (r : Reply) : List Byte :=
  ((kind ||| 0x80) :: byteOf r.result.code :: r.data).take limit.bytes

/-- The reply joins the transmit queue, in the reply place (R164, R165). -/
def putReply (l : Link) (kind : Byte) (r : Reply) (s : State) : State :=
  onLink l (fun ls => { ls with tx := ls.tx ++ [.reply (replyPayload ls.limit kind r)] }) s

/-- The request at the head of link `l`'s receive buffer leaves it (R164). -/
def popRequest (l : Link) (s : State) : State := onLink l (fun ls => { ls with rxBuf := ls.rxBuf.drop 1 }) s

/-- The frame link `l` can take now: the part is running, the reply place is empty and a frame is at the head of
the receive buffer (R164). Its kind, and the bytes after the kind. -/
def headRequest (l : Link) (s : State) : Option (Byte × List Byte) :=
  if s.phase = .running ∧ (s.link l).replyFree = true then
    match (s.link l).rxBuf with
    | (kind :: args) :: _ => some (kind, args)
    | _ => none
  else none

/-- A request of kind `kind` taken from link `l`: it leaves the buffer, has its whole effect, and its reply goes into
the reply place (R164). Where no such request can be taken, nothing happens (log 2). -/
def serve (l : Link) (kind : Byte) (effect : List Byte → State → State × Reply) (s : State) : State :=
  match headRequest l s with
  | some (k, args) =>
    if k = kind then
      let out := effect args (popRequest l s)
      putReply l kind out.2 out.1
    else s
  | none => s

/-- A request refused with a result: it changes nothing (00, Conventions; R164). -/
def refuse (r : Result) (s : State) : State × Reply := (s, { result := r })

/-- A request answered DONE with data, the state being as its rule leaves it. -/
def done (s : State) (data : List Byte := []) : State × Reply := (s, { result := .done, data := data })

/-- A request whose payload is shorter than its fields require is answered ARGUMENT and changes nothing (R164). -/
def needs (n : Nat) (args : List Byte) (s : State) (go : State × Reply) : State × Reply :=
  if args.length < n then refuse .argument s else go

/-- Link `l` holds PANEL. -/
def holdsPanel (s : State) (l : Link) : Bool := s.roles.panel == some l

/-- Link `l` holds TONE. -/
def holdsTone (s : State) (l : Link) : Bool := s.roles.tone == some l

/-! ## Take memory (R124) -/

/-- Address of a place of a block (R124). -/
def takeAddr (b : Block) (place : Nat) : Nat := b.val * 256 + place

/-- The record at an address; none where nothing is held. -/
def TakeMem.read (m : TakeMem) (a : Nat) : Option TakeRec :=
  match m with
  | [] => none
  | (a', r) :: rest => if a = a' then some r else TakeMem.read rest a

/-- A record written at an address, keeping addresses rising. -/
def TakeMem.write (m : TakeMem) (a : Nat) (r : TakeRec) : TakeMem :=
  match m with
  | [] => [(a, r)]
  | (a', r') :: rest =>
    if a < a' then (a, r) :: (a', r') :: rest
    else if a = a' then (a, r) :: rest
    else (a', r') :: TakeMem.write rest a r

/-- The canonical form: addresses strictly rising, inside the 64 blocks of 256 places. -/
def TakeMem.wf (m : TakeMem) : Bool :=
  decide ((m.map (·.1)).Pairwise (· < ·)) && m.all fun c => c.1 < 16384

/-- A value of a vector changed by `f` at index `i`. -/
def vmodify {α : Type} {n : Nat} (v : Vector α n) (i : Fin n) (f : α → α) : Vector α n := v.set i (f v[i])

/-! ## Updates of one field -/

/-- Key record `k` changed by `f`. -/
def onKey (k : Key) (f : KeyRec → KeyRec) (s : State) : State := { s with keys := vmodify s.keys k f }

/-- The key record of `k`. -/
def State.key (s : State) (k : Key) : KeyRec := s.keys[k]

/-- The player changed by `f`. -/
def onPly (f : Ply → Ply) (s : State) : State := { s with ply := f s.ply }

/-- The rail controller changed by `f`. -/
def onRlc (f : Rlc → Rlc) (s : State) : State := { s with rlc := f s.rlc }

/-- The front end changed by `f`. -/
def onSfe (f : Sfe → Sfe) (s : State) : State := { s with sfe := f s.sfe }

end Sys2Proof.Machine
end

