-- ==== Sys2Proof/Machine/Journal.lean ====
section
/-! DEFINITION. The requests of the journal: OPEN JOURNAL, READ JOURNAL, CLOSE JOURNAL (04, R171). -/

namespace Sys2Proof.Machine

/-- A stream opened on a link, with JOURNAL_READY at once when the unread count reaches the threshold (R68, R72). -/
def LinkState.openStream (next : Seq) (st : Stream) (ls : LinkState) : LinkState :=
  let l1 := { ls with stream := some st }
  if st.threshold ≤ unread next st.cursor then l1.raise .journalReady else l1

/-- OPEN JOURNAL's effect (R68). -/
def openJournalEffect (l : Link) (args : List Byte) (s : State) : State × Reply :=
  needs 3 args s
    (let start := byteAt args 0
     if 1 < start then refuse .argument s
     else
       let cursor := if start = 0 then s.ajn.oldest else s.ajn.next
       let st : Stream := { cursor := cursor, threshold := clamp 1 256 (word16At args 1) }
       done (onLink l (LinkState.openStream s.ajn.next st) s)
         (le32 cursor.toNat ++ le16 (unread s.ajn.next cursor)))

/-- OPEN_JOURNAL (R68, R72). -/
def execOpenJournal (l : Link) (s : State) : Host.Outcome State Fault Refusal :=
  .next (serve l kOpenJournal (openJournalEffect l) s)

/-- The number of events a READ JOURNAL returns (R69). -/
def eventsReturned (limit : Limit) (n unreadCount : Nat) : Nat := min n (min unreadCount ((limit.bytes - 4) / 12))

/-- The held events from a cursor on, oldest first (R67). -/
def Ajn.eventsFrom (j : Ajn) (cursor : Seq) : List JournalEvent := j.ring.drop (j.ring.length - unread j.next cursor)

/-- READ JOURNAL's effect (R69). -/
def readJournalEffect (l : Link) (args : List Byte) (s : State) : State × Reply :=
  needs 1 args s
    (match (s.link l).stream with
    | none => refuse .state s
    | some st =>
      let left := unread s.ajn.next st.cursor
      let n := eventsReturned (s.link l).limit (byteAt args 0) left
      done (onLink l (fun ls => { ls with stream := some { st with cursor := st.cursor + BitVec.ofNat 32 n } }) s)
        ([byteOf n, byteOf (min (left - n) 255)]
          ++ ((s.ajn.eventsFrom st.cursor).take n).flatMap JournalEvent.bytes))

/-- READ_JOURNAL (R69). -/
def execReadJournal (l : Link) (s : State) : Host.Outcome State Fault Refusal :=
  .next (serve l kReadJournal (readJournalEffect l) s)

/-- CLOSE JOURNAL's effect (R171). -/
def closeJournalEffect (l : Link) (_args : List Byte) (s : State) : State × Reply :=
  if (s.link l).stream.isSome then done (onLink l (fun ls => { ls with stream := none }) s) else refuse .state s

/-- CLOSE_JOURNAL (R171). -/
def execCloseJournal (l : Link) (s : State) : Host.Outcome State Fault Refusal :=
  .next (serve l kCloseJournal (closeJournalEffect l) s)

end Sys2Proof.Machine
end

