-- ==== Sys2Proof/Machine/TakeOps.lean ====
section
/-! DEFINITION. The take store's shared operations: blocks and chains, writing and reading records, the recorder (07). -/

namespace Sys2Proof.Machine

/-- The take store changed by `f`. -/
def onTks (f : Tks → Tks) (s : State) : State := { s with tks := f s.tks }

/-- Directory entry of take `t`. -/
def State.take (s : State) (t : TakeNo) : TakeEntry := s.tks.dir[t]

/-- Directory entry of take `t` changed by `f`. -/
def onTake (t : TakeNo) (f : TakeEntry → TakeEntry) (s : State) : State :=
  onTks (fun k => { k with dir := vmodify k.dir t f }) s

/-! ## Blocks (R124, R125) -/

/-- The blocks of a chain from `b`, at most `fuel` of them (R124). -/
def chainFrom (blocks : Vector BlockEntry 64) : Nat → Block → List Block
  | 0, _ => []
  | fuel + 1, b =>
    match blocks[b] with
    | .next b' => b :: chainFrom blocks fuel b'
    | _ => [b]

/-- The blocks that take `t` owns, in chain order (R124). -/
def takeChain (s : State) (t : TakeNo) : List Block :=
  match (s.take t).firstBlock with
  | some b => chainFrom s.tks.blocks 64 b
  | none => []

/-- The number of FREE blocks (R141). -/
def freeBlocks (s : State) : Nat := (List.finRange 64).countP fun b => s.tks.blocks[b] == .free

/-- The lowest-numbered FREE block (R125). -/
def lowestFree (s : State) : Option Block := (List.finRange 64).find? fun b => s.tks.blocks[b] == .free

/-- A block allocated to take `t` (R125); nothing where no block is FREE. -/
def allocateBlock (t : TakeNo) (s : State) : State :=
  match lowestFree s with
  | none => s
  | some b =>
    let s1 := onTks (fun k => { k with blocks := k.blocks.set b .last }) s
    match (takeChain s t).getLast? with
    | some p => onTks (fun k => { k with blocks := k.blocks.set p (.next b) }) s1
    | none => onTake t (fun e => { e with firstBlock := some b }) s1

/-- Take `t` becomes EMPTY: its blocks are freed and its entry cleared (R125, R126). -/
def emptyTake (t : TakeNo) (s : State) : State :=
  let chain := takeChain s t
  onTake t (fun _ => {})
    (onTks (fun k => { k with blocks := Vector.ofFn fun b => if chain.contains b then .free else k.blocks[b] }) s)

/-- The room left for take `t`: places free in its blocks, and 256 for each FREE block (R134). -/
def takeRoom (s : State) (t : TakeNo) : Nat :=
  256 * (takeChain s t).length - (s.take t).count + 256 * freeBlocks s

/-! ## Records (R127, R128, R134) -/

/-- The milliseconds a record stands for (R127). -/
def TakeRec.ms (r : TakeRec) : Nat := if r.kind = .pause then r.value * 2048 + r.delta else r.delta

/-- Address of record `i` of take `t` (R124). -/
def recordAddr (s : State) (t : TakeNo) (i : Nat) : Option Nat :=
  ((takeChain s t)[i / 256]?).map fun b => takeAddr b (i % 256)

/-- Record `i` of take `t` (R124). -/
def recordAt (s : State) (t : TakeNo) (i : Nat) : Option TakeRec := (recordAddr s t i).bind s.tks.mem.read

/-- The records of take `t` in take order (R124). -/
def takeRecords (s : State) (t : TakeNo) : List TakeRec :=
  (List.range (s.take t).count).filterMap (recordAt s t)

/-- Records with their times, the first being timed from `t0` (R127). -/
def withTimes : Nat → List TakeRec → List (TakeRec × Nat)
  | _, [] => []
  | t0, r :: rest => (r, t0 + r.ms) :: withTimes (t0 + r.ms) rest

/-- The records of take `t` with their times (R127). -/
def timedRecords (s : State) (t : TakeNo) : List (TakeRec × Nat) := withTimes 0 (takeRecords s t)

/-- One record written at the end of take `t`, with a block allocated when the last is full, and the directory
entry brought up to date (R125, R134). -/
def appendRecord (t : TakeNo) (s : State) (r : TakeRec) : State :=
  let n := (s.take t).count
  let s1 := if 256 * (takeChain s t).length ≤ n then allocateBlock t s else s
  let s2 := match recordAddr s1 t n with
    | some a => onTks (fun k => { k with mem := TakeMem.write k.mem a r }) s1
    | none => s1
  onTake t (fun e =>
    { e with count := e.count + 1, duration := e.duration + r.ms
             strikes := e.strikes + (if r.kind = .strike then 1 else 0) }) s2

/-- Records written in order (R134, R137). -/
def appendRecords (t : TakeNo) (rs : List TakeRec) (s : State) : State := rs.foldl (appendRecord t) s

/-- The longest PAUSE (R128). -/
def longPause : TakeRec := { kind := .pause, key := 0, value := 1023, delta := 2047 }

/-- The records that put an event `gap` ms after the record before it: PAUSE records as the gap needs them, then the
record. DEDUCED (log 45): R128's steps are followed for every gap, also where the remainder after the long PAUSEs is at
most 2047 ms, which the record then carries as its delta. -/
def recordsForGap (gap : Nat) (kind : TakeKind) (key : Key) (value : Nat) : List TakeRec :=
  let n := (gap - 1) / 2097151
  let g := gap - n * 2097151
  let longs := List.replicate n longPause
  if g ≤ 2047 then longs ++ [{ kind := kind, key := key, value := value, delta := g }]
  else
    longs ++ [{ kind := .pause, key := 0, value := g / 2048, delta := g % 2048 },
      { kind := kind, key := key, value := value, delta := 0 }]

/-! ## The recorder (R129 to R135) -/

/-- Take `t` is truncated: closed with its flag set, the recorder IDLE, TAKE_FULL reported (R135). -/
def truncateTake (t : TakeNo) (s : State) : State :=
  let s1 := onTake t (fun e => { e with state := .closed, truncated := true }) s
  let s2 := onTks (fun k => { k with recorder := .idle }) s1
  raiseAll .takeState (reportFault .takeFull s2)

/-- A record at a record time into take `t`, whole with its pauses or not at all (R134). -/
def writeRecord (t : TakeNo) (time : Nat) (kind : TakeKind) (key : Key) (value : Nat) (s : State) : State :=
  let rs := recordsForGap (time - (s.take t).duration) kind key value
  if rs.length ≤ takeRoom s t ∧ time ≤ Config.maxDuration then appendRecords t rs s else truncateTake t s

/-- The recorder's position and mark time brought forward to an event's time (R132; log 38). -/
def RecInfo.forward (r : RecInfo) (time : Clock) : RecInfo :=
  if reached time r.mark then { r with position := r.position + elapsed time r.mark, mark := time } else r

/-- What a recorded event writes: kind, key and value; none where nothing is written (R133). -/
def recordOf (struck : KeySet) (e : Event) : Option (TakeKind × Key × Nat) :=
  match e.kind with
  | .strike | .restrike => (e.key.bind (finOf 88)).map fun k => (.strike, k, e.value)
  | .release => (e.key.bind (finOf 88)).bind fun k => if struck.has k then some (.release, k, e.value) else none
  | .damper => some (.damper, 0, e.value)
  | .sostenuto => some (.sostenuto, 0, e.value)
  | .soft => some (.soft, 0, e.value)
  | _ => none

/-- A LIVE event taken by a recorder that is RECORDING take `t` (R132, R133, R134). -/
def recordLive (t : TakeNo) (r : RecInfo) (e : Event) (s : State) : State :=
  match recordOf r.struck e with
  | none => s
  | some (kind, key, value) =>
    let r1 := r.forward e.time
    let r2 := if kind = .strike then { r1 with struck := r1.struck.add key } else r1
    writeRecord t (r1.position / 1000) kind key value (onTks (fun k => { k with recorder := .recording t r2 }) s)

/-- The recorder starts take `t` at a start time, writing the pedal snapshot (R131). -/
def startTake (t : TakeNo) (start : Clock) (s : State) : State :=
  let r : RecInfo := { start := start, position := 0, mark := start, struck := KeySet.empty }
  let s1 := onTks (fun k => { k with recorder := .recording t r }) s
  appendRecords t
    [{ kind := .damper, key := 0, value := s.pdu.damper.lift, delta := 0 },
      { kind := .sostenuto, key := 0, value := if s.pdu.sostOn then 1 else 0, delta := 0 },
      { kind := .soft, key := 0, value := s.pdu.soft.lift, delta := 0 }] s1

/-- The recorder is handed an event (R129). -/
def recorderEvent (e : Event) (s : State) : State :=
  if e.source = .live then
    match s.tks.recorder with
    | .idle => s
    | .armed t =>
      if e.kind = .strike ∨ e.kind = .restrike then
        let s1 := startTake t e.time s
        match s1.tks.recorder with
        | .recording t' r => raiseAll .takeState (recordLive t' r e s1)
        | _ => s1
      else s
    | .recording t r => recordLive t r e s
  else s

end Sys2Proof.Machine
end

