-- ==== Sys2Proof/Machine/RailOps.lean ====
section
/-! DEFINITION. The rail controller's shared operations: demand and target, what is published, the quiet test, legs, changes of state, arrivals, backoff and reversal (06). -/

namespace Sys2Proof.Machine

/-- The other end of the travel. -/
def Side.other : Side → Side
  | .openEnd => .blockedEnd
  | .blockedEnd => .openEnd

/-- The demand set is non-empty (R107). -/
def Demand.any (d : Demand) : Bool := d.a || d.b || d.c || d.lever

/-- The target that a demand set gives (R107). -/
def Demand.target (d : Demand) : Side := if d.any then .blockedEnd else .openEnd

/-- The target (R107). -/
def target (s : State) : Side := s.rlc.demand.target

/-- Link `l`'s membership set to `on` (R107). -/
def Demand.setLink (d : Demand) (l : Link) (on : Bool) : Demand :=
  match l with
  | .a => { d with a := on }
  | .b => { d with b := on }
  | .c => { d with c := on }

/-! ## What the rail publishes (R121) -/

/-- The gate bank in force: OPEN only in state OPEN (R27, R121). -/
def RailState.bank : RailState → Side
  | .openState => .openEnd
  | _ => .blockedEnd

/-- The sound route of a rail state under a target (R121). -/
def RailState.route (r : RailState) (tgt : Side) : Route :=
  match r with
  | .unknown | .homing | .openState => .acoustic
  | .closing | .blocked | .opening | .backoff _ => .silent
  | .waiting w => if w.side = .openEnd then .acoustic else .silent
  | .fault => if tgt = .blockedEnd then .silent else .acoustic

/-- The gate bank in force now. -/
def gateBank (s : State) : Side := s.rlc.state.bank

/-- The sound route now. -/
def soundRoute (s : State) : Route := s.rlc.state.route (target s)

/-- The rail is moving as TRANSIT means it: CLOSING, OPENING, BACKOFF or HOMING (R37). -/
def RailState.inTransit : RailState → Bool
  | .homing | .closing | .opening | .backoff _ => true
  | _ => false

/-- The gate output GHA pulses: a leg toward BLOCKED is under way (R103). -/
def ghaActive (s : State) : Bool :=
  match s.rlc.leg with
  | some lg => lg.toward == .blockedEnd
  | none => false

/-- The gate output GHB pulses: a leg toward OPEN is under way (R103). -/
def ghbActive (s : State) : Bool :=
  match s.rlc.leg with
  | some lg => lg.toward == .openEnd
  | none => false

/-! ## The quiet action (R109) -/

/-- A key does not stand in the way of a quiet action (R109). -/
def KeyRec.quiet (clear : Nat) (k : KeyRec) : Bool :=
  k.depthFailed || k.hammerFailed || (k.hammer == .ready && decide (k.height < clear))

/-- The action is quiet (R109). -/
def actionQuiet (s : State) : Bool :=
  (List.finRange 88).all fun k => (s.key k).quiet s.cst.user.working.hammer.clearHeight

/-- The quiet test: none passes before the first frame end since the reset (R109). -/
def quietTest (s : State) : Bool := s.rlc.sensingSeen && actionQuiet s

/-! ## Changes of state and legs -/

/-- A change of rail state (R122): the state is set, the RAIL event made, the classes raised. -/
def railEnter (st : RailState) (s : State) : State :=
  let s1 := onRlc (fun r => { r with state := st }) s
  let s2 := appendEvent { time := s.clock, kind := .rail, source := .live, key := none, value := st.code } s1
  let s3 := raiseAll .railState s2
  if st = .fault then raiseAll .railFault s3 else s3

/-- The leg of a drive start now: it latches its parameters from the user working copy (R103, R104). -/
def newLeg (toward : Side) (check : Bool) (s : State) : Leg where
  toward := toward
  start := s.clock
  minCheck := check
  params := s.cst.user.working.rail
  blanked := false
  run := none

/-- A drive start (R103, R104). -/
def startLeg (toward : Side) (check : Bool) (s : State) : State :=
  onRlc (fun r => { r with leg := some (newLeg toward check s) }) s

/-- The drive is cut (R103). -/
def cutDrive (s : State) : State := onRlc (fun r => { r with leg := none }) s

/-- The state that moves toward an end (R115). -/
def movingState : Side → RailState
  | .openEnd => .opening
  | .blockedEnd => .closing

/-- The state of standing at an end (R112). -/
def endState : Side → RailState
  | .openEnd => .openState
  | .blockedEnd => .blocked

/-- A move toward an end: its state is entered and its leg starts (R113, R116, R118). -/
def startMove (toward : Side) (check : Bool) (s : State) : State :=
  startLeg toward check (railEnter (movingState toward) s)

/-- WAITING is entered with its waiting side and, after a backoff, the retreat stalled flag (R114, R119). -/
def enterWaiting (side : Side) (stalled : Option Bool) (s : State) : State :=
  railEnter (.waiting { side := side, start := s.clock, held := false, retreatStalled := stalled, stopped := false }) s

/-- Homing starts: a leg toward OPEN with the minimum-travel check off (R111). -/
def startHoming (s : State) : State := startLeg .openEnd false (railEnter .homing s)

/-- A test for quiet while a move waits for it (R109, R111, R114; log 17): the first one that finds the action quiet
starts the move. In a state with no move to start no test is made. -/
def quietMove (s : State) : State :=
  match s.rlc.state with
  | .unknown => if quietTest s then startHoming s else s
  | .waiting w => if quietTest s then startMove w.side.other true s else s
  | _ => s

/-- At an end: stay, start a move, or wait for a quiet action (R113). -/
def endTest (side : Side) (s : State) : State :=
  if target s = side then s
  else if quietTest s then startMove side.other true s
  else enterWaiting side none s

/-- An arrival at an end; `travel` is the leg's elapsed time in ms, none where the last travel time is kept (R112, R118). -/
def arrive (side : Side) (travel : Option Nat) (s : State) : State :=
  let s1 := onRlc (fun r => { r with leg := none, obstructions := 0, lastTravelMs := travel.or r.lastTravelMs }) s
  endTest side (railEnter (endState side) s1)

/-- The rail goes to FAULT with a fault kind (R120). -/
def railFault (k : FaultKind) (s : State) : State := railEnter .fault (reportFault k (cutDrive s))

/-- An obstruction of a leg toward `toward` (R117). -/
def obstruct (toward : Side) (s : State) : State :=
  let n := s.rlc.obstructions + 1
  let s1 := onRlc (fun r => { r with leg := none, obstructions := n }) s
  if s.cst.user.working.rail.attempts ≤ n then railFault .railObstructed s1
  else
    startLeg toward.other false
      (railEnter (.backoff { phase := .retreat s.cst.user.working.rail.backoffMs, origin := toward.other, start := s.clock }) s1)

/-- The end of a retreat: at the origin, the origin-ward move, or the retry delay (R118). The change to the delay is
a change of phase and makes no RAIL event (R119). -/
def retreatEnd (stalled : Bool) (b : BackoffInfo) (s : State) : State :=
  let s1 := cutDrive s
  if target s = b.origin then
    if stalled then arrive b.origin none s1 else startMove b.origin false s1
  else
    onRlc (fun r => { r with state := .backoff { b with phase := .delay s.cst.user.working.rail.retryMs stalled, start := s.clock } }) s1

/-- A stall declared in the leg `lg` (R105, R106, R111, R117, R118). -/
def stallLeg (lg : Leg) (s : State) : State :=
  let e := elapsed s.clock lg.start
  let s1 := cutDrive s
  match s.rlc.state with
  | .homing => arrive lg.toward (some (e / 1000)) s1
  | .closing | .opening =>
    if lg.minCheck = false ∨ lg.params.minTravelMs * 1000 ≤ e then arrive lg.toward (some (e / 1000)) s1
    else obstruct lg.toward s1
  | .backoff b =>
    match b.phase with
    | .retreat _ => retreatEnd true b s1
    | .delay _ _ => s1
  | _ => s1

/-- A change of target as each state takes it (R111, R113, R114, R116, R118, R119, R120). -/
def targetChanged (s : State) : State :=
  match s.rlc.state with
  | .unknown | .homing | .fault => s
  | .openState => endTest .openEnd s
  | .blocked => endTest .blockedEnd s
  | .closing => if target s = .openEnd then startMove .openEnd false (cutDrive s) else s
  | .opening => if target s = .blockedEnd then startMove .blockedEnd false (cutDrive s) else s
  | .waiting w =>
    if target s = w.side then
      if w.retreatStalled = some false then startMove w.side false s else railEnter (endState w.side) s
    else s
  | .backoff b =>
    match b.phase with
    | .retreat _ => s
    | .delay _ stalled =>
      if target s = b.origin then
        if stalled then arrive b.origin none s else startMove b.origin false s
      else s

/-- The demand set becomes `d`; a change of target is handed to the rail at once (R107). -/
def setDemand (d : Demand) (s : State) : State :=
  let s1 := onRlc (fun r => { r with demand := d }) s
  if d.target = target s then s1 else targetChanged s1

/-- LEVER's membership derived from the lever level and the lever mode (R108). -/
def deriveLever (s : State) : State :=
  setDemand { s.rlc.demand with lever := s.rlc.leverLow && s.cst.factory.working.option.leverDemand } s

end Sys2Proof.Machine
end

