-- ==== Sys2Proof/Machine/VoiceOps.lean ====
section
/-! DEFINITION. The voice assigner's shared operations: applied lift, damp orders, the order queue, taking a strike, soft levels, teardown (05). -/

namespace Sys2Proof.Machine

/-- The voice assigner changed by `f`. -/
def onVas (f : Vas → Vas) (s : State) : State := { s with vas := f s.vas }

/-- The slot `n`. -/
def State.slot (s : State) (n : Slot) : VoiceSlot := s.vas.slots[n]

/-- Slot `n` replaced. -/
def setSlot (n : Slot) (v : VoiceSlot) (s : State) : State :=
  onVas (fun va => { va with slots := va.slots.set n v }) s

/-! ## Applied lift (R55, R88) -/

/-- The effective live lift of key `k` (R55). -/
def effectiveLiveLift (s : State) (k : Key) : Nat :=
  max (max (s.key k).lift (if s.pdu.sostSet.has k then 255 else 0)) s.pdu.damper.lift

/-- The lift of a playback voice of key `k` (R88). -/
def playbackLift (s : State) (k : Key) : Nat :=
  max (max (if s.ply.keys.has k then 255 else 0) (if s.ply.sostSet.has k then 255 else 0)) s.ply.damper

/-- The applied lift a voice is to be given (R88). -/
def appliedLift (s : State) (v : Voice) : Nat :=
  if v.follows then
    match v.source with
    | .live => effectiveLiveLift s v.key
    | .playback => playbackLift s v.key
  else 255

/-! ## The voice order queue (R91, R92) -/

/-- An order joins the queue at the tail; reaching 40 raises VOICE_ATTENTION (R91). -/
def queueOrder (o : VoiceOrder) (s : State) : State :=
  let s1 := onVas (fun va => { va with queue := va.queue ++ [o] }) s
  if s1.vas.queue.length = Config.queueAttention then raiseAll .voiceAttention s1 else s1

/-- The queue has room for one more order (R91). -/
def queueRoom (s : State) : Bool := decide (s.vas.queue.length < Config.queueLimit)

/-- An order is the VOICE DAMP of slot `n` at generation `g` (R92). -/
def VoiceOrder.isDampOf (n : Slot) (g : BitVec 8) : VoiceOrder → Bool
  | .damp n' g' _ => n' == n && g' == g
  | _ => false

/-- The lift of a waiting VOICE DAMP replaced in place (R92). -/
def VoiceOrder.withLift (x : Nat) : VoiceOrder → VoiceOrder
  | .damp n g _ => .damp n g x
  | o => o

/-- A VOICE DAMP of slot `n` called for with lift `x`: coalesced, queued or dropped (R92). -/
def dampOrder (n : Slot) (x : Nat) (s : State) : State :=
  let sl := s.slot n
  let sent : VoiceSlot := { sl with stale := false, voice := sl.voice.map fun v => { v with lastSent := x } }
  if s.vas.queue.any (VoiceOrder.isDampOf n sl.gen) then
    setSlot n sent
      (onVas (fun va => { va with queue := va.queue.map fun o => if o.isDampOf n sl.gen then o.withLift x else o }) s)
  else if queueRoom s then queueOrder (.damp n sl.gen x) (setSlot n sent s)
  else setSlot n { sl with stale := true } s

/-- A VOICE DAMP is called for (R90, step 3). -/
def dampCalled (step x lastSent : Nat) (stale : Bool) : Bool :=
  decide (step ≤ x - lastSent + (lastSent - x)) || (decide (x = 0 ∨ x = 255) && decide (x ≠ lastSent)) || stale

/-- The recomputation of slot `n` (R90); a FREE slot has none. -/
def recomputeSlot (n : Slot) (s : State) : State :=
  let sl := s.slot n
  match sl.voice with
  | none => s
  | some v =>
    let x := appliedLift s v
    let s1 := setSlot n { sl with voice := some { v with damped := x == 0, applied := x } } s
    if dampCalled s.cst.user.working.dampStep x v.lastSent sl.stale then dampOrder n x s1 else s1

/-- The recomputation of every slot whose voice `p` selects, in rising slot order (R89; log 13). -/
def recomputeWhere (p : Voice → Bool) (s : State) : State :=
  (List.finRange 128).foldl
    (fun s n =>
      match (s.slot n).voice with
      | some v => if p v then recomputeSlot n s else s
      | none => s) s

/-- The LIVE slots of key `k` (R89). -/
def recomputeLiveKey (k : Key) (s : State) : State := recomputeWhere (fun v => v.source == .live && v.key == k) s

/-- The LIVE slots of the keys that differ between two sets (R89). -/
def recomputeLiveDiff (S T : KeySet) (s : State) : State :=
  recomputeWhere (fun v => v.source == .live && S.has v.key != T.has v.key) s

/-- Every LIVE slot (R89). -/
def recomputeLive (s : State) : State := recomputeWhere (fun v => v.source == .live) s

/-- The PLAYBACK slots of the keys that differ between two sets (R89). -/
def recomputePlayDiff (S T : KeySet) (s : State) : State :=
  recomputeWhere (fun v => v.source == .playback && S.has v.key != T.has v.key) s

/-- Every PLAYBACK slot (R89). -/
def recomputePlay (s : State) : State := recomputeWhere (fun v => v.source == .playback) s

/-! ## Taking a strike (R80 to R87, R94) -/

/-- The voice level of a layer's voice (R82). -/
def voiceLevel (value trim : Nat) : Nat := clamp 1 1023 (value * trim / 100)

/-- The live voicing gate (R81). -/
def gatePasses (src : Source) (route : Route) (y : Layer) : Bool := src == .playback || route == .silent || y.acoustic

/-- A layer takes a strike (R81). -/
def layerTakes (s : State) (y : Layer) (k : Key) (src : Source) : Bool :=
  y.enabled && decide (y.low ≤ k) && decide (k ≤ y.high)
    && (y.filter == .both || y.filter == (match src with | .live => .live | .playback => .playback))
    && gatePasses src (soundRoute s) y

/-- The key of a voice is held by its source (R86). -/
def keyHeld (s : State) (v : Voice) : Bool :=
  match v.source with
  | .live => (s.key v.key).state != .up
  | .playback => s.ply.keys.has v.key

/-- The age of a voice (R77). -/
def voiceAge (s : State) (v : Voice) : Nat := (s.vas.startCounter - v.startOrder).toNat

/-- The oldest slot that `p` selects (R77, R86). -/
def oldestSlot (s : State) (p : Slot → Voice → Bool) : Option Slot :=
  ((List.finRange 128).foldl
    (fun (best : Option (Slot × Nat)) n =>
      match (s.slot n).voice with
      | none => best
      | some v =>
        if p n v then
          match best with
          | none => some (n, voiceAge s v)
          | some (_, a) => if a < voiceAge s v then some (n, voiceAge s v) else best
        else best) none).map (·.1)

/-- The victim of a steal; slots already assigned for the same strike are left out (R86). -/
def victim (s : State) (used : List Slot) : Option Slot :=
  (oldestSlot s fun n v => v.damped && !used.contains n).or
    ((oldestSlot s fun n v => !v.damped && !keyHeld s v && !used.contains n).or
      (oldestSlot s fun n v => !v.damped && !used.contains n))

/-- The slot of a voice of key `k`, source `src` and layer `li` (R83, step 2). -/
def sameVoiceSlot (s : State) (k : Key) (src : Source) (li : Fin 4) : Option Slot :=
  (List.finRange 128).find? fun n =>
    match (s.slot n).voice with
    | some v => v.key == k && v.source == src && v.layer == li
    | none => false

/-- The lowest-numbered FREE slot (R83, step 3). -/
def freeSlot (s : State) : Option Slot := (List.finRange 128).find? fun n => (s.slot n).voice.isNone

/-- An assignment of slot `n` and its start (R84 to R87): the generation advances, the start order is stamped, a
VOICE START is queued and the applied lift recomputed. -/
def assignSlot (n : Slot) (li : Fin 4) (k : Key) (src : Source) (value : Nat) (retrigger steal : Bool) (s : State) : State :=
  let y := s.vas.layers[li]
  let g := (s.slot n).gen + 1
  let level := voiceLevel value y.trim
  let v : Voice :=
    { damped := false, key := k, source := src, layer := li, follows := y.follows, level := level
      applied := 255, lastSent := 255, startOrder := s.vas.startCounter }
  let s1 := setSlot n { gen := g, stale := false, voice := some v } s
  let s2 := onVas (fun va => { va with startCounter := va.startCounter + 1 }) s1
  recomputeSlot n (queueOrder (.start n g k y.program level src retrigger steal) s2)

/-- A voice refused because the queue is full (R94). -/
def refuseVoice (s : State) : State :=
  let s1 := reportFault .voiceRefused { s with faults := { s.faults with refused := satInc s.faults.refused } }
  raiseAll .voiceAttention s1

/-- One layer's part of a strike (R83): refused, re-triggered, started in a FREE slot, or stolen. -/
def strikeLayer (k : Key) (src : Source) (value : Nat) (acc : State × List Slot) (li : Fin 4) : State × List Slot :=
  let s := acc.1
  if layerTakes s s.vas.layers[li] k src then
    if !queueRoom s then (refuseVoice s, acc.2)
    else
      match sameVoiceSlot s k src li with
      | some n => (assignSlot n li k src value true false s, n :: acc.2)
      | none =>
        match freeSlot s with
        | some n => (assignSlot n li k src value false false s, n :: acc.2)
        | none =>
          match victim s acc.2 with
          | some n =>
            (assignSlot n li k src value false true
              { s with faults := { s.faults with steals := satInc s.faults.steals } }, n :: acc.2)
          | none => acc
  else acc

/-- A strike handed to the voice assigner (R80, R83): layers 0 to 3 in order, only while a link holds TONE. -/
def voiceStrike (k : Key) (src : Source) (value : Nat) (s : State) : State :=
  if s.roles.tone.isSome then ((List.finRange 4).foldl (strikeLayer k src value) (s, [])).1 else s

/-- The voice assigner is handed an event; it assigns voices for strikes without the GUIDE flag (R80). -/
def voiceEvent (e : Event) (s : State) : State :=
  if (e.kind = .strike ∨ e.kind = .restrike) ∧ e.flags.guide = false then
    match e.key.bind (finOf 88) with
    | some k => voiceStrike k e.source e.value s
    | none => s
  else s

/-! ## Soft level (R96, R100) -/

/-- The soft level of a source: the SOFT pedal's lift, or the playback soft lift (R56, R96). -/
def softLevel (s : State) : Source → Nat
  | .live => s.pdu.soft.lift
  | .playback => s.ply.soft

/-- What was last sent for a source (R96). -/
def Vas.softTrack (va : Vas) : Source → SoftTrack
  | .live => va.softLive
  | .playback => va.softPlay

/-- The soft track of a source replaced. -/
def Vas.setSoft (va : Vas) (src : Source) (t : SoftTrack) : Vas :=
  match src with
  | .live => { va with softLive := t }
  | .playback => { va with softPlay := t }

/-- A VOICE SOFT called for: queued, or dropped with the soft-stale flag set (R96). -/
def softOrder (src : Source) (s : State) : State :=
  let x := softLevel s src
  if queueRoom s then queueOrder (.soft src x) (onVas (fun va => va.setSoft src { sent := x, stale := false }) s)
  else onVas (fun va => va.setSoft src { va.softTrack src with stale := true }) s

/-- A source's soft level has changed (R96). -/
def softChanged (src : Source) (s : State) : State :=
  let t := s.vas.softTrack src
  if s.roles.tone.isSome && dampCalled s.cst.user.working.dampStep (softLevel s src) t.sent t.stale then softOrder src s
  else s

/-- A link has become the tone link: sources whose level differs from the last sent are told of (R100). -/
def softClaimed (src : Source) (s : State) : State :=
  if softLevel s src ≠ (s.vas.softTrack src).sent then softOrder src s else s

/-! ## Teardown (R99) -/

/-- A slot made FREE with its generation advanced (R76, R99). -/
def VoiceSlot.tornDown (v : VoiceSlot) : VoiceSlot := { gen := v.gen + 1, stale := false, voice := none }

/-- The TONE teardown (R99): the layer list and the start counter are kept. -/
def toneTeardown (s : State) : State :=
  onVas (fun va =>
    { va with slots := Vector.ofFn fun n => va.slots[n].tornDown, queue := [], softLive := {}, softPlay := {} }) s

end Sys2Proof.Machine
end

