-- ==== Sys2Proof/Machine/PlayerOps.lean ====
section
/-! DEFINITION. The player's shared operations: the playback keys and pedals, marks, playing records, waits, loops, the end of a take (08). -/

namespace Sys2Proof.Machine

/-! ## The values the voice assigner reads (R144) -/

/-- The playback key set becomes `S`; PLAYBACK slots of the keys that joined or left are recomputed (R89, R144). -/
def setPlayKeys (S : KeySet) (s : State) : State :=
  let s1 := onPly (fun p => { p with keys := S }) s
  if S = s.ply.keys then s1 else recomputePlayDiff s.ply.keys S s1

/-- The playback sostenuto state and set become `on` and `S` (R89, R144). -/
def setPlaySost (on : Bool) (S : KeySet) (s : State) : State :=
  let s1 := onPly (fun p => { p with sostOn := on, sostSet := S }) s
  if S = s.ply.sostSet then s1 else recomputePlayDiff s.ply.sostSet S s1

/-- The playback damper lift becomes `x` (R89, R144). -/
def setPlayDamper (x : Nat) (s : State) : State :=
  let s1 := onPly (fun p => { p with damper := x }) s
  if x = s.ply.damper then s1 else recomputePlay s1

/-- The playback soft lift becomes `x` (R96, R144). -/
def setPlaySoft (x : Nat) (s : State) : State :=
  let s1 := onPly (fun p => { p with soft := x }) s
  if x = s.ply.soft then s1 else softChanged .playback s1

/-! ## Events and marks (R145, R149) -/

/-- An event of source PLAYBACK made now: handed to the journal and the voice assigner, in that order (DESIGN CHOICE,
log 49); the recorder records none of them (R129, R149). -/
def playbackEvent (kind : EventKind) (key : Option Nat) (value : Nat) (guide : Bool) (s : State) : State :=
  let e : Event :=
    { time := s.clock, kind := kind, source := .playback, key := key, value := value, flags := { guide := guide } }
  recorderEvent e (voiceEvent e (appendEvent e s))

/-- Mark codes (R145). -/
inductive Mark | start | end_ | stop | loop | wait | met | cleared | pause | resume
deriving DecidableEq, Repr

/-- The code of a mark (R145). -/
def Mark.code : Mark → Nat
  | .start => 1
  | .end_ => 2
  | .stop => 3
  | .loop => 4
  | .wait => 5
  | .met => 6
  | .cleared => 7
  | .pause => 8
  | .resume => 9

/-- A PLAY_MARK of take `t` (R145). -/
def playMark (m : Mark) (t : TakeNo) (s : State) : State := playbackEvent .playMark (some t.val) m.code false s

/-- A change of the player's state raises PLAY_STATE (R145). -/
def playStateRaised (s : State) : State := raiseAll .playState s

/-- The session changed by `f`, where there is one. -/
def onSession (f : Session → Session) (s : State) : State :=
  onPly (fun p => { p with session := p.session.map f }) s

/-- PLAYING is entered: the next step time is 1000 µs from now (R148). -/
def enterPlaying (s : State) : State := onSession (fun ss => { ss with mode := .playing (s.clock + 1000) }) s

/-! ## Playing records (R149, R150, R156 to R159) -/

/-- A key lies in the guide range (R144). -/
def Ply.inRange (p : Ply) (k : Key) : Bool := decide (p.low ≤ k) && decide (k ≤ p.high)

/-- A record is a guide record (R144). -/
def Ply.guideRecord (p : Ply) (r : TakeRec) : Bool :=
  (p.guide != .none) && (r.kind == .strike || r.kind == .release) && p.inRange r.key

/-- The kind a played STRIKE has (R149). -/
def strikeKind (p : Ply) (k : Key) : EventKind := if p.keys.has k then .restrike else .strike

/-- A take record's level as an event carries it: 0 is taken as 1 (R149). -/
def playLevel (v : Nat) : Nat := if v = 0 then 1 else v

/-- One record played (R149, R150, R156, R157, R159). A guide STRIKE under WAIT reaches this only when it has been
collected already. -/
def playRecord (r : TakeRec) (s : State) : State :=
  let p := s.ply
  match r.kind with
  | .strike =>
    if p.guideRecord r then playbackEvent (strikeKind p r.key) (some r.key.val) (playLevel r.value) true s
    else
      playbackEvent (strikeKind p r.key) (some r.key.val) (playLevel r.value) false (setPlayKeys (p.keys.add r.key) s)
  | .release =>
    let s1 := setPlayKeys (p.keys.drop r.key) s
    if p.guideRecord r then
      if p.guide = .wait then s1 else playbackEvent .release (some r.key.val) (playLevel r.value) true s1
    else playbackEvent .release (some r.key.val) (playLevel r.value) false s1
  | .damper => playbackEvent .damper none (min r.value 255) false (setPlayDamper (min r.value 255) s)
  | .soft => playbackEvent .soft none (min r.value 255) false (setPlaySoft (min r.value 255) s)
  | .sostenuto =>
    if r.value ≠ 0 then
      if p.sostOn then playbackEvent .sostenuto (some 0) 1 false s
      else playbackEvent .sostenuto (some p.keys.size) 1 false (setPlaySost true (p.sostSet.union p.keys) s)
    else
      if p.sostOn then playbackEvent .sostenuto (some p.sostSet.size) 0 false (setPlaySost false KeySet.empty s)
      else playbackEvent .sostenuto (some 0) 0 false s
  | .pause => s

/-- The cursor moves past a record; reaching the collection limit makes the limit absent (R159). -/
def advanceCursor (s : State) : State :=
  let s1 := onSession (fun ss => { ss with cursor := ss.cursor + 1 }) s
  match s1.ply.session, s1.ply.limit with
  | some ss, some c => if c ≤ ss.cursor then onPly (fun p => { p with limit := none }) s1 else s1
  | _, _ => s1

/-- A due record starts a collection: a guide STRIKE under WAIT at or beyond the collection limit (R157). -/
def collects (p : Ply) (cursor : Nat) (r : TakeRec) : Bool :=
  (p.guide == .wait) && (r.kind == .strike) && p.guideRecord r
    && (match p.limit with
      | none => true
      | some c => decide (c ≤ cursor))

/-- A chord collected at time `T` from the records still ahead (R157). -/
def collectChord (T : Nat) (ahead : List (TakeRec × Nat)) (s : State) : State :=
  let p := s.ply
  let bound := match p.loop with
    | some lp => min (T + p.chordWindow) lp.stop
    | none => T + p.chordWindow
  let looked := ahead.takeWhile fun x => x.2 ≤ bound
  let keys := looked.foldl
    (fun (S : KeySet) x => if x.1.kind = .strike ∧ p.guideRecord x.1 = true then S.add x.1.key else S) p.expected
  match p.session with
  | none => s
  | some ss =>
    let s1 := onPly (fun q =>
      { q with expected := keys, limit := some (ss.cursor + looked.length)
               session := some { ss with position := T, mode := .waiting } }) s
    playStateRaised (playMark .wait ss.take s1)

/-- A record at time `t` may be played now: due, and not above a loop's end (R148, step 3). -/
def Ply.mayPlay (p : Ply) (position t : Nat) : Bool :=
  decide (t ≤ position) && (match p.loop with
    | some lp => decide (t ≤ lp.stop)
    | none => true)

/-- The due records of those ahead are played in take order; a collection ends it (R148, R157). -/
def playFrom : List (TakeRec × Nat) → State → State
  | [], s => s
  | (r, t) :: rest, s =>
    match s.ply.session with
    | none => s
    | some ss =>
      if s.ply.mayPlay ss.position t then
        if collects s.ply ss.cursor r then collectChord t ((r, t) :: rest) s
        else playFrom rest (advanceCursor (playRecord r s))
      else s

/-- The records now due are played (R148, step 3). -/
def playDue (s : State) : State :=
  match s.ply.session with
  | some ss => playFrom ((timedRecords s ss.take).drop ss.cursor) s
  | none => s

/-- The player is PLAYING. -/
def Ply.isPlaying (p : Ply) : Bool :=
  match p.session with
  | some { mode := .playing _, .. } => true
  | _ => false

/-- The player is WAITING. -/
def Ply.isWaiting (p : Ply) : Bool :=
  match p.session with
  | some { mode := .waiting, .. } => true
  | _ => false

/-! ## The end of playback (R151) -/

/-- The end of take, or a stop, with its mark (R151, steps 1 to 4). -/
def endPlayback (m : Mark) (s : State) : State :=
  match s.ply.session with
  | none => s
  | some ss =>
    let s1 := setPlaySoft 0 (setPlayDamper 0 (setPlaySost false KeySet.empty (setPlayKeys KeySet.empty s)))
    let s2 := onPly (fun p => { p with expected := KeySet.empty, loop := none, limit := none }) s1
    let s3 := playMark m ss.take s2
    playStateRaised (onPly (fun p => { p with session := none }) s3)

/-- The end of take is reached when the player is PLAYING past the last record with no loop set (R151). -/
def endIfPast (s : State) : State :=
  match s.ply.session with
  | some ss =>
    if s.ply.isPlaying && s.ply.loop.isNone && decide ((s.take ss.take).count ≤ ss.cursor) then endPlayback .end_ s else s
  | none => s

/-- The records now due are played, and the end of take follows if nothing is left (R147, R155, R158). -/
def playDueThenEnd (s : State) : State := endIfPast (playDue s)

/-! ## Pedals from earlier records (R147, R153) -/

/-- Pedal values reconstructed from records: damper lift, sostenuto state, soft lift; a pedal with no record keeps its
value in `init` (R147, step 4). -/
def reconstruct (init : Nat × Bool × Nat) (rs : List TakeRec) : Nat × Bool × Nat :=
  rs.foldl
    (fun acc r =>
      match r.kind with
      | .damper => (min r.value 255, acc.2.1, acc.2.2)
      | .sostenuto => (acc.1, decide (r.value ≠ 0), acc.2.2)
      | .soft => (acc.1, acc.2.1, min r.value 255)
      | _ => acc) init

/-- The index of the first record whose time is at or above `t`, or the record count (R147, R154). -/
def indexAt (rs : List (TakeRec × Nat)) (t : Nat) : Nat := (rs.takeWhile fun x => x.2 < t).length

/-! ## Loops (R154) -/

/-- The loop jump (R154). -/
def loopJump (lp : Loop) (s : State) : State :=
  match s.ply.session with
  | none => s
  | some ss =>
    let s1 := setPlayDamper 0 (setPlaySost s.ply.sostOn KeySet.empty (setPlayKeys KeySet.empty s))
    let wasWaiting := s.ply.isWaiting
    let mode := match ss.mode with
      | .waiting => PlayMode.playing (s.clock + 1000)
      | .paused _ => PlayMode.paused false
      | .playing n => PlayMode.playing n
    let s2 := onPly (fun p =>
      { p with expected := KeySet.empty, limit := none
               session := some { ss with mode := mode, cursor := indexAt (timedRecords s ss.take) lp.start, position := lp.start } }) s1
    let s3 := setPlaySoft lp.soft (setPlaySost lp.sostOn KeySet.empty (setPlayDamper lp.damper s2))
    let s4 := playMark .loop ss.take s3
    let s5 := if wasWaiting then playStateRaised s4 else s4
    if s5.ply.isPlaying then playDue s5 else s5

/-! ## Live strikes (R158) -/

/-- A wait is over: PLAYING is entered, PLAY_STATE raised, and the records now due are played (R155, R158). -/
def endWait (m : Mark) (t : TakeNo) (s : State) : State :=
  playDueThenEnd (playStateRaised (enterPlaying (playMark m t s)))

/-- The player is handed a LIVE event: while WAITING a strike of an expected key removes it (R158). -/
def playerEvent (e : Event) (s : State) : State :=
  if e.source = .live ∧ (e.kind = .strike ∨ e.kind = .restrike) ∧ s.ply.isWaiting = true then
    match e.key.bind (finOf 88), s.ply.session with
    | some k, some ss =>
      if s.ply.expected.has k then
        let S := s.ply.expected.drop k
        let s1 := onPly (fun p => { p with expected := S }) s
        if S = KeySet.empty then endWait .met ss.take s1 else s1
      else s
    | _, _ => s
  else s

/-- A LIVE event of the action tracker, handed on to the journal, the voice assigner, the recorder and the player (R22).
DESIGN CHOICE (log 49): in that order, each done before the next is handed it. -/
def trackerEvent (e : Event) (s : State) : State :=
  playerEvent e (recorderEvent e (voiceEvent e (appendEvent e s)))

/-- A LIVE event of the pedal unit, handed on to the journal, the voice assigner and the recorder (R49), in that order
(DESIGN CHOICE, log 49). -/
def pedalEvent (e : Event) (s : State) : State := recorderEvent e (voiceEvent e (appendEvent e s))

end Sys2Proof.Machine
end

