-- ==== Sys2Proof/Machine/Tracker.lean ====
section
/-! DEFINITION. The action tracker: key states, key lift, release levels, gate crossings, strikes, sensor failure and recovery, calibration changes (02). -/

namespace Sys2Proof.Machine

/-! ## Lift and release (R25, R26, R48) -/

/-- A lift between a start and a full depth (R26, R48): 255 at or above the start where full is not above it. -/
def liftOf (p1 p2 depth : Nat) : Nat :=
  if depth < p1 then 0
  else if p2 ≤ p1 then 255
  else if p2 ≤ depth then 255
  else (depth - p1) * 255 / (p2 - p1)

/-- The key lift of a depth (R26). -/
def keyLiftOf (p : KeyProfile) (depth : Nat) : Nat := liftOf p.damperStart p.damperFull depth

/-- The release level (R25). The span is 0 where the note-off point is not below the release start, and the level is then 1. -/
def releaseLevel (p : KeyProfile) (interval : Nat) : Nat :=
  clamp 1 1023 ((p.releaseStart - p.noteOff) * 4000 / max interval 1)

/-! ## Key states (R24) -/

/-- States entered on the sample so far (R24). -/
structure Entered where
  up : Bool := false
  down : Bool := false
  rising : Bool := false
deriving DecidableEq, Repr

/-- The tests of R24 on one depth, at most `fuel` transitions; the answer is the state left and, when the key returned
to UP, the rise-start time its release is timed from. A state is not entered a second time on a sample (log 26). -/
def keyTests (p : KeyProfile) (time : Clock) (depth : Nat) :
    Nat → Entered → KeyState → Option Clock → KeyState × Option Clock
  | 0, _, st, rel => (st, rel)
  | fuel + 1, ent, st, rel =>
    match st with
    | .up =>
      if p.press ≤ depth ∧ ent.down = false then keyTests p time depth fuel { ent with down := true } .down rel
      else (.up, rel)
    | .down =>
      if depth < p.releaseStart ∧ ent.rising = false then
        keyTests p time depth fuel { ent with rising := true } (.rising time (decide (depth < p.press))) rel
      else (.down, rel)
    | .rising t0 below0 =>
      let below := below0 || decide (depth < p.press)
      if (if below then p.press else p.releaseStart) ≤ depth then
        if ent.down = false then keyTests p time depth fuel { ent with down := true } .down rel
        else (.rising t0 below, rel)
      else if depth < p.noteOff then
        if ent.up = false then keyTests p time depth fuel { ent with up := true } .up (some t0)
        else (.rising t0 below, rel)
      else (.rising t0 below, rel)

/-- The key lift of `k` becomes `x`; a change is recomputed for its LIVE voices (R26, R89). -/
def setKeyLift (k : Key) (x : Nat) (s : State) : State :=
  if x = (s.key k).lift then s else recomputeLiveKey k (onKey k (fun r => { r with lift := x }) s)

/-- The state a key is given afresh at a depth (R41, R44). -/
def freshKeyState (p : KeyProfile) (depth : Nat) : KeyState := if p.press ≤ depth then .down else .up

/-- A key set up afresh from a depth: no RISING, no event (R41, R44). The sounding flag is left as it is: a key struck
before its first key-depth sample stays sounding (log 35). -/
def deriveKey (k : Key) (depth : Nat) (s : State) : State :=
  let p := s.cst.user.working.profile
  setKeyLift k (keyLiftOf p depth)
    (onKey k (fun r => { r with depth := depth, state := freshKeyState p depth, heldOut := false }) s)

/-- A LIVE event of key `k` (R22). -/
def keyEvent (kind : EventKind) (k : Key) (value : Nat) (flags : EventFlags) (time : Clock) : Event :=
  { time := time, kind := kind, source := .live, key := some k.val, value := value, flags := flags }

/-- A key-depth sample handled by R24 to R26. -/
def keySampleNormal (k : Key) (time : Clock) (depth : Nat) (s : State) : State :=
  let p := s.cst.user.working.profile
  let s1 := setKeyLift k (keyLiftOf p depth) (onKey k (fun r => { r with depth := depth }) s)
  let out := keyTests p time depth 4 {} (s1.key k).state none
  let s2 := onKey k (fun r => { r with state := out.1 }) s1
  match out.2 with
  | some t0 =>
    if (s2.key k).sounding then
      trackerEvent (keyEvent .release k (releaseLevel p (elapsed time t0)) {} time)
        (onKey k (fun r => { r with sounding := false }) s2)
    else s2
  | none => s2

/-- A key-depth sample passed to the tracker (R23, R40, R41, R44). -/
def keyDepthSample (k : Key) (time : Clock) (first : Bool) (depth : Nat) (s : State) : State :=
  let r := s.key k
  if r.heldOut then
    if r.depthFailed || r.hammerFailed then onKey k (fun r => { r with depth := depth }) s else deriveKey k depth s
  else if first then deriveKey k depth s
  else keySampleNormal k time depth s

/-! ## Gate crossings and strikes (R28 to R37) -/

/-- An upward crossing of `T` on a pair of samples and its time (R28). -/
def crossing (timeoutUs T : Nat) (prev : Option Clock) (s0 : Nat) (t1 : Clock) (s1 : Nat) : Option Clock :=
  match prev with
  | none => none
  | some t0 =>
    if s0 < T ∧ T ≤ s1 ∧ elapsed t1 t0 ≤ timeoutUs then
      some (t0 + BitVec.ofNat 32 ((T - s0) * elapsed t1 t0 / (s1 - s0)))
    else none

/-- A key's gate bank (R27). -/
def Gates.bank (g : Gates) : Side → GateBank
  | .openEnd => g.openBank
  | .blockedEnd => g.blockedBank

/-- What a hammer sample makes of the hammer: its state, the re-arm time, a strike's bank and interval, a missed strike. -/
structure HammerOutcome where
  state : HammerState
  rearm : Option Clock
  strike : Option (Side × Nat) := none
  missed : Bool := false
deriving DecidableEq, Repr

/-- A gate-2 crossing at `tc2` of a hammer armed at `g1` on `bank` (R31, test 1). -/
def gateTwo (timeoutUs : Nat) (bank : Side) (g1 tc2 : Clock) (rearm : Option Clock) : HammerOutcome :=
  if elapsed tc2 g1 ≤ timeoutUs then { state := .spent, rearm := rearm, strike := some (bank, elapsed tc2 g1) }
  else { state := .ready, rearm := rearm, missed := true }

/-- The hammer machine on a new sample (R30, R31, R32). -/
def hammerMachine (hp : HammerParams) (gates : Gates) (bank : Side) (route : Route) (r : KeyRec) (t : Clock) (h : Nat) :
    HammerOutcome :=
  let tmo := hp.gateTimeoutMs * 1000
  let cross := fun T => crossing tmo T r.hammerTime r.height t h
  match r.hammer with
  | .ready =>
    let rearm := match r.rearm with
      | some t0 => if hp.reboundMs * 1000 ≤ elapsed t t0 then none else some t0
      | none => none
    match cross (gates.bank bank).gate1 with
    | none => { state := .ready, rearm := rearm }
    | some g1 =>
      if rearm.isSome then { state := .ready, rearm := rearm }
      else
        match cross (gates.bank bank).gate2 with
        | some tc2 => gateTwo tmo bank g1 tc2 rearm
        | none => { state := .armed bank g1, rearm := rearm }
  | .armed b g1 =>
    match cross (gates.bank b).gate2 with
    | some tc2 => gateTwo tmo b g1 tc2 r.rearm
    | none =>
      if h < hp.rearmHeight then { state := .ready, rearm := r.rearm, missed := true }
      else if tmo < elapsed t g1 then { state := .ready, rearm := r.rearm, missed := true }
      else
        match cross (gates.bank b).gate1 with
        | some g1' => { state := .armed b g1', rearm := r.rearm }
        | none => { state := .armed b g1, rearm := r.rearm }
  | .spent =>
    if h < hp.rearmHeight then
      if route = .silent ∧ 0 < hp.reboundMs then { state := .ready, rearm := some t }
      else { state := .ready, rearm := none }
    else { state := .spent, rearm := r.rearm }

/-- Hammer speed in mm/s (R34): an interval of 0 is taken as 1. -/
def hammerSpeed (spacing interval : Nat) : Nat := spacing * 1000 / max interval 1

/-- The part of the touch curve from breakpoint `p` on (R35). -/
def curveFrom (v : Nat) (p : Breakpoint) : List Breakpoint → Nat
  | [] => p.level
  | q :: rest =>
    if v < q.speed then p.level + (v - p.speed) * (q.level - p.level) / (q.speed - p.speed) else curveFrom v q rest

/-- The level of a speed by the touch curve (R35). -/
def curveLevel (curve : Vector Breakpoint 9) (v : Nat) : Nat :=
  let p := curve.get 0
  if v ≤ p.speed then p.level else curveFrom v p (curve.toList.drop 1)

/-- The strike level (R34 to R36). -/
def strikeLevel (curve : Vector Breakpoint 9) (trim spacing interval : Nat) : Nat :=
  clamp 1 1023 (curveLevel curve (hammerSpeed spacing interval) * trim / 1024)

/-- A strike of key `k` on `bank` (R37, R38). -/
def makeStrike (k : Key) (time : Clock) (bank : Side) (interval : Nat) (s : State) : State :=
  let u := s.cst.user.working
  let level := strikeLevel u.curve u.trim[k] ((s.cst.factory.working.gates[k]).bank bank).spacing interval
  let kind : EventKind := if (s.key k).sounding then .restrike else .strike
  let s1 := onKey k (fun r =>
    { r with sounding := true, hammer := .spent, state := if r.state = .up then .down else r.state }) s
  trackerEvent
    (keyEvent kind k level
      { bank := some bank, transit := s.rlc.state.inTransit, calDefault := s.cst.defaultMarking } time) s1

/-- A hammer sample handled by the hammer machine (R29 to R33). -/
def hammerSampleNormal (k : Key) (time : Clock) (height : Nat) (s : State) : State :=
  let out := hammerMachine s.cst.user.working.hammer (s.cst.factory.working.gates[k]) (gateBank s) (soundRoute s) (s.key k)
    time height
  let s1 := onKey k (fun r =>
    { r with height := height, hammerTime := some time, hammer := out.state, rearm := out.rearm }) s
  let s2 := if out.missed then { s1 with faults := { s1.faults with missed := satInc s1.faults.missed } } else s1
  match out.strike with
  | some (bank, interval) => makeStrike k time bank interval s2
  | none => s2

/-- A hammer sample passed to the tracker (R29, R40, R44). -/
def hammerSample (k : Key) (time : Clock) (first : Bool) (height : Nat) (s : State) : State :=
  if (s.key k).heldOut || first then onKey k (fun r => { r with height := height, hammerTime := some time }) s
  else hammerSampleNormal k time height s

/-! ## Failure and recovery (R39, R41) -/

/-- A channel of key `k` reported FAILED: the hammer channel, or the key-depth channel (R39). The test for quiet that the
change of health calls for follows steps 1 and 2 (R109). -/
def keyChannelFailed (hammer : Bool) (k : Key) (time : Clock) (s : State) : State :=
  let s1 := onKey k (fun r =>
    let r1 := if hammer then { r with hammerFailed := true } else { r with depthFailed := true }
    { r1 with hammer := .ready, rearm := none }) s
  let q := quietMove s1
  let s2 :=
    if (q.key k).sounding then
      onKey k (fun r => { r with sounding := false })
        (trackerEvent (keyEvent .release k 1 { failed := true } time) q)
    else q
  let s3 := setKeyLift k 0 (onKey k (fun r => { r with heldOut := true, state := .up }) s2)
  let s4 := if hammer then onKey k (fun r => { r with hammerTime := none }) s3 else s3
  raiseAll .keyFail (trackerEvent (keyEvent .keyFail k (if hammer then 2 else 1) {} time) s4)

/-- A channel of key `k` reported recovered (R41), with the test for quiet that the change of health calls for (R109). -/
def keyChannelRecovered (hammer : Bool) (k : Key) (time : Clock) (s : State) : State :=
  let s1 := quietMove
    (onKey k (fun r => if hammer then { r with hammerFailed := false } else { r with depthFailed := false }) s)
  let r := s1.key k
  if r.depthFailed || r.hammerFailed then s1 else trackerEvent (keyEvent .keyRecover k 0 {} time) s1

/-! ## Calibration changes (R42) -/

/-- The hammer machine of key `k` after a per-key calibration value of it changed (R42). -/
def KeyRec.calibrated (r : KeyRec) : KeyRec :=
  { r with hammer := .ready, hammerTime := none }

/-- Every key that `changed` selects has its hammer machine acted on by R42. -/
def resetHammers (changed : Key → Bool) (s : State) : State :=
  { s with keys := Vector.ofFn fun k => if changed k then (s.key k).calibrated else s.key k }

end Sys2Proof.Machine
end

