-- ==== Sys2Proof/Machine/PedalOps.lean ====
section
/-! DEFINITION. The pedal unit: samples, lift and its reporting, sostenuto capture, channel failure and recovery (03). -/

namespace Sys2Proof.Machine

/-- The pedal unit changed by `f`. -/
def onPdu (f : Pdu → Pdu) (s : State) : State := { s with pdu := f s.pdu }

/-- The record of a pedal (R45). -/
def Pdu.get (u : Pdu) : Pedal → PedalRec
  | .damper => u.damper
  | .sostenuto => u.sostenuto
  | .soft => u.soft

/-- The record of a pedal changed by `f`. -/
def Pdu.modify (u : Pdu) (p : Pedal) (f : PedalRec → PedalRec) : Pdu :=
  match p with
  | .damper => { u with damper := f u.damper }
  | .sostenuto => { u with sostenuto := f u.sostenuto }
  | .soft => { u with soft := f u.soft }

/-- The lift of the DAMPER and SOFT pedals (R48). -/
def pedalLiftOf (pts : PedalPoints) (p : Pedal) (depth : Nat) : Nat :=
  match p with
  | .soft => liftOf pts.softP1 pts.softP2 depth
  | _ => liftOf pts.damperP1 pts.damperP2 depth

/-- The lift of DAMPER or SOFT becomes `x`: a change reaches the voice assigner at once (R48, R56, R89, R96). -/
def setPedalLift (p : Pedal) (x : Nat) (s : State) : State :=
  let s1 := onPdu (fun u => u.modify p fun r => { r with lift := x }) s
  if x = (s.pdu.get p).lift then s1
  else
    match p with
    | .damper => recomputeLive s1
    | .soft => softChanged .live s1
    | .sostenuto => s1

/-- The event kind of a pedal (R49, R52). -/
def Pedal.kind : Pedal → EventKind
  | .damper => .damper
  | .sostenuto => .sostenuto
  | .soft => .soft

/-- A lift is to be reported (R49). -/
def reportCalled (step x reported : Nat) : Bool :=
  decide (step ≤ x - reported + (reported - x)) || (decide (x = 0 ∨ x = 255) && decide (x ≠ reported))

/-- A DAMPER or SOFT event with its value as the last reported lift (R49). -/
def reportPedal (p : Pedal) (x : Nat) (time : Clock) (s : State) : State :=
  pedalEvent { time := time, kind := p.kind, source := .live, key := none, value := x }
    (onPdu (fun u => u.modify p fun r => { r with reported := x }) s)

/-- The live sostenuto set becomes `S`; the LIVE voices of the keys that joined or left are recomputed (R50, R89). -/
def setSostSet (S : KeySet) (s : State) : State :=
  let s1 := onPdu (fun u => { u with sostSet := S }) s
  if S = s.pdu.sostSet then s1 else recomputeLiveDiff s.pdu.sostSet S s1

/-- The keys that are DOWN or RISING (R52). -/
def downKeys (s : State) : KeySet := KeySet.ofPred fun k => (s.key k).state != .up

/-- A SOSTENUTO event (R52, R53). -/
def sostEvent (value count : Nat) (time : Clock) : Event :=
  { time := time, kind := .sostenuto, source := .live, key := some count, value := value }

/-- The sostenuto pedal goes ON (R52). The count is the number of keys the capture added. -/
def sostenutoOn (time : Clock) (s : State) : State :=
  let added := KeySet.ofPred fun k => (downKeys s).has k && !s.pdu.sostSet.has k
  let s1 := onPdu (fun u => { u with sostOn := true, sostenuto := { u.sostenuto with lift := 255 } }) s
  pedalEvent (sostEvent 1 added.size time) (setSostSet (s.pdu.sostSet.union (downKeys s)) s1)

/-- The sostenuto pedal goes OFF (R53). -/
def sostenutoOff (time : Clock) (s : State) : State :=
  let held := s.pdu.sostSet.size
  let s1 := onPdu (fun u => { u with sostOn := false, sostenuto := { u.sostenuto with lift := 0 } }) s
  pedalEvent (sostEvent 0 held time) (setSostSet KeySet.empty s1)

/-- The sostenuto state tested against a depth (R51): an off-threshold at or above the on-threshold gives way to it. -/
def sostenutoTest (time : Clock) (depth : Nat) (s : State) : State :=
  let pts := s.cst.user.working.pedals
  if s.pdu.sostOn then
    if depth < min pts.sostOffAt pts.sostOnAt then sostenutoOff time s else s
  else if pts.sostOnAt ≤ depth then sostenutoOn time s
  else s

/-- The depth of a pedal set (R45, R47). -/
def setPedalDepth (p : Pedal) (depth : Nat) (s : State) : State :=
  onPdu (fun u => u.modify p fun r => { r with depth := depth }) s

/-- A pedal sample passed to the pedal unit (R47, R49, R59). -/
def pedalSample (p : Pedal) (time : Clock) (first : Bool) (depth : Nat) (s : State) : State :=
  let pts := s.cst.user.working.pedals
  let s1 := setPedalDepth p depth s
  match p with
  | .sostenuto => if first then s1 else sostenutoTest time depth s1
  | _ =>
    let x := pedalLiftOf pts p depth
    let s2 := setPedalLift p x s1
    if first then onPdu (fun u => u.modify p fun r => { r with reported := x }) s2
    else if reportCalled pts.step x (s2.pdu.get p).reported then reportPedal p x time s2
    else s2

/-- A pedal channel reported FAILED (R57). -/
def pedalChannelFailed (p : Pedal) (time : Clock) (s : State) : State :=
  let s1 := onPdu (fun u => u.modify p fun r => { r with failed := true }) s
  let s2 :=
    match p with
    | .sostenuto => if s1.pdu.sostOn then sostenutoOff time s1 else s1
    | _ =>
      let s' := setPedalLift p 0 s1
      if (s'.pdu.get p).reported ≠ 0 then reportPedal p 0 time s' else s'
  raiseAll .pedalFail (reportFault .pedalFail s2)

/-- A pedal channel reported recovered (R58); its sample follows. -/
def pedalChannelRecovered (p : Pedal) (s : State) : State :=
  onPdu (fun u => u.modify p fun r => { r with failed := false }) s

end Sys2Proof.Machine
end

