-- ==== Sys2Proof/Machine/Lines.lean ====
section
/-! DEFINITION. The serial lines: receiving, link reset, transmitting, pending notices and the voice order drain; the meanings of the commands of the lines (R95, R161 to R165, R172, R179). -/

namespace Sys2Proof.Machine

/-! ## A system reset arriving (R173, R190) -/

/-- A system reset arrives: it is held behind every commit in flight at this moment (R190; log 9). -/
def resetArrives (s : State) : State :=
  { s with sysReset := .arrived s.cst.factory.commit.isSome s.cst.user.commit.isSome }

/-! ## Link reset (R172) -/

/-- A frame cut off after the byte under way, of 5 µs (R161, R172; logs 16, 46). -/
def Sending.cutOff (now : Clock) (sd : Sending) : Sending :=
  { sd with bytes := sd.bytes.take (elapsed now sd.start / 5 + 1) }

/-- A link port as a reset leaves it: a frame being sent is cut off after the byte under way, and the level of its
receive line is the outside's (R172). -/
def LinkState.afterReset (now : Clock) (ls : LinkState) : LinkState :=
  { lineLow := ls.lineLow, sending := ls.sending.map (Sending.cutOff now) }

/-- The roles with those of link `l` given up (R167). -/
def Roles.without (r : Roles) (l : Link) : Roles where
  tone := if r.tone = some l then none else r.tone
  panel := if r.panel = some l then none else r.panel

/-- The link reset of link `l` (R172): roles, port, journal stream, notices, demand; a system reset whose reply is
still to be sent in full arrives now (R173). ROLE_CHANGE is raised behind what the change of demand makes the rail raise
(log 40). -/
def linkReset (l : Link) (s : State) : State :=
  let held := holdsTone s l || holdsPanel s l
  let s1 := if holdsTone s l then toneTeardown s else s
  let s2 := onLink l (LinkState.afterReset s.clock) { s1 with roles := s1.roles.without l }
  let s3 := setDemand (s2.rlc.demand.setLink l false) s2
  let s4 := if held then raiseAll .roleChange s3 else s3
  if s4.sysReset = .awaitingReply l then resetArrives s4 else s4

/-! ## Receiving (R162, R163) -/

/-- A frame discarded: a check error counted, LINK_CHECK set, LINK_ERROR raised, the receiver in HUNT (R162). -/
def discardFrame (l : Link) (s : State) : State :=
  onLink l (fun ls =>
    LinkState.raise .linkError { ls with rx := .hunt, checkErrors := satInc ls.checkErrors, checkFlag := true }) s

/-- A complete frame handed on (R163): LINK RESET acts at once, a third frame is discarded. -/
def completeFrame (l : Link) (payload : List Byte) (s : State) : State :=
  if payload.head? = some kLinkReset then linkReset l s
  else
    onLink l (fun ls =>
      let l1 := { ls with rx := .hunt }
      if ls.rxBuf.length < Config.rxFrames then { l1 with rxBuf := ls.rxBuf ++ [payload] }
      else LinkState.raise .linkError { l1 with overflows := satInc ls.overflows, overflowFlag := true }) s

/-- More than 200 µs have passed since the last byte inside a frame (R162), from the end of one byte to the end of the
next (log 39). -/
def gapDue (l : Link) (s : State) : Bool :=
  decide (s.phase = .running) && (s.link l).rx != .hunt && decide (200 < elapsed s.clock (s.link l).lastByte)

/-- The receiver of link `l` moves on, with this byte as its last (R162). -/
def setReceiver (l : Link) (rx : Receiver) (s : State) : State :=
  onLink l (fun ls => { ls with rx := rx, lastByte := s.clock }) s

/-- A byte taken by the receiver (R162). A byte with a low stop bit discards a frame under way; in HUNT it is ignored
(log 12). -/
def takeByte (l : Link) (b : Byte) (stopLow : Bool) (s : State) : State :=
  match (s.link l).rx with
  | .hunt => if b = syncByte ∧ stopLow = false then setReceiver l .length s else s
  | .length =>
    if stopLow = false ∧ 1 ≤ b.toNat ∧ b.toNat ≤ 64 then setReceiver l (.payload b.toNat []) s else discardFrame l s
  | .payload len got =>
    if stopLow then discardFrame l s
    else if len ≤ got.length + 1 then setReceiver l (.check (got ++ [b])) s
    else setReceiver l (.payload len (got ++ [b])) s
  | .check got =>
    if stopLow = false ∧ b = crc8 (byteOf got.length :: got) then completeFrame l got s else discardFrame l s

/-- RECEIVE_BYTE (R162, R163, R172, R189): no byte is taken before the regions are loaded or while the line is low. -/
def execReceiveByte (l : Link) (b : Byte) (stopLow : Bool) (s : State) : Host.Outcome State Fault Refusal :=
  .next (if s.phase = .running ∧ (s.link l).lineLow = false then
      takeByte l b stopLow (if gapDue l s then discardFrame l s else s)
    else s)

/-- INTER_BYTE_GAP_TIMEOUT (R162). -/
def execInterByteGapTimeout (l : Link) (s : State) : Host.Outcome State Fault Refusal :=
  .next (if gapDue l s then discardFrame l s else s)

/-- BREAK (R172): the line has been low for 2 ms. A break while the line is already known to be low does nothing more. -/
def execLineBreak (l : Link) (s : State) : Host.Outcome State Fault Refusal :=
  .next (if (s.link l).lineLow then s
    else
      let s1 := onLink l (fun ls => { ls with lineLow := true }) s
      if s.phase = .running then linkReset l s1 else s1)

/-- LINE_RETURNS_HIGH (R172): bytes can be taken again, from HUNT. -/
def execLineReturnsHigh (l : Link) (s : State) : Host.Outcome State Fault Refusal :=
  .next (if (s.link l).lineLow then onLink l (fun ls => { ls with lineLow := false, rx := .hunt }) s else s)

/-! ## Transmitting (R161, R165, R179) -/

/-- The payload of a NOTICE frame of entry `i` (R174, R179). -/
def noticePayload (i : Fin 8) (e : NoticeEntry) : List Byte :=
  [kNotice, byteOf i.val] ++ le16 e.tag.toNat ++ le16 e.acc.toNat

/-- The link after the transmitter takes frame `f` with `rest` behind it (R165, R179): a notice is given its content,
and its accumulated classes and queued-unsent flag are cleared. -/
def LinkState.handOver (now : Clock) (f : TxFrame) (rest : List TxFrame) (ls : LinkState) : LinkState :=
  let l1 := { ls with tx := rest }
  match f with
  | .reply p => { l1 with sending := some { bytes := envelope p, start := now } }
  | .voiceOrders p => { l1 with sending := some { bytes := envelope p, start := now } }
  | .depth p => { l1 with sending := some { bytes := envelope p, start := now } }
  | .notice i =>
    let e := ls.entry i
    { l1.setEntry i { e with acc := 0, queued := false } with
      sending := some { bytes := envelope (noticePayload i e), start := now } }

/-- A frame waits and the transmitter of link `l` is free (R165). -/
def transmitDue (l : Link) (s : State) : Bool :=
  decide (s.phase = .running) && (s.link l).sending.isNone && !(s.link l).tx.isEmpty

/-- TRANSMIT_FRAME_START (R165). -/
def execTransmitFrameStart (l : Link) (s : State) : Host.Outcome State Fault Refusal :=
  .next (if transmitDue l s then
      match (s.link l).tx with
      | f :: rest => onLink l (LinkState.handOver s.clock f rest) s
      | [] => s
    else s)

/-- A frame has been sent in full: 5 µs a byte (R165, log 16). -/
def Sending.complete (now : Clock) (sd : Sending) : Bool := decide (5 * sd.bytes.length ≤ elapsed now sd.start)

/-- The frame being sent is the whole reply that answers a SYSTEM RESET with DONE (R173). -/
def Sending.answersReset (sd : Sending) : Bool := sd.bytes == envelope [kSystemReset ||| 0x80, 0]

/-- The link with its transmitter free if the frame it sends has been sent in full (R165). -/
def LinkState.freed (now : Clock) (ls : LinkState) : LinkState :=
  if ls.sending.any (Sending.complete now) then { ls with sending := none } else ls

/-- The link has sent the reply to a SYSTEM RESET in full (R173). -/
def LinkState.replied (now : Clock) (ls : LinkState) : Bool := ls.sending.any fun sd => sd.complete now && sd.answersReset

/-- The transmitter of link `l` becomes free when its frame is sent in full; if that was the reply a system reset
waits for, the reset arrives (R173). -/
def finishSending (l : Link) (s : State) : State :=
  let s1 := onLink l (LinkState.freed s.clock) s
  if s.sysReset = .awaitingReply l ∧ (s.link l).replied s.clock = true then resetArrives s1 else s1

/-! ## Pending notices (R179) -/

/-- A free place and an entry waiting for it (R179). -/
def noticeDue (l : Link) (s : State) : Option (Fin 8) :=
  if s.phase = .running ∧ (s.link l).placeFree = true then (s.link l).nextEligible else none

/-- PENDING_NOTICE_QUEUED (R179). -/
def execPendingNoticeQueued (l : Link) (s : State) : Host.Outcome State Fault Refusal :=
  .next (match noticeDue l s with
    | some i => onLink l (fun ls => ls.queueNotice i) s
    | none => s)

/-! ## Voice order drain (R93, R95) -/

/-- The TONE link can take orders (R95). -/
def drainDue (s : State) : Option Link :=
  match s.roles.tone with
  | some l =>
    if s.phase = .running ∧ s.vas.queue ≠ [] ∧ (s.link l).ordersWaiting = false ∧ (s.link l).placeFree = true then some l
    else none
  | none => none

/-- Orders one VOICE ORDER frame carries under a payload limit (R95). -/
def ordersPerFrame (limit : Limit) : Nat := (limit.bytes - 2) / 8

/-- A VOICE ORDER frame's payload (R174). -/
def ordersPayload (os : List VoiceOrder) : List Byte :=
  [kVoiceOrder, byteOf os.length] ++ os.flatMap VoiceOrder.bytes

/-- Stale damps queued while the queue holds fewer than 32 orders, lowest slot first (R93). -/
def refillStale (s : State) : State :=
  (List.finRange 128).foldl
    (fun s n =>
      let sl := s.slot n
      match sl.voice with
      | some v =>
        if sl.stale && decide (s.vas.queue.length < Config.queueRefill) then
          queueOrder (.damp n sl.gen v.applied)
            (setSlot n { sl with stale := false, voice := some { v with lastSent := v.applied } } s)
        else s
      | none => s) s

/-- Orders leave the head of the queue for a VOICE ORDER frame of link `l` (R93, R95). -/
def drainOrders (l : Link) (s : State) : State :=
  let n := ordersPerFrame (s.link l).limit
  let s1 := onLink l (fun ls => { ls with tx := ls.tx ++ [.voiceOrders (ordersPayload (s.vas.queue.take n))] }) s
  refillStale (onVas (fun va => { va with queue := va.queue.drop n }) s1)

/-- VOICE_ORDER_DRAIN (R95). -/
def execVoiceOrderDrain (s : State) : Host.Outcome State Fault Refusal :=
  .next (match drainDue s with
    | some l => drainOrders l s
    | none => s)

end Sys2Proof.Machine
end

