-- ==== Sys2Proof/Machine/Sensing.lean ====
section
/-! DEFINITION. The sensor front end: channel health, normalising, the walk of the scan list, frame ends and depth frames; the meanings of FRAME_START, SETTLE_END and CONVERSION_END (01, R170). -/

namespace Sys2Proof.Machine

/-! ## Channels (R14 to R18) -/

/-- A raw value is in range (R16). -/
def rawOk (raw : Nat) : Bool := decide (40 ≤ raw) && decide (raw ≤ 4055)

/-- A raw value mapped onto 0 to 1023 (R14): below rest it is 0. -/
def normalise (rest full raw : Nat) : Nat := min ((raw - rest) * 1023 / (full - rest)) 1023

/-- What a conversion makes of a channel record, and what its consumer is told. -/
structure ChannelOutcome where
  record : ChannelRec
  /-- the channel fails on this conversion (R17) -/
  fails : Bool := false
  /-- the channel recovers on this conversion (R18) -/
  recovers : Bool := false
  /-- the sample is passed on (R15) -/
  passes : Bool := false
  /-- with the first-sample mark (R15) -/
  first : Bool := false
deriving DecidableEq, Repr

/-- A converted value stored and health-tested (R2, R15 to R18). -/
def channelTest (ch : ChannelRec) (raw : Nat) : ChannelOutcome :=
  let c1 : ChannelRec := { ch with lastRaw := some raw }
  if ch.failed then
    if rawOk raw then
      if 1024 ≤ ch.inRun + 1 then
        { record := { c1 with failed := false, inRun := 1024, outRun := 0, delivered := true }
          recovers := true, passes := true, first := !ch.delivered }
      else { record := { c1 with inRun := ch.inRun + 1 } }
    else { record := { c1 with inRun := 0 } }
  else if rawOk raw then { record := { c1 with outRun := 0, delivered := true }, passes := true, first := !ch.delivered }
  else if 32 ≤ ch.outRun + 1 then { record := { c1 with failed := true, outRun := 32, inRun := 0 }, fails := true }
  else { record := { c1 with outRun := ch.outRun + 1 } }

/-- The key of input `j` of group K*g* or H*g* (R1). -/
def groupKey (g : Fin 11) (j : Ain) : Key := ⟨8 * g.val + j.val, by omega⟩

/-- The pedal of input `j` of group P; AIN3 to AIN7 belong to none (R1). -/
def groupPedal (j : Ain) : Option Pedal :=
  match j with
  | 0 => some .damper
  | 1 => some .sostenuto
  | 2 => some .soft
  | _ => none

/-- Position of a pedal among the three channels of group P (R1). -/
def Pedal.index : Pedal → Fin 3
  | .damper => 0
  | .sostenuto => 1
  | .soft => 2

/-- A result of a key-depth channel (R14 to R18). -/
def convertKey (k : Key) (time : Clock) (raw : Nat) (s : State) : State :=
  let out := channelTest s.sfe.keyCh[k] raw
  let cal := s.cst.factory.working.keySensor[k]
  let s1 := onSfe (fun f => { f with keyCh := f.keyCh.set k out.record }) s
  let s2 := if out.fails then keyChannelFailed false k time (reportFault .sensorFail s1) else s1
  let s3 := if out.recovers then keyChannelRecovered false k time s2 else s2
  if out.passes then keyDepthSample k time out.first (normalise cal.keyRest cal.keyBottom raw) s3 else s3

/-- A result of a hammer channel (R14 to R18), with the test for quiet that a hammer sample calls for (R109). -/
def convertHammer (k : Key) (time : Clock) (raw : Nat) (s : State) : State :=
  let out := channelTest s.sfe.hammerCh[k] raw
  let cal := s.cst.factory.working.keySensor[k]
  let s1 := onSfe (fun f => { f with hammerCh := f.hammerCh.set k out.record }) s
  let s2 := if out.fails then keyChannelFailed true k time (reportFault .sensorFail s1) else s1
  let s3 := if out.recovers then keyChannelRecovered true k time s2 else s2
  if out.passes then quietMove (hammerSample k time out.first (normalise cal.hammerRest cal.hammerTop raw) s3) else s3

/-- A result of a pedal channel (R14 to R18). -/
def convertPedal (p : Pedal) (time : Clock) (raw : Nat) (s : State) : State :=
  let out := channelTest s.sfe.pedalCh[p.index] raw
  let cal := s.cst.factory.working.pedalSensor[p.index]
  let s1 := onSfe (fun f => { f with pedalCh := f.pedalCh.set p.index out.record }) s
  let s2 := if out.fails then pedalChannelFailed p time (reportFault .sensorFail s1) else s1
  let s3 := if out.recovers then pedalChannelRecovered p s2 else s2
  if out.passes then pedalSample p time out.first (normalise cal.rest cal.full raw) s3 else s3

/-- One result of a converted group; those of AIN3 to AIN7 of group P are discarded (R1). -/
def convertResult (g : Group) (time : Clock) (s : State) (r : AinResult) : State :=
  match g with
  | .k n => convertKey (groupKey n r.ain) time r.raw s
  | .h n => convertHammer (groupKey n r.ain) time r.raw s
  | .p =>
    match groupPedal r.ain with
    | some p => convertPedal p time r.raw s
    | none => s

/-! ## Frame ends and depth frames (R13, R170) -/

/-- The key of window position `p` (R169). -/
def windowKey (ls : LinkState) (p : Fin 16) : Key :=
  if h : p.val < 8 then ⟨ls.base0.val + p.val, by omega⟩ else ⟨ls.base1.val + (p.val - 8), by omega⟩

/-- A depth frame's payload (R170, R174). -/
def depthPayload (s : State) (ls : LinkState) : List Byte :=
  [kDepth, ls.depthNumber, byteOf ls.base0.val, byteOf ls.base1.val]
    ++ (List.finRange 16).flatMap (fun p => le16 (s.key (windowKey ls p)).depth)
    ++ le16 s.pdu.damper.depth ++ le16 s.pdu.sostenuto.depth ++ le16 s.pdu.soft.depth

/-- A depth frame falls due on a link at this frame end (R170). -/
def LinkState.depthDue (ls : LinkState) : Bool := decide (ls.depthPeriod ≠ 0 ∧ ls.depthPeriod ≤ ls.depthCount + 1)

/-- A frame end counted on a link: the frame count, and at the period a depth frame queued or skipped (R170). -/
def depthTick (s : State) (ls : LinkState) : LinkState :=
  if ls.depthPeriod = 0 then ls
  else if ls.depthDue then
    let l1 := { ls with depthCount := 0, depthNumber := ls.depthNumber + 1 }
    if ls.placeFree then { l1 with tx := ls.tx ++ [.depth (depthPayload s ls)] } else l1
  else { ls with depthCount := ls.depthCount + 1 }

/-- The skipped-depth count after a link's frame end (R170). -/
def skipCount (ls : LinkState) (n : Nat) : Nat := if ls.depthDue && !ls.placeFree then satInc n else n

/-- Sensing is seen: the first frame end since the reset, at which the rail tests for quiet (R109). -/
def seeSensing (s : State) : State :=
  if s.rlc.sensingSeen then s else quietMove (onRlc (fun r => { r with sensingSeen := true }) s)

/-- The end of a walk signalled: depth streams count it (R13, R170), and the rail controller has seen sensing (R109).
DESIGN CHOICE (log 43): the depth frames join the transmit queues before the rail's test for quiet, whose notices want the
same free places. -/
def frameEnd (s : State) : State :=
  let n := skipCount s.links.c (skipCount s.links.b (skipCount s.links.a s.faults.skipped))
  seeSensing (onEveryLink (depthTick s) { s with faults := { s.faults with skipped := n } })

/-! ## The walk (R4 to R12) -/

/-- An entry begins: a switch and its settle, or the sample instant at once (R8). -/
def beginEntry (pos : WalkPos) (s : State) : State :=
  let g := (s.sfe.active.entries[pos.index]).group
  if s.sfe.selected = some g then onSfe (fun f => { f with walk := .converting pos s.clock }) s
  else onSfe (fun f => { f with selected := some g, walk := .settling pos s.clock }) s

/-- A frame starts now (R7, R10, R11). -/
def startFrame (s : State) : State :=
  let list := s.sfe.pendingList.getD s.sfe.active
  let s1 := onSfe (fun f =>
    { f with active := list, pendingList := none, settle := s.cst.user.working.settle,
             due := some (s.clock + BitVec.ofNat 32 s.cst.user.working.period) }) s
  beginEntry { index := list.first, count := 0 } s1

/-- The walk that ends now ends later than the due time (R12). -/
def endsLate (s : State) : Bool :=
  match s.sfe.due with
  | some d => decide (d ≠ s.clock) && reached s.clock d
  | none => false

/-- A frame overrun reported (R12). -/
def frameOverrun (s : State) : State :=
  raiseAll .frameOverrun
    (reportFault .frameOverrun { s with faults := { s.faults with overruns := satInc s.faults.overruns } })

/-- A walk ends (R5, R11, R12, R13): the front end waits, or a late frame starts at once. DESIGN CHOICE (log 48):
LIST_LOOP is reported first, the frame end is signalled next, and a late walk's overrun is reported last. -/
def endWalk (looped : Bool) (s : State) : State :=
  let s1 := frameEnd (if looped then reportFault .listLoop s else s)
  let s2 := onSfe (fun f => { f with walk := .waiting }) s1
  if endsLate s2 then startFrame (frameOverrun s2) else s2

/-- The walk goes on after the entry at `pos`, or ends (R4, R5). -/
def nextEntry (pos : WalkPos) (s : State) : State :=
  let e := s.sfe.active.entries[pos.index]
  if e.last then endWalk false s
  else if Config.walkLimit ≤ pos.count + 1 then endWalk true s
  else beginEntry { index := e.next, count := pos.count + 1 } s

/-! ## When the front end's steps fall due -/

/-- A frame is to start: the front end waits and the due time is reached (R11). -/
def frameDue (s : State) : Bool :=
  match s.phase, s.sfe.walk, s.sfe.due with
  | .running, .waiting, some d => reached s.clock d
  | _, _, _ => false

/-- The settle interval of the entry under way has passed (R8, R10). -/
def settleDue (s : State) : Option WalkPos :=
  match s.phase, s.sfe.walk with
  | .running, .settling pos since => if s.sfe.settle ≤ elapsed s.clock since then some pos else none
  | _, _ => none

/-- The 4 µs of the conversion under way have passed (R8). -/
def conversionDue (s : State) : Option (WalkPos × Clock) :=
  match s.phase, s.sfe.walk with
  | .running, .converting pos t => if 4 ≤ elapsed s.clock t then some (pos, t) else none
  | _, _ => none

/-! ## Meanings -/

/-- FRAME_START (R11). -/
def execFrameStart (s : State) : Host.Outcome State Fault Refusal :=
  .next (if frameDue s then startFrame s else s)

/-- SETTLE_END (R8, R9): the sample instant. -/
def execSettleEnd (s : State) : Host.Outcome State Fault Refusal :=
  .next (match settleDue s with
    | some pos => onSfe (fun f => { f with walk := .converting pos s.clock }) s
    | none => s)

/-- CONVERSION_END (R8, R9, R14): the results are handled in the order given, then the walk goes on. -/
def execConversionEnd (results : List AinResult) (s : State) : Host.Outcome State Fault Refusal :=
  .next (match conversionDue s with
    | some (pos, t) =>
      nextEntry pos (results.foldl (convertResult (s.sfe.active.entries[pos.index]).group t) s)
    | none => s)

end Sys2Proof.Machine
end

