-- ==== Sys2Proof/Machine/Links.lean ====
section
/-! DEFINITION. The requests of the link chapter: unknown kinds, HELLO, SET LINK, CLAIM ROLE, keys, windows, depth streams, SET SCAN LIST, SYSTEM RESET (09, R6). -/

namespace Sys2Proof.Machine

/-- UNKNOWN_REQUEST (R164): answered UNKNOWN with no data. -/
def execUnknownRequest (l : Link) (s : State) : Host.Outcome State Fault Refusal :=
  .next (match headRequest l s with
    | some (kind, _) =>
      if requestCommand l kind = none then putReply l kind { result := .unknown } (popRequest l s) else s
    | none => s)

/-- HELLO's effect (R168): nothing changes. -/
def helloEffect (l : Link) (_args : List Byte) (s : State) : State × Reply :=
  done s (le16 Config.partCode ++ [byteOf Config.revision, byteOf (linkCode (some l)), byteOf (rolesHeld s.roles l)])

/-- HELLO (R168). -/
def execHello (l : Link) (s : State) : Host.Outcome State Fault Refusal := .next (serve l kHello (helloEffect l) s)

/-- The payload limit of a byte (R166). -/
def Limit.ofBytes : Nat → Option Limit
  | 16 => some .b16
  | 32 => some .b32
  | 64 => some .b64
  | _ => none

/-- The new grant leaves entry `i` ungranted: it is made unused and its waiting frame withdrawn (R176). -/
def LinkState.dropEntry (grant : Nat) (ls : LinkState) (i : Fin 8) : LinkState :=
  if i.val < grant then ls else (ls.withdraw i).setEntry i {}

/-- A link with a new payload limit and notice grant (R166, R176). -/
def LinkState.withLimit (limit : Limit) (grant : Nat) (ls : LinkState) : LinkState :=
  let l1 := (List.finRange 8).foldl (LinkState.dropEntry grant) ls
  let l2 := { l1 with limit := limit, notice := { l1.notice with grant := grant } }
  if limit = .b64 then l2 else { l2 with depthPeriod := 0 }

/-- SET LINK's effect (R166). -/
def setLinkEffect (l : Link) (args : List Byte) (s : State) : State × Reply :=
  needs 2 args s
    (match Limit.ofBytes (byteAt args 0) with
    | some limit =>
      let g := byteAt args 1
      if g = 1 ∨ g = 2 ∨ g = 4 ∨ g = 8 then
        done (onLink l (LinkState.withLimit limit g) s) [byteOf limit.bytes, byteOf g]
      else refuse .argument s
    | none => refuse .argument s)

/-- SET_LINK (R166). -/
def execSetLink (l : Link) (s : State) : Host.Outcome State Fault Refusal := .next (serve l kSetLink (setLinkEffect l) s)

/-- A reply of CLAIM ROLE: it carries the two holders whatever the result (R174). -/
def holdersReply (r : Result) (s : State) : State × Reply :=
  (s, { result := r, data := [byteOf (linkCode s.roles.tone), byteOf (linkCode s.roles.panel)] })

/-- CLAIM ROLE's effect (R100, R167). ROLE_CHANGE is raised before the orders of a new TONE link join, and the LIVE
source's order joins before the PLAYBACK source's (log 36). -/
def claimRoleEffect (l : Link) (args : List Byte) (s : State) : State × Reply :=
  if args.length < 1 then holdersReply .argument s
  else
    match byteAt args 0 with
    | 0 =>
      if s.roles.tone = some l then holdersReply .done s
      else if s.roles.tone.isSome then holdersReply .role s
      else
        let s1 := raiseAll .roleChange { s with roles := { s.roles with tone := some l } }
        holdersReply .done (softClaimed .playback (softClaimed .live s1))
    | 1 =>
      if s.roles.panel = some l then holdersReply .done s
      else if s.roles.panel.isSome then holdersReply .role s
      else holdersReply .done (raiseAll .roleChange { s with roles := { s.roles with panel := some l } })
    | _ => holdersReply .argument s

/-- CLAIM_ROLE (R167). -/
def execClaimRole (l : Link) (s : State) : Host.Outcome State Fault Refusal :=
  .next (serve l kClaimRole (claimRoleEffect l) s)

/-! ## Keys on the links (R169) -/

/-- A key record as read, 12 bytes (R174). -/
def keyRecordBytes (s : State) (k : Key) : List Byte :=
  let r := s.key k
  [byteOf k.val, byteOf (keyFlagByte r)] ++ le16 r.depth ++ le16 r.height ++ le16 (rawWord s.sfe.keyCh[k])
    ++ le16 (rawWord s.sfe.hammerCh[k]) ++ [byteOf r.lift, byteOf (keyTailByte r (s.pdu.sostSet.has k))]

/-- A pedal record as read, 12 bytes (R174). DESIGN CHOICE (log 47): bit 0 of byte 1, sostenuto ON, is 0 in the DAMPER
and SOFT records, which have no such state (R45); byte 11 is the set's size in all three. -/
def pedalRecordBytes (s : State) (p : Pedal) : List Byte :=
  let r := s.pdu.get p
  [byteOf (88 + p.index.val), byteOf (bitAt 0 (p == .sostenuto && s.pdu.sostOn) + bitAt 6 r.failed)]
    ++ le16 r.depth ++ le16 r.reported ++ le16 (rawWord s.sfe.pedalCh[p.index]) ++ le16 65535
    ++ [byteOf r.lift, byteOf s.pdu.sostSet.size]

/-- Record of index 0 to 90 as read (R169). -/
def recordBytes (s : State) (i : Nat) : List Byte :=
  if h : i < 88 then keyRecordBytes s ⟨i, h⟩
  else if i = 88 then pedalRecordBytes s .damper
  else if i = 89 then pedalRecordBytes s .sostenuto
  else pedalRecordBytes s .soft

/-- Number of key records returned (R169); a count above 91 is taken as it is (log 37). -/
def keysReturned (limit : Limit) (first count : Nat) : Nat := min count (min (91 - first) ((limit.bytes - 4) / 12))

/-- READ KEYS' effect (R169). -/
def readKeysEffect (l : Link) (args : List Byte) (s : State) : State × Reply :=
  needs 2 args s
    (let first := byteAt args 0
     if 90 < first then refuse .argument s
     else
       let n := keysReturned (s.link l).limit first (byteAt args 1)
       done s ([byteOf first, byteOf n] ++ (List.range n).flatMap fun i => recordBytes s (first + i)))

/-- READ_KEYS (R169). -/
def execReadKeys (l : Link) (s : State) : Host.Outcome State Fault Refusal := .next (serve l kReadKeys (readKeysEffect l) s)

/-- A window base clamped to 80 (R169). -/
def clampBase (n : Nat) : Fin 81 := ⟨min n 80, by omega⟩

/-- SET WINDOW's effect (R169). -/
def setWindowEffect (l : Link) (args : List Byte) (s : State) : State × Reply :=
  needs 2 args s
    (if 1 < byteAt args 0 then refuse .argument s
     else
       let base := clampBase (byteAt args 1)
       let s1 := onLink l (fun ls => if byteAt args 0 = 0 then { ls with base0 := base } else { ls with base1 := base }) s
       done s1 [byteOf (s1.link l).base0.val, byteOf (s1.link l).base1.val])

/-- SET_WINDOW (R169). -/
def execSetWindow (l : Link) (s : State) : Host.Outcome State Fault Refusal :=
  .next (serve l kSetWindow (setWindowEffect l) s)

/-- A window entry, 3 bytes (R174). -/
def windowEntryBytes (r : KeyRec) : List Byte := le16 (windowWord r) ++ [byteOf r.lift]

/-- READ WINDOW's effect (R169). -/
def readWindowEffect (l : Link) (args : List Byte) (s : State) : State × Reply :=
  needs 1 args s
    (let first := byteAt args 0
     if 15 < first then refuse .argument s
     else
       let n := min (16 - first) (((s.link l).limit.bytes - 4) / 3)
       done s ([byteOf first, byteOf n]
         ++ (((List.finRange 16).drop first).take n).flatMap fun p => windowEntryBytes (s.key (windowKey (s.link l) p))))

/-- READ_WINDOW (R169). -/
def execReadWindow (l : Link) (s : State) : Host.Outcome State Fault Refusal :=
  .next (serve l kReadWindow (readWindowEffect l) s)

/-- DEPTH STREAM's effect (R170). -/
def depthStreamEffect (l : Link) (args : List Byte) (s : State) : State × Reply :=
  needs 1 args s
    (let period := min (byteAt args 0) 64
     if period ≠ 0 ∧ (s.link l).limit ≠ .b64 then refuse .state s
     else
       done (onLink l (fun ls => { ls with depthPeriod := period, depthCount := 0, depthNumber := 0 }) s) [byteOf period])

/-- DEPTH_STREAM (R170). -/
def execDepthStream (l : Link) (s : State) : Host.Outcome State Fault Refusal :=
  .next (serve l kDepthStream (depthStreamEffect l) s)

/-! ## SET SCAN LIST (R6) -/

/-- Entries written into a list at an index and those that follow (R6). -/
def writeEntries (v : Vector ScanEntry 64) (start : Nat) (es : List ScanEntry) : Vector ScanEntry 64 :=
  Vector.ofFn fun i => if h : start ≤ i.val ∧ i.val - start < es.length then es[i.val - start] else v[i]

/-- SET SCAN LIST's effect (R6). -/
def setScanListEffect (args : List Byte) (s : State) : State × Reply :=
  needs 4 args s
    (let start := byteAt args 0
     let count := byteAt args 1
     if count = 0 ∨ 24 < count ∨ 64 < start + count ∨ args.length < 4 + 2 * count then refuse .argument s
     else
       match finOf 64 (byteAt args 2), scanEntriesAt args 4 count with
       | some first, some es =>
         let list : ScanList := { entries := writeEntries s.sfe.staging.entries start es, first := first }
         done (onSfe (fun f =>
           { f with staging := list, pendingList := if bitOf args 3 0 then some list else f.pendingList }) s)
       | _, _ => refuse .argument s)

/-- SET_SCAN_LIST (R6). -/
def execSetScanList (l : Link) (s : State) : Host.Outcome State Fault Refusal :=
  .next (serve l kSetScanList setScanListEffect s)

/-! ## SYSTEM RESET (R173) -/

/-- SYSTEM RESET's effect (R173): the reset awaits its reply; one already awaiting its effect is left as it is. -/
def systemResetEffect (l : Link) (_args : List Byte) (s : State) : State × Reply :=
  if holdsPanel s l then
    done (if s.sysReset = .none then { s with sysReset := .awaitingReply l } else s)
  else refuse .role s

/-- SYSTEM_RESET (R173). -/
def execSystemReset (l : Link) (s : State) : Host.Outcome State Fault Refusal :=
  .next (serve l kSystemReset (systemResetEffect l) s)

end Sys2Proof.Machine
end

