-- ==== Sys2Proof/Machine/Notices.lean ====
section
/-! DEFINITION. The requests of the notice unit and the fault record: NOTICE SET, NOTICE MASK, READ FAULTS, CLEAR FAULTS (10). -/

namespace Sys2Proof.Machine

/-- Entry `i` written by NOTICE SET (R177). -/
def LinkState.writeEntry (ls : LinkState) (i : Fin 8) (classes tag : BitVec 16) : LinkState :=
  let l1 := ls.withdraw i
  l1.setEntry i (if classes = 0 then {} else { classes := classes, tag := tag, mask := (ls.entry i).mask })

/-- NOTICE SET's effect (R177). -/
def noticeSetEffect (l : Link) (args : List Byte) (s : State) : State × Reply :=
  needs 5 args s
    (match finOf 8 (byteAt args 0) with
    | none => refuse .argument s
    | some i =>
      if (s.link l).notice.grant ≤ i.val then refuse .argument s
      else
        let s1 := onLink l (fun ls => ls.writeEntry i (BitVec.ofNat 16 (word16At args 1)) (BitVec.ofNat 16 (word16At args 3))) s
        let e := (s1.link l).entry i
        done s1 ([byteOf i.val] ++ le16 e.classes.toNat ++ le16 e.tag.toNat))

/-- NOTICE_SET (R177). -/
def execNoticeSet (l : Link) (s : State) : Host.Outcome State Fault Refusal :=
  .next (serve l kNoticeSet (noticeSetEffect l) s)

/-- A setting of three values: 0 clears, 1 sets, 2 keeps (R180). -/
def keepOr (v : Nat) (old : Bool) : Bool := if v = 0 then false else if v = 1 then true else old

/-- Entry `i` under the masks named (R180): one that is ungranted or unused is passed over. -/
def LinkState.maskEntry (mask unmask : Byte) (ls : LinkState) (i : Fin 8) : LinkState :=
  let e := ls.entry i
  if i.val < ls.notice.grant && e.classes != 0 then
    ls.setEntry i { e with mask := (e.mask || mask.getLsbD i.val) && !unmask.getLsbD i.val }
  else ls

/-- A pending entry that may go is queued while places are free (R180). -/
def LinkState.sendEligible (ls : LinkState) (i : Fin 8) : LinkState :=
  if ls.eligible i && ls.placeFree then ls.queueNotice i else ls

/-- A link's notice table under NOTICE MASK (R180). -/
def LinkState.withMasks (enable linkMask : Nat) (mask unmask : Byte) (ls : LinkState) : LinkState :=
  let l1 := { ls with
    notice := { ls.notice with enable := keepOr enable ls.notice.enable, linkMask := keepOr linkMask ls.notice.linkMask } }
  let l2 := (List.finRange 8).foldl (LinkState.maskEntry mask unmask) l1
  (List.finRange 8).foldl LinkState.sendEligible l2

/-- The reply data of NOTICE MASK (R174). -/
def maskReply (ls : LinkState) : List Byte :=
  [byteOf (bitAt 0 ls.notice.enable + bitAt 1 ls.notice.linkMask), byteOf ls.notice.grant]
    ++ (List.finRange 8).map fun i => byteOf (ls.entry i).statusByte

/-- NOTICE MASK's effect (R180). -/
def noticeMaskEffect (l : Link) (args : List Byte) (s : State) : State × Reply :=
  needs 4 args s
    (let mask := args.getD 2 0
     let unmask := args.getD 3 0
     if 2 < byteAt args 0 ∨ 2 < byteAt args 1 ∨ mask &&& unmask ≠ 0 then refuse .argument s
     else
       let s1 := onLink l (LinkState.withMasks (byteAt args 0) (byteAt args 1) mask unmask) s
       done s1 (maskReply (s1.link l)))

/-- NOTICE_MASK (R180). -/
def execNoticeMask (l : Link) (s : State) : Host.Outcome State Fault Refusal :=
  .next (serve l kNoticeMask (noticeMaskEffect l) s)

/-! ## The fault record (R182) -/

/-- A link's section of the fault record (R174). -/
def LinkState.faultBytes (ls : LinkState) : List Byte :=
  [byteOf ls.flagByte] ++ le16 ls.checkErrors ++ le16 ls.overflows ++ le16 ls.lost

/-- First fault kind code, 0 for none (R174). -/
def firstCode (f : FaultRecord) : Nat :=
  match f.first with
  | some k => k.code
  | none => 0

/-- A section of the fault record, 0 to 4 (R182, R174). -/
def faultSection (s : State) : Nat → List Byte
  | 0 =>
    le16 s.faults.flags.toNat ++ [byteOf (firstCode s.faults)] ++ le16 s.faults.overruns ++ le16 s.faults.missed
      ++ le16 s.faults.steals ++ le16 s.faults.refused
  | 1 => le16 s.faults.stale ++ le16 s.faults.skipped
  | 2 => s.links.a.faultBytes
  | 3 => s.links.b.faultBytes
  | _ => s.links.c.faultBytes

/-- READ FAULTS' effect (R182). -/
def readFaultsEffect (args : List Byte) (s : State) : State × Reply :=
  needs 1 args s
    (if 4 < byteAt args 0 then refuse .argument s
     else done s (byteOf (byteAt args 0) :: faultSection s (byteAt args 0)))

/-- READ_FAULTS (R182). -/
def execReadFaults (l : Link) (s : State) : Host.Outcome State Fault Refusal :=
  .next (serve l kReadFaults readFaultsEffect s)

/-- The device part of the fault record with flags cleared, and counters too with the option (R182). Bits that name no
flag are ignored (log 34). -/
def FaultRecord.clear (set : BitVec 16) (counters : Bool) (f : FaultRecord) : FaultRecord :=
  let named := set &&& deviceFlagMask
  let f1 := { f with flags := f.flags &&& ~~~named, first := if named = 0 then f.first else none }
  if counters then { flags := f1.flags, first := f1.first } else f1

/-- A link's flags cleared, and its counters too with the option (R182). -/
def LinkState.clearFlags (set : Byte) (counters : Bool) (ls : LinkState) : LinkState :=
  let l1 := { ls with
    checkFlag := ls.checkFlag && !set.getLsbD 0
    overflowFlag := ls.overflowFlag && !set.getLsbD 1
    overrunFlag := ls.overrunFlag && !set.getLsbD 2 }
  if counters then { l1 with checkErrors := 0, overflows := 0, lost := 0 } else l1

/-- CLEAR FAULTS' action (R182). -/
def clearFaults (device : BitVec 16) (a b c : Byte) (counters : Bool) (s : State) : State :=
  { s with
    faults := s.faults.clear device counters
    links := ⟨s.links.a.clearFlags a counters, s.links.b.clearFlags b counters, s.links.c.clearFlags c counters⟩ }

/-- CLEAR FAULTS' effect (R182). -/
def clearFaultsEffect (args : List Byte) (s : State) : State × Reply :=
  needs 6 args s
    (let s1 := clearFaults (BitVec.ofNat 16 (word16At args 0)) (args.getD 2 0) (args.getD 3 0) (args.getD 4 0) (bitOf args 5 0) s
     done s1 (0 :: faultSection s1 0))

/-- CLEAR_FAULTS (R182). -/
def execClearFaults (l : Link) (s : State) : Host.Outcome State Fault Refusal :=
  .next (serve l kClearFaults clearFaultsEffect s)

end Sys2Proof.Machine
end

