-- ==== Sys2Proof/Machine/Player.lean ====
section
/-! DEFINITION. The requests of the player, and its millisecond step (08). -/

namespace Sys2Proof.Machine

/-! ## The player status (R146) -/

/-- State code of the player (R174). -/
def Ply.stateCode (p : Ply) : Nat :=
  match p.session with
  | none => 0
  | some ss =>
    match ss.mode with
    | .playing _ => 1
    | .paused _ => 2
    | .waiting => 3

/-- Code of the previous state (R174). DESIGN CHOICE (log 47): 0 while the player is not PAUSED and has none. -/
def Ply.previousCode (p : Ply) : Nat :=
  match p.session with
  | some ss =>
    match ss.mode with
    | .paused wasWaiting => if wasWaiting then 3 else 1
    | _ => 0
  | none => 0

/-- The player status, 9 bytes (R146, R174). -/
def playerStatus (s : State) : List Byte :=
  let p := s.ply
  [byteOf (p.stateCode + 4 * p.previousCode + 16 * p.guide.code + bitAt 6 p.loop.isSome),
    byteOf (match p.session with
      | some ss => ss.take.val
      | none => 255)]
    ++ le32 (match p.session with
      | some ss => ss.position
      | none => 0)
    ++ [byteOf p.tempo, byteOf p.expected.size, byteOf p.keys.size]

/-- A reply to a player request: the player status whatever the result (R146). -/
def statusReply (r : Result) (s : State) : State × Reply := (s, { result := r, data := playerStatus s })

/-- A player request with a payload too short for its fields (R146, R164). -/
def playerNeeds (n : Nat) (args : List Byte) (s : State) (go : State × Reply) : State × Reply :=
  if args.length < n then statusReply .argument s else go

/-! ## TAKE PLAY (R147) -/

/-- STOP's action, and the change to IDLE (R147, step 1; R151). -/
def stopPlayback (s : State) : State := endPlayback .stop s

/-- The player set up on take `t` from a start position (R147, steps 2 to 5). -/
def setUpTake (t : TakeNo) (start : Nat) (s : State) : State :=
  let timed := timedRecords s t
  let cursor := indexAt timed start
  let pedals := reconstruct (0, false, 0) ((timed.take cursor).map (·.1))
  let s1 := onPly (fun p => { p with acc := 0, loop := none, expected := KeySet.empty, limit := none }) s
  let s2 := setPlaySoft pedals.2.2 (setPlaySost pedals.2.1 KeySet.empty (setPlayDamper pedals.1 s1))
  let ss : Session := { take := t, cursor := cursor, position := start, mode := .playing (s.clock + 1000) }
  let s3 := onPly (fun p => { p with session := some ss }) s2
  playStateRaised (playMark .start t s3)

/-- An accepted TAKE PLAY (R147). -/
def startPlayback (t : TakeNo) (tempo : Option Nat) (start : Nat) (s : State) : State :=
  let s1 := if s.ply.session.isSome then stopPlayback s else s
  let s2 := match tempo with
    | some x => onPly (fun p => { p with tempo := clamp 25 200 x }) s1
    | none => s1
  playDueThenEnd (setUpTake t start s2)

/-- TAKE PLAY's effect (R147). -/
def takePlayEffect (args : List Byte) (s : State) : State × Reply :=
  playerNeeds 7 args s
    (match finOf 8 (byteAt args 0) with
    | none => statusReply .argument s
    | some t =>
      if (s.take t).state ≠ .closed then statusReply .state s
      else
        let start := if bitOf args 1 1 then word32At args 3 else 0
        if (s.take t).duration < start then statusReply .argument s
        else
          let tempo := if bitOf args 1 0 then some (byteAt args 2) else none
          statusReply .done (startPlayback t tempo start s))

/-- TAKE_PLAY (R147). -/
def execTakePlay (l : Link) (s : State) : Host.Outcome State Fault Refusal :=
  .next (serve l kTakePlay takePlayEffect s)

/-! ## STOP, PAUSE, RESUME, SET TEMPO (R148, R151, R152) -/

/-- STOP's effect (R151). -/
def stopEffect (_args : List Byte) (s : State) : State × Reply :=
  if s.ply.session.isSome then statusReply .done (stopPlayback s) else statusReply .state s

/-- STOP (R151). -/
def execStop (l : Link) (s : State) : Host.Outcome State Fault Refusal := .next (serve l kStop stopEffect s)

/-- PAUSE's effect (R152). -/
def pauseEffect (_args : List Byte) (s : State) : State × Reply :=
  match s.ply.session with
  | none => statusReply .state s
  | some ss =>
    if s.ply.isPlaying || s.ply.isWaiting then
      let s1 := onPly (fun p => { p with session := some { ss with mode := .paused p.isWaiting } }) s
      statusReply .done (playStateRaised (playMark .pause ss.take s1))
    else statusReply .state s

/-- PAUSE (R152). -/
def execPause (l : Link) (s : State) : Host.Outcome State Fault Refusal := .next (serve l kPause pauseEffect s)

/-- RESUME's effect (R152). -/
def resumeEffect (_args : List Byte) (s : State) : State × Reply :=
  match s.ply.session with
  | none => statusReply .state s
  | some ss =>
    match ss.mode with
    | .paused wasWaiting =>
      let mode := if wasWaiting then PlayMode.waiting else PlayMode.playing (s.clock + 1000)
      let s1 := onPly (fun p => { p with session := some { ss with mode := mode } }) s
      statusReply .done (playStateRaised (playMark .resume ss.take s1))
    | _ => statusReply .state s

/-- RESUME (R152). -/
def execResume (l : Link) (s : State) : Host.Outcome State Fault Refusal := .next (serve l kResume resumeEffect s)

/-- SET TEMPO's effect (R148). -/
def setTempoEffect (args : List Byte) (s : State) : State × Reply :=
  playerNeeds 1 args s (statusReply .done (onPly (fun p => { p with tempo := clamp 25 200 (byteAt args 0) }) s))

/-- SET_TEMPO (R148). -/
def execSetTempo (l : Link) (s : State) : Host.Outcome State Fault Refusal :=
  .next (serve l kSetTempo setTempoEffect s)

/-! ## Loops (R153) -/

/-- The loop snapshot of a take before a loop start (R153, step 1). -/
def loopSnapshot (s : State) (t : TakeNo) (start : Nat) : Nat × Bool × Nat :=
  reconstruct (0, false, 0) (((timedRecords s t).takeWhile fun x => x.2 < start).map (·.1))

/-- A loop set (R153). -/
def setLoop (ss : Session) (start stop : Nat) (s : State) : State :=
  let snap := loopSnapshot s ss.take start
  let lp : Loop := { start := start, stop := stop, damper := snap.1, sostOn := snap.2.1, soft := snap.2.2 }
  let s1 := onPly (fun p => { p with loop := some lp }) s
  if stop < ss.position then loopJump lp s1 else s1

/-- SET LOOP's effect (R153). -/
def setLoopEffect (args : List Byte) (s : State) : State × Reply :=
  playerNeeds 8 args s
    (match s.ply.session with
    | none => statusReply .state s
    | some ss =>
      let start := word32At args 0
      let stop := word32At args 4
      if start < stop ∧ stop ≤ (s.take ss.take).duration then statusReply .done (setLoop ss start stop s)
      else statusReply .argument s)

/-- SET_LOOP (R153). -/
def execSetLoop (l : Link) (s : State) : Host.Outcome State Fault Refusal := .next (serve l kSetLoop setLoopEffect s)

/-- CLEAR LOOP's effect (R153). -/
def clearLoopEffect (_args : List Byte) (s : State) : State × Reply :=
  statusReply .done (onPly (fun p => { p with loop := none }) s)

/-- CLEAR_LOOP (R153). -/
def execClearLoop (l : Link) (s : State) : Host.Outcome State Fault Refusal :=
  .next (serve l kClearLoop clearLoopEffect s)

/-! ## SET GUIDE (R155) -/

/-- The guide mode of a byte (R174). -/
def GuideMode.ofByte : Nat → Option GuideMode
  | 0 => some .none
  | 1 => some .mute
  | 2 => some .wait
  | _ => Option.none

/-- An expected set that was not empty is cleared, and the wait it stood for ends (R155). DESIGN CHOICE (log 50): with
nothing left to play and no loop set, the end of take follows in the request, as at a wait that is met (R151, R158). -/
def clearExpected (ss : Session) (s : State) : State :=
  let s1 := onPly (fun p => { p with expected := KeySet.empty, limit := none }) s
  match ss.mode with
  | .waiting => endWait .cleared ss.take s1
  | .paused _ => onSession (fun x => { x with mode := .paused false }) (playMark .cleared ss.take s1)
  | .playing _ => playMark .cleared ss.take s1

/-- The guide settings replaced (R155). -/
def setGuide (mode : GuideMode) (low high : Key) (window : Nat) (s : State) : State :=
  let s1 := onPly (fun p => { p with guide := mode, low := low, high := high, chordWindow := min window 100 }) s
  match s.ply.session with
  | some ss =>
    if s.ply.expected ≠ KeySet.empty then clearExpected ss s1 else onPly (fun p => { p with limit := none }) s1
  | none => onPly (fun p => { p with limit := none }) s1

/-- SET GUIDE's effect (R155). -/
def setGuideEffect (args : List Byte) (s : State) : State × Reply :=
  playerNeeds 4 args s
    (match GuideMode.ofByte (byteAt args 0), finOf 88 (byteAt args 1), finOf 88 (byteAt args 2) with
    | some mode, some low, some high =>
      if high < low then statusReply .argument s else statusReply .done (setGuide mode low high (byteAt args 3) s)
    | _, _, _ => statusReply .argument s)

/-- SET_GUIDE (R155). -/
def execSetGuide (l : Link) (s : State) : Host.Outcome State Fault Refusal := .next (serve l kSetGuide setGuideEffect s)

/-! ## The millisecond step (R148) -/

/-- The player is PLAYING and its next step time is reached: that time (R148). -/
def stepDue (s : State) : Option Clock :=
  match s.phase, s.ply.session with
  | .running, some ss =>
    match ss.mode with
    | .playing n => if reached s.clock n then some n else none
    | _ => none
  | _, _ => none

/-- Steps 1 and 2 of a millisecond step: the next step time, the accumulator and the position (R148). -/
def advancePlayer (n : Clock) (p : Ply) : Ply :=
  { p with
    acc := (p.acc + p.tempo) % 100
    session := p.session.map fun ss => { ss with mode := .playing (n + 1000), position := ss.position + (p.acc + p.tempo) / 100 } }

/-- The loop jump falls due on the player (R148, step 4). -/
def Ply.loopReached (p : Ply) : Option Loop :=
  match p.session, p.loop with
  | some ss, some lp => if lp.stop ≤ ss.position then some lp else none
  | _, _ => none

/-- Steps 3 to 5 of a millisecond step (R148); a step that enters WAITING ends there. -/
def finishStep (s : State) : State :=
  let s1 := playDue s
  if s1.ply.isPlaying then
    match s1.ply.loopReached with
    | some lp => loopJump lp s1
    | none => endIfPast s1
  else s1

/-- MILLISECOND_STEP (R148). -/
def execMillisecondStep (s : State) : Host.Outcome State Fault Refusal :=
  .next (match stepDue s with
    | some n => finishStep (onPly (advancePlayer n) s)
    | none => s)

end Sys2Proof.Machine
end

