-- ==== Sys2Proof/Machine/Rail.lean ====
section
/-! DEFINITION. The commands of the rail: RAIL DEMAND, RAIL RECOVER, READ RAIL, the lever, the motor current and the rail's timed steps (06). -/

namespace Sys2Proof.Machine

/-! ## Requests -/

/-- RAIL DEMAND's effect (R107). -/
def railDemandEffect (l : Link) (args : List Byte) (s : State) : State × Reply :=
  needs 1 args s
    (if 1 < byteAt args 0 then refuse .argument s
     else
       let s1 := setDemand (s.rlc.demand.setLink l (byteAt args 0 == 1)) s
       done s1 [byteOf s1.rlc.state.code, byteOf (s1.rlc.demand.bits + bitAt 5 (target s1 == .blockedEnd))])

/-- RAIL_DEMAND (R107). -/
def execRailDemand (l : Link) (s : State) : Host.Outcome State Fault Refusal :=
  .next (serve l kRailDemand (railDemandEffect l) s)

/-- RAIL RECOVER's effect (R120): entering UNKNOWN makes its test for quiet in the same moment (R109, R111). -/
def railRecoverEffect (_args : List Byte) (s : State) : State × Reply :=
  if s.rlc.state = .fault then done (quietMove (railEnter .unknown (onRlc (fun r => { r with obstructions := 0 }) s)))
  else refuse .state s

/-- RAIL_RECOVER (R120). -/
def execRailRecover (l : Link) (s : State) : Host.Outcome State Fault Refusal :=
  .next (serve l kRailRecover railRecoverEffect s)

/-- The ms spent in WAITING; the count stops at 65,534 (R114). -/
def WaitInfo.ms (now : Clock) (w : WaitInfo) : Nat :=
  if w.stopped then 65534 else min (elapsed now w.start / 1000) 65534

/-- Byte 1 of the rail record (R174). DESIGN CHOICE (log 47): bit 0, the waiting side, is 0 outside WAITING; bits 1 and
2, the phase and the origin, are 0 outside BACKOFF. -/
def railFlagByte (s : State) : Nat :=
  (match s.rlc.state with
    | .waiting w => bitAt 0 (w.side == .blockedEnd)
    | .backoff b =>
      bitAt 1 (match b.phase with
        | .delay _ _ => true
        | .retreat _ => false) + bitAt 2 (b.origin == .blockedEnd)
    | _ => 0)
    + bitAt 3 (gateBank s == .blockedEnd) + bitAt 4 (soundRoute s == .silent) + bitAt 5 (target s == .blockedEnd)

/-- The rail record as read, 10 bytes (R123, R174). -/
def railRecord (s : State) : List Byte :=
  [byteOf s.rlc.state.code, byteOf (railFlagByte s),
    byteOf (s.rlc.demand.bits + bitAt 4 s.rlc.leverLow + bitAt 5 s.cst.factory.working.option.leverDemand),
    byteOf s.rlc.obstructions]
    ++ le16 (match s.rlc.leg with
      | some lg => elapsed s.clock lg.start / 1000
      | none => 65535)
    ++ le16 (match s.rlc.state with
      | .waiting w => w.ms s.clock
      | _ => 65535)
    ++ le16 (s.rlc.lastTravelMs.getD 65535)

/-- READ RAIL's effect (R123). -/
def readRailEffect (_args : List Byte) (s : State) : State × Reply := done s (railRecord s)

/-- READ_RAIL (R123). -/
def execReadRail (l : Link) (s : State) : Host.Outcome State Fault Refusal :=
  .next (serve l kReadRail readRailEffect s)

/-! ## The lever (R108) -/

/-- SILENT_INPUT_CHANGE (R108): the input's new level and when it changed. -/
def execSilentInputChange (low : Bool) (s : State) : Host.Outcome State Fault Refusal :=
  .next (if low = s.rlc.silentLow then s
    else onRlc (fun r => { r with silentLow := low, silentSince := s.clock }) s)

/-- The input has stood away from the lever level for 20 ms (R108). -/
def leverDue (s : State) : Bool :=
  decide (s.phase = .running) && (s.rlc.silentLow != s.rlc.leverLow) && decide (20000 ≤ elapsed s.clock s.rlc.silentSince)

/-- LEVER_DEBOUNCE_EXPIRY (R108): the lever level follows the input, and LEVER's membership is derived again. -/
def execLeverDebounceExpiry (s : State) : Host.Outcome State Fault Refusal :=
  .next (if leverDue s then deriveLever (onRlc (fun r => { r with leverLow := r.silentLow }) s) else s)

/-! ## Quiet moves (R109, R111, R114) -/

/-- Homing can start (R111). -/
def homingDue (s : State) : Bool := decide (s.phase = .running) && decide (s.rlc.state = .unknown) && quietTest s

/-- RAIL_HOMING_START (R111), as a test of its own; a test made at a change starts homing where it is made
(`quietMove`; log 17). -/
def execRailHomingStart (s : State) : Host.Outcome State Fault Refusal :=
  .next (if homingDue s then startHoming s else s)

/-- A move held back by the action can start: its waiting side (R114). -/
def quietMoveDue (s : State) : Option Side :=
  match s.rlc.state with
  | .waiting w => if s.phase = .running ∧ quietTest s = true then some w.side else none
  | _ => none

/-- RAIL_QUIET_MOVE_START (R114), as a test of its own; a test made at a change starts the move where it is made
(`quietMove`; log 17). -/
def execRailQuietMoveStart (s : State) : Host.Outcome State Fault Refusal :=
  .next (match quietMoveDue s with
    | some side => startMove side.other true s
    | none => s)

/-! ## Stall detection (R105, R106) -/

/-- The threshold current of a leg in mA (R105). -/
def Leg.thresholdMa (lg : Leg) : Nat := (lg.params.threshold + 1) * 12

/-- The comparator of a leg: a motor current is above its threshold (R105; log 42). -/
def Leg.above (current : Nat) (lg : Leg) : Bool := decide (lg.thresholdMa < current)

/-- The glitch-filter run of a leg under a motor current (R105): none before the blanking has ended; above the threshold
a run goes on, or starts where there is none; otherwise there is none. -/
def Leg.currentChange (now : Clock) (current : Nat) (lg : Leg) : Leg :=
  if lg.blanked then { lg with run := if lg.above current then some (lg.run.getD now) else none } else lg

/-- RAIL_CURRENT_CHANGE (R105): after the blanking a rise past the leg's threshold starts a run, and a fall ends it. -/
def execRailCurrentChange (current : Nat) (s : State) : Host.Outcome State Fault Refusal :=
  .next (onRlc (fun r => { r with current := current, leg := r.leg.map (Leg.currentChange s.clock current) }) s)

/-- The blanking of a leg has elapsed and has not been ended yet (R105). -/
def blankingDue (s : State) : Bool :=
  match s.rlc.leg with
  | some lg =>
    decide (s.phase = .running) && !lg.blanked && decide (lg.params.blankingMs * 1000 ≤ elapsed s.clock lg.start)
  | none => false

/-- The end of a leg's blanking: a run starts if the current is already above (R105). -/
def Leg.unblank (now : Clock) (current : Nat) (lg : Leg) : Leg :=
  { lg with blanked := true, run := if lg.above current then some now else none }

/-- INRUSH_BLANKING_END (R105). -/
def execInrushBlankingEnd (s : State) : Host.Outcome State Fault Refusal :=
  .next (if blankingDue s then
      onRlc (fun r => { r with leg := r.leg.map (Leg.unblank s.clock r.current) }) s
    else s)

/-- The leg whose run has reached the filter width (R105). -/
def stallDue (s : State) : Option Leg :=
  match s.rlc.leg with
  | some lg =>
    match lg.run with
    | some t => if s.phase = .running ∧ lg.params.filterUs ≤ elapsed s.clock t then some lg else none
    | none => none
  | none => none

/-- STALL (R105, R106): one that arrives with the drive already cut, or before the run is long enough, is discarded. -/
def execStall (s : State) : Host.Outcome State Fault Refusal :=
  .next (match stallDue s with
    | some lg => stallLeg lg s
    | none => s)

/-- Maximum travel applies in this state (R106). -/
def RailState.timed : RailState → Bool
  | .homing | .closing | .opening => true
  | _ => false

/-- The leg under way has reached its maximum travel (R106). -/
def travelDue (s : State) : Bool :=
  match s.rlc.leg with
  | some lg =>
    decide (s.phase = .running) && s.rlc.state.timed && decide (lg.params.maxTravelMs * 1000 ≤ elapsed s.clock lg.start)
  | none => false

/-- MAXIMUM_TRAVEL_TIMEOUT (R106, R120). -/
def execMaximumTravelTimeout (s : State) : Host.Outcome State Fault Refusal :=
  .next (if travelDue s then railFault .railTimeout s else s)

/-! ## Backoff, retry and the wait's signal (R114, R118, R119) -/

/-- The retreat whose backoff time has passed (R118). -/
def backoffDue (s : State) : Option BackoffInfo :=
  match s.rlc.state with
  | .backoff b =>
    match b.phase with
    | .retreat ms => if s.phase = .running ∧ ms * 1000 ≤ elapsed s.clock b.start then some b else none
    | .delay _ _ => none
  | _ => none

/-- BACKOFF_TIME_END (R118). -/
def execBackoffTimeEnd (s : State) : Host.Outcome State Fault Refusal :=
  .next (match backoffDue s with
    | some b => retreatEnd false b s
    | none => s)

/-- The delay that has passed: its origin and the retreat stalled flag (R119). -/
def retryDue (s : State) : Option (Side × Bool) :=
  match s.rlc.state with
  | .backoff b =>
    match b.phase with
    | .delay ms stalled => if s.phase = .running ∧ ms * 1000 ≤ elapsed s.clock b.start then some (b.origin, stalled) else none
    | .retreat _ => none
  | _ => none

/-- RETRY_DELAY_END (R119): the next attempt toward the target, or a wait for a quiet action. -/
def execRetryDelayEnd (s : State) : Host.Outcome State Fault Refusal :=
  .next (match retryDue s with
    | some (origin, stalled) =>
      if quietTest s then startMove (target s) true s else enterWaiting origin (some stalled) s
    | none => s)

/-- A wait of 2 s not signalled yet (R114). -/
def heldDue (s : State) : Option WaitInfo :=
  match s.rlc.state with
  | .waiting w =>
    if s.phase = .running ∧ w.held = false ∧ (w.stopped = true ∨ 2000000 ≤ elapsed s.clock w.start) then some w else none
  | _ => none

/-- RAIL_HELD (R114): once a wait. -/
def execRailHeld (s : State) : Host.Outcome State Fault Refusal :=
  .next (match heldDue s with
    | some w => raiseAll .railHeld (onRlc (fun r => { r with state := .waiting { w with held := true } }) s)
    | none => s)

end Sys2Proof.Machine
end

