-- ==== Sys2Proof/Machine/CalOps.lean ====
section
/-! DEFINITION. The calibration store's shared operations: items, entries and their codes, clamps and order tests, what a changed value does (11). -/

namespace Sys2Proof.Machine

/-- The calibration store changed by `f`. -/
def onCst (f : Cst → Cst) (s : State) : State := { s with cst := f s.cst }

/-! ## Items (R183) -/

/-- The items of the two regions (R183). -/
inductive CalItem
  | keySensor | gates | pedalSensor | optionWord
  | trim | keyProfile | hammer | touchCurve | pedalPoints | dampStep | scan | scanEntry | rail | layer
deriving DecidableEq, Repr

/-- The region of a code (R174). -/
def regionOf : Nat → Option Region
  | 0 => some .factory
  | 1 => some .user
  | _ => none

/-- The item of a code in a region (R174). -/
def CalItem.ofCode (r : Region) (n : Nat) : Option CalItem :=
  match r with
  | .factory =>
    match n with
    | 0 => some .keySensor
    | 1 => some .gates
    | 2 => some .pedalSensor
    | 3 => some .optionWord
    | _ => none
  | .user =>
    match n with
    | 0 => some .trim
    | 1 => some .keyProfile
    | 2 => some .hammer
    | 3 => some .touchCurve
    | 4 => some .pedalPoints
    | 5 => some .dampStep
    | 6 => some .scan
    | 7 => some .scanEntry
    | 8 => some .rail
    | 9 => some .layer
    | _ => none

/-- The number of entries of an item (R183). -/
def CalItem.size : CalItem → Nat
  | .keySensor | .gates | .trim => 88
  | .pedalSensor => 3
  | .scanEntry => 64
  | .layer => 4
  | .optionWord | .keyProfile | .hammer | .touchCurve | .pedalPoints | .dampStep | .scan | .rail => 1

/-- The number of 16-bit values of one entry (R174). -/
def CalItem.width : CalItem → Nat
  | .keySensor => 4
  | .gates => 6
  | .pedalSensor => 2
  | .optionWord => 3
  | .trim => 1
  | .keyProfile => 5
  | .hammer => 4
  | .touchCurve => 18
  | .pedalPoints => 7
  | .dampStep => 1
  | .scan => 3
  | .scanEntry => 3
  | .rail => 9
  | .layer => 8

/-! ## Entries (R174, R186) -/

/-- One entry of an item. -/
inductive CalEntry
  | keySensor (x : KeySensor)
  | gates (x : Gates)
  | pedalSensor (x : PedalSensor)
  | optionWord (x : OptionWord)
  | trim (x : Nat)
  | keyProfile (x : KeyProfile)
  | hammer (x : HammerParams)
  | touchCurve (x : Vector Breakpoint 9)
  | pedalPoints (x : PedalPoints)
  | dampStep (x : Nat)
  | scan (settle period : Nat) (first : Fin 64)
  | scanEntry (x : ScanEntry)
  | rail (x : RailParams)
  | layer (x : Layer)
deriving DecidableEq, Repr

/-- A flag as a value. -/
def flagValue (b : Bool) : Nat := if b then 1 else 0

/-- A breakpoint's two values. -/
def Breakpoint.values (b : Breakpoint) : List Nat := [b.speed, b.level]

/-- The values of an entry as they travel (R174). -/
def CalEntry.values : CalEntry → List Nat
  | .keySensor x => [x.keyRest, x.keyBottom, x.hammerRest, x.hammerTop]
  | .gates x =>
    [x.openBank.gate1, x.openBank.gate2, x.openBank.spacing, x.blockedBank.gate1, x.blockedBank.gate2,
      x.blockedBank.spacing]
  | .pedalSensor x => [x.rest, x.full]
  | .optionWord x => [flagValue x.protect, x.calLink.code, flagValue x.leverDemand]
  | .trim x => [x]
  | .keyProfile x => [x.press, x.releaseStart, x.noteOff, x.damperStart, x.damperFull]
  | .hammer x => [x.rearmHeight, x.clearHeight, x.gateTimeoutMs, x.reboundMs]
  | .touchCurve x => x.toList.flatMap Breakpoint.values
  | .pedalPoints x => [x.damperP1, x.damperP2, x.softP1, x.softP2, x.sostOnAt, x.sostOffAt, x.step]
  | .dampStep x => [x]
  | .scan settle period first => [settle, period, first.val]
  | .scanEntry x => [x.group.code, x.next.val, flagValue x.last]
  | .rail x =>
    [x.duty, x.threshold, x.filterUs, x.blankingMs, x.minTravelMs, x.maxTravelMs, x.backoffMs, x.retryMs, x.attempts]
  | .layer x =>
    [flagValue x.enabled, x.program, x.low.val, x.high.val, x.trim, x.filter.code, flagValue x.follows,
      flagValue x.acoustic]

/-- A flag carried as a value: 0 or 1, and nothing else has a code (R174, R186). -/
def flagOf : Nat → Option Bool
  | 0 => some false
  | 1 => some true
  | _ => none

/-- A gate bank with its heights and spacing clamped (R27, R186). -/
def gateBankOf (g1 g2 spacing : Nat) : GateBank := ⟨min g1 1023, min g2 1023, clamp 500 4000 spacing⟩

/-- A breakpoint clamped (R35, R186). -/
def breakpointOf (v level : Nat) : Breakpoint := ⟨clamp 1 65535 v, clamp 1 1023 level⟩

/-- The option word of three values (R184). -/
def optionOf (protect link lever : Nat) : Option OptionWord := do
  let protect ← flagOf protect
  let link ← CalLink.ofCode link
  let lever ← flagOf lever
  pure { protect := protect, calLink := link, leverDemand := lever }

/-- The scan entry of three values: none for no group or a next index above 63 (R186). -/
def scanEntryOf (group next last : Nat) : Option ScanEntry := do
  let group ← Group.ofCode group
  let next ← finOf 64 next
  let last ← flagOf last
  pure { group := group, next := next, last := last }

/-- The layer of eight values: none for a value with no code, a key above 87 or low above high (R186). -/
def layerOf (enabled program low high trim filter follows acoustic : Nat) : Option Layer := do
  let enabled ← flagOf enabled
  let low ← finOf 88 low
  let high ← finOf 88 high
  let filter ← SourceFilter.ofCode filter
  let follows ← flagOf follows
  let acoustic ← flagOf acoustic
  if high < low then none
  pure
    { enabled := enabled
      program := min program 255
      low := low
      high := high
      trim := min trim 200
      filter := filter
      follows := follows
      acoustic := acoustic }

/-- The nine rail parameters clamped to their ranges (R104). -/
def railOf (duty threshold filter blanking minT maxT backoff retry attempts : Nat) : RailParams where
  duty := clamp 10 100 duty
  threshold := min threshold 255
  filterUs := clamp 1 255 filter
  blankingMs := min blanking 255
  minTravelMs := clamp 20 1000 minT
  maxTravelMs := clamp 200 5000 maxT
  backoffMs := clamp 50 1000 backoff
  retryMs := clamp 100 5000 retry
  attempts := clamp 1 8 attempts

/-- The entry that carried values are stored as: tested for codes as carried, then clamped; none where the second case
of R186 refuses them. -/
def CalItem.entryOf (it : CalItem) (vs : List Nat) : Option CalEntry :=
  match it, vs with
  | .keySensor, [a, b, c, d] => some (.keySensor ⟨min a 4095, min b 4095, min c 4095, min d 4095⟩)
  | .gates, [a, b, c, d, e, f] => some (.gates ⟨gateBankOf a b c, gateBankOf d e f⟩)
  | .pedalSensor, [a, b] => some (.pedalSensor ⟨min a 4095, min b 4095⟩)
  | .optionWord, [a, b, c] => (optionOf a b c).map .optionWord
  | .trim, [a] => some (.trim (clamp 768 1280 a))
  | .keyProfile, [a, b, c, d, e] =>
    some (.keyProfile ⟨min a 1023, min b 1023, min c 1023, min d 1023, min e 1023⟩)
  | .hammer, [a, b, c, d] => some (.hammer ⟨min a 1023, min b 1023, clamp 20 500 c, min d 40⟩)
  | .touchCurve, [v1, l1, v2, l2, v3, l3, v4, l4, v5, l5, v6, l6, v7, l7, v8, l8, v9, l9] =>
    some (.touchCurve #v[breakpointOf v1 l1, breakpointOf v2 l2, breakpointOf v3 l3, breakpointOf v4 l4,
      breakpointOf v5 l5, breakpointOf v6 l6, breakpointOf v7 l7, breakpointOf v8 l8, breakpointOf v9 l9])
  | .pedalPoints, [a, b, c, d, e, f, g] =>
    some (.pedalPoints ⟨min a 1023, min b 1023, min c 1023, min d 1023, min e 1023, min f 1023, clamp 1 64 g⟩)
  | .dampStep, [a] => some (.dampStep (clamp 1 32 a))
  | .scan, [a, b, c] => some (.scan (clamp 1 31 a) (clamp 100 2000 (b / 10 * 10)) ⟨min c 63, by omega⟩)
  | .scanEntry, [a, b, c] => (scanEntryOf a b c).map .scanEntry
  | .rail, [a, b, c, d, e, f, g, h, i] => some (.rail (railOf a b c d e f g h i))
  | .layer, [a, b, c, d, e, f, g, h] => (layerOf a b c d e f g h).map .layer
  | _, _ => none

/-- Speeds strictly ascending and levels not descending (R186). -/
def curveOrdered : List Breakpoint → Bool
  | p :: q :: rest => decide (p.speed < q.speed) && decide (p.level ≤ q.level) && curveOrdered (q :: rest)
  | _ => true

/-- The fifth case of R186 passes an entry as written. -/
def CalEntry.ordered : CalEntry → Bool
  | .keySensor x => decide (x.keyRest < x.keyBottom) && decide (x.hammerRest < x.hammerTop)
  | .gates x => decide (x.openBank.gate1 < x.openBank.gate2) && decide (x.blockedBank.gate1 < x.blockedBank.gate2)
  | .pedalSensor x => decide (x.rest < x.full)
  | .touchCurve x => curveOrdered x.toList
  | _ => true

/-- The working copy's entry `i` of an item; none past the item's range (R185). -/
def Cst.entryAt (k : Cst) (it : CalItem) (i : Nat) : Option CalEntry :=
  let f := k.factory.working
  let u := k.user.working
  match it with
  | .keySensor => f.keySensor[i]?.map .keySensor
  | .gates => f.gates[i]?.map .gates
  | .pedalSensor => f.pedalSensor[i]?.map .pedalSensor
  | .optionWord => if i = 0 then some (.optionWord f.option) else none
  | .trim => u.trim[i]?.map .trim
  | .keyProfile => if i = 0 then some (.keyProfile u.profile) else none
  | .hammer => if i = 0 then some (.hammer u.hammer) else none
  | .touchCurve => if i = 0 then some (.touchCurve u.curve) else none
  | .pedalPoints => if i = 0 then some (.pedalPoints u.pedals) else none
  | .dampStep => if i = 0 then some (.dampStep u.dampStep) else none
  | .scan => if i = 0 then some (.scan u.settle u.period u.scan.first) else none
  | .scanEntry => u.scan.entries[i]?.map .scanEntry
  | .rail => if i = 0 then some (.rail u.rail) else none
  | .layer => u.layers[i]?.map .layer

/-- The factory working copy changed by `f`. -/
def Cst.onFactory (k : Cst) (f : FactoryRegion → FactoryRegion) : Cst :=
  { k with factory := { k.factory with working := f k.factory.working } }

/-- The user working copy changed by `f`. -/
def Cst.onUser (k : Cst) (f : UserRegion → UserRegion) : Cst :=
  { k with user := { k.user with working := f k.user.working } }

/-- An entry stored in the working copy at an index (R186). -/
def Cst.store (k : Cst) (i : Nat) (e : CalEntry) : Cst :=
  match e with
  | .keySensor x => k.onFactory fun f => { f with keySensor := f.keySensor.setIfInBounds i x }
  | .gates x => k.onFactory fun f => { f with gates := f.gates.setIfInBounds i x }
  | .pedalSensor x => k.onFactory fun f => { f with pedalSensor := f.pedalSensor.setIfInBounds i x }
  | .optionWord x => k.onFactory fun f => { f with option := x }
  | .trim x => k.onUser fun u => { u with trim := u.trim.setIfInBounds i x }
  | .keyProfile x => k.onUser fun u => { u with profile := x }
  | .hammer x => k.onUser fun u => { u with hammer := x }
  | .touchCurve x => k.onUser fun u => { u with curve := x }
  | .pedalPoints x => k.onUser fun u => { u with pedals := x }
  | .dampStep x => k.onUser fun u => { u with dampStep := x }
  | .scan settle period first =>
    k.onUser fun u => { u with settle := settle, period := period, scan := { u.scan with first := first } }
  | .scanEntry x => k.onUser fun u => { u with scan := { u.scan with entries := u.scan.entries.setIfInBounds i x } }
  | .rail x => k.onUser fun u => { u with rail := x }
  | .layer x => k.onUser fun u => { u with layers := u.layers.setIfInBounds i x }

/-- Entries stored at an index and those that follow (R186). -/
def Cst.storeAll (k : Cst) : Nat → List CalEntry → Cst
  | _, [] => k
  | i, e :: rest => (k.store i e).storeAll (i + 1) rest

/-- The modified flag of a region set (R186, R187). -/
def Cst.markModified (k : Cst) : Region → Cst
  | .factory => { k with factory := { k.factory with modified := true } }
  | .user => { k with user := { k.user with modified := true } }

/-- A region's commit is IN FLIGHT (R183). -/
def Cst.inFlight (k : Cst) : Region → Bool
  | .factory => k.factory.commit.isSome
  | .user => k.user.commit.isSome

/-- The region's modified flag. -/
def Cst.modified (k : Cst) : Region → Bool
  | .factory => k.factory.modified
  | .user => k.user.modified

/-- The region failed its check at the last start-up. -/
def Cst.startFailed (k : Cst) : Region → Bool
  | .factory => k.factory.startFailed
  | .user => k.user.startFailed

/-- The status byte of CAL READ and CAL WRITE (R185, R174). -/
def Cst.status (k : Cst) (r : Region) : Nat :=
  bitAt 0 (k.startFailed r) + bitAt 1 (k.modified r) + bitAt 2 (k.inFlight r) + bitAt 3 k.committedOption.protect
    + 16 * k.committedOption.calLink.code + bitAt 6 k.defaultMarking

/-- The request comes from the calibration link (R184). -/
def fromCalLink (s : State) (l : Link) : Bool :=
  match s.cst.committedOption.calLink with
  | .panelHolder => holdsPanel s l
  | .link l' => l == l'

/-- The region is protected (R184). -/
def isProtected (s : State) (r : Region) : Bool := r == .factory && s.cst.committedOption.protect

/-- A per-key calibration value of key `k` differs between two stores (R42). -/
def perKeyChanged (old new : Cst) (k : Key) : Bool :=
  old.factory.working.keySensor[k] != new.factory.working.keySensor[k]
    || old.factory.working.gates[k] != new.factory.working.gates[k]
    || old.user.working.trim[k] != new.user.working.trim[k]

/-- A working copy changed by a write or by the defaults: the hammers of keys whose per-key values changed are acted on
(R42, R187), the rail tests for quiet under the new clear height (R109), and LEVER's membership is derived again when
the lever mode changed (R108; log 17). DESIGN CHOICE (log 44): the test for quiet comes before LEVER's membership. -/
def installCst (new : Cst) (s : State) : State :=
  let s1 := quietMove (resetHammers (perKeyChanged s.cst new) (onCst (fun _ => new) s))
  if s.cst.factory.working.option.leverDemand = new.factory.working.option.leverDemand then s1 else deriveLever s1

end Sys2Proof.Machine
end

