-- ==== Sys2Proof/Machine/Calibration.lean ====
section
/-! DEFINITION. The commands of the calibration store: CAL READ, CAL WRITE, CAL COMMIT, CAL DEFAULTS, COMMIT_COMPLETE (11). -/

namespace Sys2Proof.Machine

/-- The bytes of entries, each value as 16 bits (R185). -/
def calEntryBytes (es : List CalEntry) : List Byte := es.flatMap fun e => e.values.flatMap le16

/-- The number of entries CAL READ returns (R185). -/
def calEntriesReturned (limit : Limit) (it : CalItem) (first count : Nat) : Nat :=
  min count (min (it.size - first) ((limit.bytes - 4) / (2 * it.width)))

/-- The region and item that a calibration request names (R185, R186). -/
def calTarget (args : List Byte) : Option (Region × CalItem) :=
  (regionOf (byteAt args 0)).bind fun r => (CalItem.ofCode r (byteAt args 1)).map fun it => (r, it)

/-- CAL READ's effect (R185). -/
def calReadEffect (l : Link) (args : List Byte) (s : State) : State × Reply :=
  needs 4 args s
    (match calTarget args with
    | none => refuse .argument s
    | some (r, it) =>
      let first := byteAt args 2
      if it.size ≤ first then refuse .argument s
      else
        let n := calEntriesReturned (s.link l).limit it first (byteAt args 3)
        let es := (List.range n).filterMap fun i => s.cst.entryAt it (first + i)
        done s ([byteOf (s.cst.status r), byteOf n] ++ calEntryBytes es))

/-- CAL_READ (R185). -/
def execCalRead (l : Link) (s : State) : Host.Outcome State Fault Refusal := .next (serve l kCalRead (calReadEffect l) s)

/-- `n` 16-bit values from byte `i` on. -/
def valuesAt (bs : List Byte) (i n : Nat) : List Nat := (List.range n).map fun j => word16At bs (i + 2 * j)

/-- `n` entries of an item carried from byte `i` on, clamped; none when one is refused (R186). -/
def calEntriesAt (it : CalItem) (bs : List Byte) : Nat → Nat → Option (List CalEntry)
  | _, 0 => some []
  | i, n + 1 => do
    let e ← it.entryOf (valuesAt bs i it.width)
    let rest ← calEntriesAt it bs (i + 2 * it.width) n
    pure (e :: rest)

/-- What CAL WRITE carries, past the second case of R186: the region, the first index and the entries. -/
def calWriteArgs (args : List Byte) : Option (Region × Nat × List CalEntry) :=
  if args.length < 4 then none
  else
    match calTarget args with
    | none => none
    | some (r, it) =>
      let first := byteAt args 2
      let count := byteAt args 3
      if it.size ≤ first ∨ it.size < first + count ∨ args.length < 4 + 2 * it.width * count then none
      else (calEntriesAt it args 4 count).map fun es => (r, first, es)

/-- The entries of an accepted CAL WRITE stored (R186): with none to store nothing changes. -/
def calStore (r : Region) (first : Nat) (es : List CalEntry) (s : State) : State :=
  if es = [] then s else installCst ((s.cst.storeAll first es).markModified r) s

/-- CAL WRITE's effect, case by case (R186). -/
def calWriteEffect (l : Link) (args : List Byte) (s : State) : State × Reply :=
  if fromCalLink s l = false then refuse .role s
  else
    match calWriteArgs args with
    | none => refuse .argument s
    | some (r, first, es) =>
      if isProtected s r then refuse .guarded s
      else if s.cst.inFlight r then refuse .busy s
      else if es.all CalEntry.ordered = false then refuse .argument s
      else
        let s1 := calStore r first es s
        done s1 ([byteOf (s1.cst.status r), byteOf es.length] ++ calEntryBytes es)

/-- CAL_WRITE (R186). -/
def execCalWrite (l : Link) (s : State) : Host.Outcome State Fault Refusal :=
  .next (serve l kCalWrite (calWriteEffect l) s)

/-- Every item of a region's working copy at its built-in default (R187). -/
def Cst.withDefaults (k : Cst) : Region → Cst
  | .factory => k.onFactory fun _ => defaultFactory
  | .user => k.onUser fun _ => defaultUser

/-- CAL DEFAULTS' effect (R187). -/
def calDefaultsEffect (l : Link) (args : List Byte) (s : State) : State × Reply :=
  if fromCalLink s l = false then refuse .role s
  else
    needs 1 args s
      (match regionOf (byteAt args 0) with
      | none => refuse .argument s
      | some r =>
        if isProtected s r then refuse .guarded s
        else if s.cst.inFlight r then refuse .busy s
        else done (installCst ((s.cst.withDefaults r).markModified r) s))

/-- CAL_DEFAULTS (R187). -/
def execCalDefaults (l : Link) (s : State) : Host.Outcome State Fault Refusal :=
  .next (serve l kCalDefaults (calDefaultsEffect l) s)

/-- A commit of a region taken now: the working copy as it stands is written (R188). -/
def Cst.beginCommit (k : Cst) (now : Clock) : Region → Cst
  | .factory => { k with factory := { k.factory with commit := some { copy := k.factory.working, start := now } } }
  | .user => { k with user := { k.user with commit := some { copy := k.user.working, start := now } } }

/-- CAL COMMIT's effect (R188). -/
def calCommitEffect (l : Link) (args : List Byte) (s : State) : State × Reply :=
  if fromCalLink s l = false then refuse .role s
  else
    needs 1 args s
      (match regionOf (byteAt args 0) with
      | none => refuse .argument s
      | some r =>
        if s.cst.inFlight r then refuse .busy s else done (onCst (fun k => k.beginCommit s.clock r) s))

/-- CAL_COMMIT (R188). -/
def execCalCommit (l : Link) (s : State) : Host.Outcome State Fault Refusal :=
  .next (serve l kCalCommit (calCommitEffect l) s)

/-! ## The end of a commit (R188, R190) -/

/-- A stored image that a write of `copy` left damaged (log 6): its check, and which contents it holds, are free values
of draw `n`. -/
def Image.damaged {α : Type} (im : Image α) (copy : α) (n : Nat) : Image α where
  contents := if Config.damagedImageIsNew n then copy else im.contents
  check := Config.damagedImageCheck n

/-- A commit that read back equal (R188). -/
def RegionState.commitEqual {α : Type} (r : RegionState α) (copy : α) : RegionState α :=
  { r with stored := .written copy, modified := false, commit := none }

/-- A commit that read back different (R188). -/
def RegionState.commitDifferent {α : Type} (r : RegionState α) (copy : α) (n : Nat) : RegionState α :=
  { r with stored := r.stored.damaged copy n, commit := none }

/-- A system reset no longer waits for the commit of region `r` (R190). -/
def SysReset.commitEnded (x : SysReset) (r : Region) : SysReset :=
  match x with
  | .arrived f u =>
    match r with
    | .factory => .arrived false u
    | .user => .arrived f false
  | y => y

/-- The commit of region `r` in flight ends equal (R188). -/
def commitEqual (r : Region) (k : Cst) : Cst :=
  match r with
  | .factory =>
    match k.factory.commit with
    | some c =>
      { k with factory := k.factory.commitEqual c.copy, committedOption := c.copy.option, defaultMarking := false }
    | none => k
  | .user =>
    match k.user.commit with
    | some c => { k with user := k.user.commitEqual c.copy }
    | none => k

/-- The commit of region `r` in flight ends different (R188). -/
def commitDifferent (r : Region) (n : Nat) (k : Cst) : Cst :=
  match r with
  | .factory =>
    match k.factory.commit with
    | some c => { k with factory := k.factory.commitDifferent c.copy n }
    | none => k
  | .user =>
    match k.user.commit with
    | some c => { k with user := k.user.commitDifferent c.copy n }
    | none => k

/-- A system reset's wait for region `r` ends with its commit (R190). -/
def endAwait (r : Region) (s : State) : State := { s with sysReset := s.sysReset.commitEnded r }

/-- COMMIT_COMPLETE (R188): the effects of the end of a commit; a held system reset may follow (R190). -/
def execCommitComplete (r : Region) (equal : Bool) (s : State) : Host.Outcome State Fault Refusal :=
  .next (if s.cst.inFlight r then
      endAwait r
        (if equal then raiseAll .calDone (onCst (commitEqual r) s)
        else
          raiseAll .calInvalid
            (reportFault .calWriteFail (onCst (commitDifferent r s.freeCount) { s with freeCount := s.freeCount + 1 })))
    else s)

end Sys2Proof.Machine
end

