-- ==== Sys2Proof/Machine/Takes.lean ====
section
/-! DEFINITION. The requests of the take store, and the recorder's step of one second (07). -/

namespace Sys2Proof.Machine

/-- A take number read from a request byte (R130, R137 to R142): none above 7. -/
def takeArg (args : List Byte) (i : Nat) : Option TakeNo := finOf 8 (byteAt args i)

/-- Some take is RECORDING or LOADING (R130, R137). -/
def takeBusy (s : State) : Bool :=
  (List.finRange 8).any fun t => (s.take t).state == .recording || (s.take t).state == .loading

/-- TAKE_STATE raised on every link (R126). -/
def takeStateRaised (s : State) : State := raiseAll .takeState s

/-! ## Recording (R130, R132, R136) -/

/-- TAKE RECORD on an EMPTY take `t`, steps 1 to 5 (R130). -/
def beginRecording (t : TakeNo) (immediate : Bool) (tag : Nat) (s : State) : State :=
  let s1 := allocateBlock t (onTake t (fun e => { e with state := .recording, kept := false, truncated := false, tag := tag }) s)
  let s2 := if immediate then startTake t s.clock s1 else onTks (fun k => { k with recorder := .armed t }) s1
  takeStateRaised s2

/-- TAKE RECORD's effect (R130). -/
def takeRecordEffect (args : List Byte) (s : State) : State × Reply :=
  needs 4 args s
    (match takeArg args 0 with
    | none => refuse .argument s
    | some t =>
      if 1 < byteAt args 1 then refuse .argument s
      else if (s.take t).state ≠ .empty then refuse .state s
      else if takeBusy s then refuse .busy s
      else
        match lowestFree s with
        | none => refuse .full s
        | some b => done (beginRecording t (byteAt args 1 == 1) (word16At args 2) s) [byteOf t.val, byteOf b.val])

/-- TAKE_RECORD (R130). -/
def execTakeRecord (l : Link) (s : State) : Host.Outcome State Fault Refusal :=
  .next (serve l kTakeRecord takeRecordEffect s)

/-- A recording ends: CLOSED when it holds more than its snapshot, EMPTY otherwise (R136, R143). -/
def endRecording (t : TakeNo) (s : State) : State :=
  if 3 < (s.take t).count then onTake t (fun e => { e with state := .closed }) s else emptyTake t s

/-- TAKE STOP on take `t` (R136). -/
def stopRecording (t : TakeNo) (s : State) : State × Reply :=
  let s1 := takeStateRaised (endRecording t (onTks (fun k => { k with recorder := .idle }) s))
  done s1 [byteOf t.val, byteOf (s1.take t).state.code]

/-- TAKE STOP's effect (R136). -/
def takeStopEffect (_args : List Byte) (s : State) : State × Reply :=
  match s.tks.recorder with
  | .idle => refuse .state s
  | .armed t => stopRecording t s
  | .recording t _ => stopRecording t s

/-- TAKE_STOP (R136). -/
def execTakeStop (l : Link) (s : State) : Host.Outcome State Fault Refusal :=
  .next (serve l kTakeStop takeStopEffect s)

/-- The recorder whose mark time lies a second back: its take and fields (R132). -/
def secondDue (s : State) : Option (TakeNo × RecInfo) :=
  match s.phase, s.tks.recorder with
  | .running, .recording t r => if reached s.clock (r.mark + 1000000) then some (t, r) else none
  | _, _ => none

/-- RECORDER_SECOND_STEP (R132). -/
def execRecorderSecondStep (s : State) : Host.Outcome State Fault Refusal :=
  .next (match secondDue s with
    | some (t, r) =>
      onTks (fun k =>
        { k with recorder := .recording t { r with position := r.position + 1000000, mark := r.mark + 1000000 } }) s
    | none => s)

/-! ## Loading (R137, R138) -/

/-- TAKE LOAD's effect (R137). -/
def takeLoadEffect (args : List Byte) (s : State) : State × Reply :=
  needs 3 args s
    (match takeArg args 0 with
    | none => refuse .argument s
    | some t =>
      if (s.take t).state ≠ .empty then refuse .state s
      else if takeBusy s then refuse .busy s
      else
        done (takeStateRaised
          (onTake t (fun e => { e with state := .loading, kept := false, truncated := false, tag := word16At args 1 }) s)))

/-- TAKE_LOAD (R137). -/
def execTakeLoad (l : Link) (s : State) : Host.Outcome State Fault Refusal :=
  .next (serve l kTakeLoad takeLoadEffect s)

/-- The milliseconds a batch stands for (R127). -/
def batchMs (rs : List TakeRec) : Nat := (rs.map TakeRec.ms).sum

/-- WRITE TAKE RECORDS' effect (R137). Bytes after the last whole record are ignored (log 19). -/
def writeTakeRecordsEffect (args : List Byte) (s : State) : State × Reply :=
  needs 1 args s
    (match takeArg args 0 with
    | none => refuse .argument s
    | some t =>
      if (s.take t).state ≠ .loading then refuse .state s
      else
        match takeRecsAt args 1 ((args.length - 1) / 4) with
        | none => refuse .argument s
        | some rs =>
          if Config.maxDuration < (s.take t).duration + batchMs rs then refuse .argument s
          else if takeRoom s t < rs.length then refuse .full s
          else
            let s1 := appendRecords t rs s
            done s1 (le16 (s1.take t).count))

/-- WRITE_TAKE_RECORDS (R137). -/
def execWriteTakeRecords (l : Link) (s : State) : Host.Outcome State Fault Refusal :=
  .next (serve l kWriteTakeRecords writeTakeRecordsEffect s)

/-- A loading ends: CLOSED when it holds a record, EMPTY otherwise (R138, R143). -/
def endLoading (t : TakeNo) (s : State) : State :=
  if 1 ≤ (s.take t).count then onTake t (fun e => { e with state := .closed }) s else emptyTake t s

/-- LOAD END's effect (R138). -/
def loadEndEffect (args : List Byte) (s : State) : State × Reply :=
  needs 1 args s
    (match takeArg args 0 with
    | none => refuse .argument s
    | some t =>
      if (s.take t).state ≠ .loading then refuse .state s
      else
        let s1 := takeStateRaised (endLoading t s)
        done s1 [byteOf (s1.take t).state.code])

/-- LOAD_END (R138). -/
def execLoadEnd (l : Link) (s : State) : Host.Outcome State Fault Refusal :=
  .next (serve l kLoadEnd loadEndEffect s)

/-! ## Keeping and erasing (R139, R140) -/

/-- TAKE KEEP's and TAKE UNKEEP's effect: ROLE, ARGUMENT and STATE in that order (R139). -/
def keepEffect (l : Link) (keep : Bool) (args : List Byte) (s : State) : State × Reply :=
  if holdsPanel s l then
    needs 1 args s
      (match takeArg args 0 with
      | none => refuse .argument s
      | some t =>
        if (s.take t).state = .empty then refuse .state s
        else if (s.take t).kept = keep then done s
        else done (takeStateRaised (onTake t (fun e => { e with kept := keep }) s)))
  else refuse .role s

/-- TAKE_KEEP (R139). -/
def execTakeKeep (l : Link) (s : State) : Host.Outcome State Fault Refusal :=
  .next (serve l kTakeKeep (keepEffect l true) s)

/-- TAKE_UNKEEP (R139). -/
def execTakeUnkeep (l : Link) (s : State) : Host.Outcome State Fault Refusal :=
  .next (serve l kTakeUnkeep (keepEffect l false) s)

/-- The player is not IDLE and names take `t` (R140). -/
def playerNames (s : State) (t : TakeNo) : Bool :=
  match s.ply.session with
  | some ss => ss.take == t
  | none => false

/-- TAKE ERASE's effect (R140). -/
def takeEraseEffect (args : List Byte) (s : State) : State × Reply :=
  needs 1 args s
    (match takeArg args 0 with
    | none => refuse .argument s
    | some t =>
      if (s.take t).state = .recording ∨ (s.take t).state = .loading then refuse .state s
      else if playerNames s t then refuse .state s
      else if (s.take t).kept then refuse .guarded s
      else if (s.take t).state = .empty then done s
      else done (takeStateRaised (emptyTake t s)))

/-- TAKE_ERASE (R140). -/
def execTakeErase (l : Link) (s : State) : Host.Outcome State Fault Refusal :=
  .next (serve l kTakeErase takeEraseEffect s)

/-! ## Reading the take store (R141, R142) -/

/-- The recorder byte (R174). DESIGN CHOICE (log 47): bits 4 to 6, the take, are 0 while the recorder is IDLE and has
no take. -/
def recorderByte : Recorder → Nat
  | .idle => 0
  | .armed t => 1 + 16 * t.val
  | .recording t _ => 2 + 16 * t.val

/-- The number of directory entries a reply carries (R141). -/
def entriesReturned (limit : Limit) (first : Nat) : Nat := min (8 - first) ((limit.bytes - 4) / 11)

/-- READ TAKE DIRECTORY's effect (R141). -/
def readTakeDirectoryEffect (l : Link) (args : List Byte) (s : State) : State × Reply :=
  needs 1 args s
    (let first := byteAt args 0
     if 7 < first then refuse .argument s
     else
       done s ([byteOf (recorderByte s.tks.recorder), byteOf (freeBlocks s)]
         ++ (((List.finRange 8).drop first).take (entriesReturned (s.link l).limit first)).flatMap
              fun t => (s.take t).bytes t))

/-- READ_TAKE_DIRECTORY (R141). -/
def execReadTakeDirectory (l : Link) (s : State) : Host.Outcome State Fault Refusal :=
  .next (serve l kReadTakeDirectory (readTakeDirectoryEffect l) s)

/-- The number of take records a reply carries (R142). -/
def recordsReturned (limit : Limit) (first count held : Nat) : Nat := min count (min (held - first) ((limit.bytes - 4) / 4))

/-- READ TAKE RECORDS' effect (R142). -/
def readTakeRecordsEffect (l : Link) (args : List Byte) (s : State) : State × Reply :=
  needs 4 args s
    (match takeArg args 0 with
    | none => refuse .argument s
    | some t =>
      if (s.take t).state = .empty then refuse .state s
      else
        let first := word16At args 1
        let rs := ((takeRecords s t).drop first).take
          (recordsReturned (s.link l).limit first (byteAt args 3) (s.take t).count)
        done s ([byteOf t.val, byteOf rs.length] ++ rs.flatMap fun r => le32 r.word))

/-- READ_TAKE_RECORDS (R142). -/
def execReadTakeRecords (l : Link) (s : State) : Host.Outcome State Fault Refusal :=
  .next (serve l kReadTakeRecords (readTakeRecordsEffect l) s)

end Sys2Proof.Machine
end

