-- ==== Sys2Proof/Machine/Reset.lean ====
section
/-! DEFINITION. Power and reset: POWER_ON_RESET, RESETN_LOW, RESETN_HIGH, SYSTEM_RESET_EFFECT, REGIONS_LOADED, POWER_LOSS (R189, R190). -/

namespace Sys2Proof.Machine

/-! ## Blocks at their reset values -/

/-- A link port as a system reset leaves it (R172, R173): as a link reset does, and the byte under way keeps its time when
the action clock goes back to 0 (log 16). -/
def LinkState.afterSystemReset (now : Clock) (ls : LinkState) : LinkState :=
  { ls.afterReset now with sending := ls.sending.map fun sd => { sd.cutOff now with start := sd.start - now } }

/-- A link port of a part that has been without power (R172). -/
def LinkState.cold (ls : LinkState) : LinkState := { lineLow := ls.lineLow }

/-- The blocks that every reset sets to the same values, and the clock (R20, R21, R45, R73, R103, R110, R160, R172, R176,
R181). Pins keep their levels (log 11). -/
def resetBlocks (s : State) : State :=
  { s with
    clock := 0
    sysReset := .none
    sfe := .initial
    keys := Vector.replicate 88 {}
    pdu := {}
    ajn := {}
    rlc := .initial s.rlc.silentLow s.rlc.current
    ply := {}
    links := ⟨s.links.a.afterSystemReset s.clock, s.links.b.afterSystemReset s.clock, s.links.c.afterSystemReset s.clock⟩
    roles := {}
    faults := {} }

/-- The voice assigner and the take store at their power-on values too, and no link sending (R75, R77, R124, R126, R129). -/
def coldBlocks (s : State) : State :=
  { resetBlocks s with
    vas := .initial
    tks := .initial
    links := ⟨s.links.a.cold, s.links.b.cold, s.links.c.cold⟩ }

/-- An unfinished take at a system reset (R143). -/
def settleTake (s : State) (t : TakeNo) : State :=
  match (s.take t).state with
  | .recording => endRecording t s
  | .loading => endLoading t s
  | _ => s

/-- The take store at a system reset (R143). -/
def settleTakes (s : State) : State :=
  onTks (fun k => { k with recorder := .idle }) ((List.finRange 8).foldl settleTake s)

/-- The voice assigner at a system reset (R101): the teardown, then the start counter at 0. -/
def resetVoices (s : State) : State :=
  onVas (fun va => { va with startCounter := 0, layers := defaultLayers }) (toneTeardown s)

/-- A commit in flight keeps the time it has taken when the action clock goes back to 0 (log 9). -/
def RegionState.rebase {α : Type} (now : Clock) (r : RegionState α) : RegionState α :=
  { r with commit := r.commit.map fun c => { c with start := c.start - now } }

/-- Commits that a system reset did not wait for go on through it (R190; log 9). -/
def rebaseCommits (s : State) : State :=
  onCst (fun k => { k with factory := k.factory.rebase s.clock, user := k.user.rebase s.clock }) s

/-! ## Loading the regions (R189) -/

/-- A region loaded from its stored image, or with the built-in defaults when the check fails (R189). -/
def RegionState.load {α : Type} (r : RegionState α) (defaults : α) : RegionState α :=
  { r with
    working := if r.stored.passes then r.stored.contents else defaults
    modified := !r.stored.passes
    startFailed := !r.stored.passes }

/-- Both regions loaded, the committed option word and the default marking set (R184, R189). -/
def Cst.load (k : Cst) : Cst where
  factory := k.factory.load defaultFactory
  user := k.user.load defaultUser
  committedOption := if k.factory.stored.passes then k.factory.stored.contents.option else defaultOption
  defaultMarking := !k.factory.stored.passes

/-- CAL_INVALID for a region that failed its check (R189). -/
def reportInvalid (passes : Bool) (s : State) : State :=
  if passes then s else raiseAll .calInvalid (reportFault .calInvalid s)

/-- The regions are loaded and tested, and wait to be taken up (R189). -/
def loadRegions (s : State) : State :=
  let s1 := onCst Cst.load { s with phase := .loading }
  reportInvalid s.cst.user.stored.passes (reportInvalid s.cst.factory.stored.passes s1)

/-- Start-up goes on, or waits while RESETn is low (R190; log 8). -/
def startUp (s : State) : State := if s.resetnLow then { s with phase := .heldInReset } else loadRegions s

/-! ## Commits cut off by power loss (R188, R190) -/

/-- A region whose commit, if any, is cut off: its stored image is left damaged (R190; log 6). -/
def RegionState.cutOff {α : Type} (r : RegionState α) (n : Nat) : RegionState α :=
  match r.commit with
  | some c => { r with stored := r.stored.damaged c.copy n, commit := none }
  | none => r

/-- Both commits cut off; a damaged image takes one draw of the free values. -/
def cutCommits (s : State) : State :=
  let n := s.freeCount
  { s with
    cst := { s.cst with factory := s.cst.factory.cutOff n, user := s.cst.user.cutOff (n + 1) }
    freeCount := n + 2 }

/-! ## Meanings -/

/-- POWER_ON_RESET (R189, R190): not held behind a commit. -/
def execPowerOnReset (s : State) : Host.Outcome State Fault Refusal := .next (startUp (coldBlocks (cutCommits s)))

/-- A reset cause can arrive: the part is at work and no reset is held already (R190). -/
def resetCauseActs (s : State) : Bool :=
  (s.phase == .running || s.phase == .loading)
    && (match s.sysReset with
      | .arrived _ _ => false
      | _ => true)

/-- RESETN_LOW (R190). -/
def execResetnLow (s : State) : Host.Outcome State Fault Refusal :=
  .next (if s.resetnLow then s
    else
      let s1 := { s with resetnLow := true }
      if resetCauseActs s1 then resetArrives s1 else s1)

/-- RESETN_HIGH (R190): a start-up that waits for the pin goes on. -/
def execResetnHigh (s : State) : Host.Outcome State Fault Refusal :=
  .next (let s1 := { s with resetnLow := false }
    if s.phase = .heldInReset then loadRegions s1 else s1)

/-- A system reset has arrived and no commit holds it (R173, R190). -/
def resetDue (s : State) : Bool := decide (s.sysReset = .arrived false false)

/-- What a system reset does when it takes effect (R101, R143, R189, R190). -/
def systemReset (s : State) : State := startUp (resetBlocks (rebaseCommits (resetVoices (settleTakes s))))

/-- SYSTEM_RESET_EFFECT (R190). -/
def execSystemResetEffect (s : State) : Host.Outcome State Fault Refusal := .next (if resetDue s then systemReset s else s)

/-- The blocks take up their working values (R3, R78, R189): the layer list, and the scan list as active and staging
list. -/
def takeUp (s : State) : State :=
  let u := s.cst.user.working
  onVas (fun va => { va with layers := u.layers })
    (onSfe (fun f => { f with active := u.scan, pendingList := none, staging := u.scan }) { s with phase := .running })

/-- REGIONS_LOADED (R189): the blocks take up their values and the first frame starts in the same moment. -/
def execRegionsLoaded (s : State) : Host.Outcome State Fault Refusal :=
  .next (if s.phase = .loading then startFrame (takeUp s) else s)

/-- POWER_LOSS (R190; log 7): what is volatile is lost, and a commit in flight is cut off. -/
def execPowerLoss (s : State) : Host.Outcome State Fault Refusal :=
  .next (if s.phase = .off then s else { coldBlocks (cutCommits s) with phase := .off })

end Sys2Proof.Machine
end

