-- ==== Sys2Proof/Machine/Voices.lean ====
section
/-! DEFINITION. The requests of the voice assigner: SET LAYERS, READ VOICES, VOICE ENDED (05). -/

namespace Sys2Proof.Machine

/-- The four layer entries of SET LAYERS; none when one of them is refused (R79). -/
def layersOf (args : List Byte) : Option (Vector Layer 4) :=
  match layerAt args 0, layerAt args 5, layerAt args 10, layerAt args 15 with
  | some y0, some y1, some y2, some y3 => some #v[y0, y1, y2, y3]
  | _, _, _, _ => none

/-- SET LAYERS' effect (R79). -/
def setLayersEffect (args : List Byte) (s : State) : State × Reply :=
  needs 20 args s
    (match layersOf args with
    | none => refuse .argument s
    | some ys => done (onVas (fun va => { va with layers := ys }) s) (ys.toList.flatMap Layer.bytes))

/-- SET_LAYERS (R79). -/
def execSetLayers (l : Link) (s : State) : Host.Outcome State Fault Refusal :=
  .next (serve l kSetLayers setLayersEffect s)

/-- The number of slots READ VOICES returns (R102); a count above 128 is taken as it is (log 37). -/
def slotsReturned (limit : Limit) (first count : Nat) : Nat := min count (min (128 - first) ((limit.bytes - 5) / 8))

/-- READ VOICES' effect (R102). -/
def readVoicesEffect (l : Link) (args : List Byte) (s : State) : State × Reply :=
  needs 2 args s
    (let first := byteAt args 0
     if 127 < first then refuse .argument s
     else
       let n := slotsReturned (s.link l).limit first (byteAt args 1)
       done s ([byteOf s.vas.queue.length, byteOf (linkCode s.roles.tone), byteOf n]
         ++ (((List.finRange 128).drop first).take n).flatMap fun i => (s.slot i).bytes i))

/-- READ_VOICES (R102). -/
def execReadVoices (l : Link) (s : State) : Host.Outcome State Fault Refusal :=
  .next (serve l kReadVoices (readVoicesEffect l) s)

/-- A slot made FREE: its generation is kept (R75, R76). -/
def VoiceSlot.freed (v : VoiceSlot) : VoiceSlot := { gen := v.gen, stale := false, voice := none }

/-- A report of (slot, generation) frees its slot (R97). -/
def VoiceSlot.endedBy (v : VoiceSlot) (g : Byte) : Bool := v.voice.isSome && v.gen == g

/-- One pair of VOICE ENDED, with the numbers of slots freed and of stale pairs so far (R97, R98). -/
def endPair (acc : State × Nat × Nat) (pair : Slot × Byte) : State × Nat × Nat :=
  let s := acc.1
  let sl := s.slot pair.1
  if sl.endedBy pair.2 then (setSlot pair.1 sl.freed s, acc.2.1 + 1, acc.2.2)
  else ({ s with faults := { s.faults with stale := satInc s.faults.stale } }, acc.2.1, acc.2.2 + 1)

/-- The pairs with their slots; none when one names a slot above 127 (R97). -/
def pairSlots : List (Nat × Byte) → Option (List (Slot × Byte))
  | [] => some []
  | (n, g) :: rest =>
    match finOf 128 n, pairSlots rest with
    | some n', some rest' => some ((n', g) :: rest')
    | _, _ => none

/-- STALE_ENDED reported once for a request that holds a stale pair (R98). -/
def staleReported (n : Nat) (s : State) : State :=
  if n = 0 then s else raiseAll .staleEnded (reportFault .staleEnded s)

/-- VOICE ENDED's effect (R97, R98). -/
def voiceEndedEffect (l : Link) (args : List Byte) (s : State) : State × Reply :=
  if holdsTone s l then
    match pairSlots (endedPairs args) with
    | none => refuse .argument s
    | some pairs =>
      let out := pairs.foldl endPair (s, 0, 0)
      done (staleReported out.2.2 out.1) [byteOf out.2.1, byteOf out.2.2]
  else refuse .role s

/-- VOICE_ENDED (R97). -/
def execVoiceEnded (l : Link) (s : State) : Host.Outcome State Fault Refusal :=
  .next (serve l kVoiceEnded (voiceEndedEffect l) s)

end Sys2Proof.Machine
end

