-- ==== Sys2Proof/Machine/Dispatch.lean ====
section
/-! DEFINITION. The dispatch of commands: one arm per constructor, one direct call of its meaning. -/

namespace Sys2Proof.Machine

/-- The effect of a command on everything but the queue. -/
def exec (i : Instr) (s : State) : Host.Outcome State Fault Refusal :=
  match i with
  | .powerOnReset => Sys2Proof.Machine.execPowerOnReset s
  | .resetnLow => Sys2Proof.Machine.execResetnLow s
  | .systemResetEffect => Sys2Proof.Machine.execSystemResetEffect s
  | .receiveByte l byte stopLow => Sys2Proof.Machine.execReceiveByte l byte stopLow s
  | .interByteGapTimeout l => Sys2Proof.Machine.execInterByteGapTimeout l s
  | .lineBreak l => Sys2Proof.Machine.execLineBreak l s
  | .transmitFrameStart l => Sys2Proof.Machine.execTransmitFrameStart l s
  | .pendingNoticeQueued l => Sys2Proof.Machine.execPendingNoticeQueued l s
  | .voiceOrderDrain => Sys2Proof.Machine.execVoiceOrderDrain s
  | .unknownRequest l => Sys2Proof.Machine.execUnknownRequest l s
  | .hello l => Sys2Proof.Machine.execHello l s
  | .setLink l => Sys2Proof.Machine.execSetLink l s
  | .claimRole l => Sys2Proof.Machine.execClaimRole l s
  | .readKeys l => Sys2Proof.Machine.execReadKeys l s
  | .setWindow l => Sys2Proof.Machine.execSetWindow l s
  | .readWindow l => Sys2Proof.Machine.execReadWindow l s
  | .depthStream l => Sys2Proof.Machine.execDepthStream l s
  | .setScanList l => Sys2Proof.Machine.execSetScanList l s
  | .openJournal l => Sys2Proof.Machine.execOpenJournal l s
  | .readJournal l => Sys2Proof.Machine.execReadJournal l s
  | .closeJournal l => Sys2Proof.Machine.execCloseJournal l s
  | .setLayers l => Sys2Proof.Machine.execSetLayers l s
  | .readVoices l => Sys2Proof.Machine.execReadVoices l s
  | .voiceEnded l => Sys2Proof.Machine.execVoiceEnded l s
  | .railDemand l => Sys2Proof.Machine.execRailDemand l s
  | .railRecover l => Sys2Proof.Machine.execRailRecover l s
  | .readRail l => Sys2Proof.Machine.execReadRail l s
  | .takeRecord l => Sys2Proof.Machine.execTakeRecord l s
  | .takeStop l => Sys2Proof.Machine.execTakeStop l s
  | .takeLoad l => Sys2Proof.Machine.execTakeLoad l s
  | .writeTakeRecords l => Sys2Proof.Machine.execWriteTakeRecords l s
  | .loadEnd l => Sys2Proof.Machine.execLoadEnd l s
  | .takeKeep l => Sys2Proof.Machine.execTakeKeep l s
  | .takeUnkeep l => Sys2Proof.Machine.execTakeUnkeep l s
  | .takeErase l => Sys2Proof.Machine.execTakeErase l s
  | .readTakeDirectory l => Sys2Proof.Machine.execReadTakeDirectory l s
  | .readTakeRecords l => Sys2Proof.Machine.execReadTakeRecords l s
  | .takePlay l => Sys2Proof.Machine.execTakePlay l s
  | .stop l => Sys2Proof.Machine.execStop l s
  | .pause l => Sys2Proof.Machine.execPause l s
  | .resume l => Sys2Proof.Machine.execResume l s
  | .setTempo l => Sys2Proof.Machine.execSetTempo l s
  | .setLoop l => Sys2Proof.Machine.execSetLoop l s
  | .clearLoop l => Sys2Proof.Machine.execClearLoop l s
  | .setGuide l => Sys2Proof.Machine.execSetGuide l s
  | .calRead l => Sys2Proof.Machine.execCalRead l s
  | .calWrite l => Sys2Proof.Machine.execCalWrite l s
  | .calCommit l => Sys2Proof.Machine.execCalCommit l s
  | .calDefaults l => Sys2Proof.Machine.execCalDefaults l s
  | .commitComplete r equal => Sys2Proof.Machine.execCommitComplete r equal s
  | .noticeSet l => Sys2Proof.Machine.execNoticeSet l s
  | .noticeMask l => Sys2Proof.Machine.execNoticeMask l s
  | .readFaults l => Sys2Proof.Machine.execReadFaults l s
  | .clearFaults l => Sys2Proof.Machine.execClearFaults l s
  | .systemReset l => Sys2Proof.Machine.execSystemReset l s
  | .frameStart => Sys2Proof.Machine.execFrameStart s
  | .settleEnd => Sys2Proof.Machine.execSettleEnd s
  | .conversionEnd results => Sys2Proof.Machine.execConversionEnd results s
  | .recorderSecondStep => Sys2Proof.Machine.execRecorderSecondStep s
  | .millisecondStep => Sys2Proof.Machine.execMillisecondStep s
  | .silentInputChange low => Sys2Proof.Machine.execSilentInputChange low s
  | .leverDebounceExpiry => Sys2Proof.Machine.execLeverDebounceExpiry s
  | .railHomingStart => Sys2Proof.Machine.execRailHomingStart s
  | .railQuietMoveStart => Sys2Proof.Machine.execRailQuietMoveStart s
  | .railCurrentChange current => Sys2Proof.Machine.execRailCurrentChange current s
  | .inrushBlankingEnd => Sys2Proof.Machine.execInrushBlankingEnd s
  | .stall => Sys2Proof.Machine.execStall s
  | .maximumTravelTimeout => Sys2Proof.Machine.execMaximumTravelTimeout s
  | .backoffTimeEnd => Sys2Proof.Machine.execBackoffTimeEnd s
  | .retryDelayEnd => Sys2Proof.Machine.execRetryDelayEnd s
  | .railHeld => Sys2Proof.Machine.execRailHeld s
  | .resetnHigh => Sys2Proof.Machine.execResetnHigh s
  | .lineReturnsHigh l => Sys2Proof.Machine.execLineReturnsHigh l s
  | .powerLoss => Sys2Proof.Machine.execPowerLoss s
  | .regionsLoaded => Sys2Proof.Machine.execRegionsLoaded s

end Sys2Proof.Machine
end

