-- ==== Sys2Proof/Machine/Schedule.lean ====
section
/-! DEFINITION. What the part does on its own when no command waits: the moment that is due now, or one microsecond passing (log 1, log 21, log 30). -/

namespace Sys2Proof.Machine

/-- The request at the head of link `l`'s receive buffer, as a command (R164). -/
def requestDue (l : Link) (s : State) : Option Instr :=
  (headRequest l s).map fun q => (requestCommand l q.1).getD (.unknownRequest l)

/-- A command, when it is due. -/
def whenDue (due : Bool) (i : Instr) : Option Instr := if due then some i else none

/-- The working values can be taken up: on an idle queue, when the 2 ms of R189 have passed (log 21). -/
def loadDue (s : State) : Bool := decide (s.phase = .loading) && decide (2000 ≤ s.clock.toNat)

/-- What is due in each block, in the fixed order of log 30. -/
def dueCommands (s : State) : List (Option Instr) :=
  [whenDue (resetDue s) .systemResetEffect,
    whenDue (loadDue s) .regionsLoaded,
    whenDue (gapDue .a s) (.interByteGapTimeout .a),
    whenDue (gapDue .b s) (.interByteGapTimeout .b),
    whenDue (gapDue .c s) (.interByteGapTimeout .c),
    whenDue (settleDue s).isSome .settleEnd,
    whenDue (frameDue s) .frameStart,
    whenDue (secondDue s).isSome .recorderSecondStep,
    whenDue (stepDue s).isSome .millisecondStep,
    whenDue (leverDue s) .leverDebounceExpiry,
    whenDue (blankingDue s) .inrushBlankingEnd,
    whenDue (stallDue s).isSome .stall,
    whenDue (travelDue s) .maximumTravelTimeout,
    whenDue (backoffDue s).isSome .backoffTimeEnd,
    whenDue (retryDue s).isSome .retryDelayEnd,
    whenDue (heldDue s).isSome .railHeld,
    whenDue (homingDue s) .railHomingStart,
    whenDue (quietMoveDue s).isSome .railQuietMoveStart,
    whenDue (transmitDue .a s) (.transmitFrameStart .a),
    whenDue (transmitDue .b s) (.transmitFrameStart .b),
    whenDue (transmitDue .c s) (.transmitFrameStart .c),
    whenDue (noticeDue .a s).isSome (.pendingNoticeQueued .a),
    whenDue (noticeDue .b s).isSome (.pendingNoticeQueued .b),
    whenDue (noticeDue .c s).isSome (.pendingNoticeQueued .c),
    whenDue (drainDue s).isSome .voiceOrderDrain,
    requestDue .a s, requestDue .b s, requestDue .c s]

/-- The first command due now (log 30). -/
def dueCommand (s : State) : Option Instr := (dueCommands s).findSome? id

/-- A commit of 40 ms, which can go on no longer (R188). -/
def commitExpired {α : Type} (now : Clock) (c : Option (Commit α)) : Bool :=
  match c with
  | some x => decide (40000 ≤ elapsed now x.start)
  | none => false

/-- Time waits for a result from outside: the converter's, or the non-volatile memory's (log 21). -/
def awaitsOutside (s : State) : Bool :=
  (conversionDue s).isSome || commitExpired s.clock s.cst.factory.commit || commitExpired s.clock s.cst.user.commit

/-- A wait of the rail whose count stops at 65,534 ms (R114; log 18). -/
def RailState.stopCount (now : Clock) : RailState → RailState
  | .waiting w => .waiting { w with stopped := w.stopped || decide (65534000 ≤ elapsed now w.start) }
  | r => r

/-- One microsecond passes: the action clock counts, and a frame sent in full leaves its transmitter (00, Time base; R165). -/
def tick (s : State) : State :=
  let now := s.clock + 1
  let s1 := onRlc (fun r => { r with state := r.state.stopCount now }) { s with clock := now }
  finishSending .c (finishSending .b (finishSending .a s1))

/-- The part is powered and not held in reset. -/
def Phase.awake : Phase → Bool
  | .loading | .running => true
  | .off | .heldInReset => false

/-- The part with no command waiting: what is due is done, else a microsecond passes, else nothing (log 1). -/
def idle (s : State) : Host.Outcome State Fault Refusal :=
  if s.phase.awake then
    match dueCommand s with
    | some i => exec i s
    | none => .next (if awaitsOutside s then s else tick s)
  else .next s

end Sys2Proof.Machine
end

