-- ==== Sys2Proof/Safety.lean ====
section
/-! DEFINITION. What a safe state of the part is: the invariants that the spec states about its blocks, in the terms the claims use. -/

namespace Sys2Proof.Machine

/-! ## Links -/

/-- A frame in a transmit queue that is a reply. -/
def TxFrame.isReply : TxFrame → Bool
  | .reply _ => true
  | _ => false

/-- The buffers of one link hold no more than they have room for: two complete frames, one reply, seven unprompted
frames (R163, R165). -/
def LinkState.bounded (ls : LinkState) : Prop :=
  ls.rxBuf.length ≤ Config.rxFrames ∧ ls.tx.countP TxFrame.isReply ≤ 1 ∧ ls.tx.countP TxFrame.unprompted ≤ Config.unpromptedPlaces

/-- Every link's buffers are bounded (R163, R165). -/
def LinksBounded (s : State) : Prop := ∀ l, (s.link l).bounded

/-- One link's notice table agrees with its transmit queue: one NOTICE frame waits for each entry whose queued-unsent
flag is set and none for another, and ungranted entries are unused (R176, R179). -/
def LinkState.noticesAgree (ls : LinkState) : Prop :=
  ∀ i : Fin 8, ls.tx.count (.notice i) = (if (ls.entry i).queued then 1 else 0) ∧ (ls.notice.grant ≤ i.val → ls.entry i = {})

/-- Every link's notice table agrees with its transmit queue (R176, R179). -/
def NoticesAgree (s : State) : Prop := ∀ l, (s.link l).noticesAgree

/-! ## Journal -/

/-- The ring holds at most 512 events in ascending sequence order up to the next number (R65). -/
def Ajn.consecutive (j : Ajn) : Prop :=
  j.ring.length ≤ Config.ringLimit
    ∧ ∀ i (h : i < j.ring.length), (j.ring[i]).seq = j.next - BitVec.ofNat 32 (j.ring.length - i)

/-- Every open cursor lies from the oldest held event up to the next number, and its threshold is 1 to 256 (R67). -/
def JournalSound (s : State) : Prop :=
  s.ajn.consecutive ∧ ∀ l st, (s.link l).stream = some st →
    unread s.ajn.next st.cursor ≤ s.ajn.ring.length ∧ 1 ≤ st.threshold ∧ st.threshold ≤ 256

/-! ## Voices -/

/-- The voice order queue holds at most 48 orders, and while no link holds TONE every slot is FREE and the queue is
empty (R91, R99). -/
def VoicesSound (s : State) : Prop :=
  s.vas.queue.length ≤ Config.queueLimit
    ∧ (s.roles.tone = none → s.vas.queue = [] ∧ ∀ n, (s.slot n).voice = none)

/-! ## Rail -/

/-- The end that the drive runs toward in a rail state; none where the drive is off (R103, R115, R118). -/
def RailState.drive : RailState → Option Side
  | .homing => some .openEnd
  | .opening => some .openEnd
  | .closing => some .blockedEnd
  | .backoff b =>
    match b.phase with
    | .retreat _ => some b.origin
    | .delay _ _ => none
  | .unknown | .openState | .blocked | .waiting _ | .fault => none

/-- A leg is under way exactly in the states that drive, and toward their end (R103). -/
def DriveMatchesState (s : State) : Prop := s.rlc.leg.map Leg.toward = s.rlc.state.drive

/-! ## Takes and player -/

/-- A take is being written (R126). -/
def TakeEntry.open_ (e : TakeEntry) : Prop := e.state = .recording ∨ e.state = .loading

/-- The take a recorder names, if any (R129). -/
def Recorder.names : Recorder → Option TakeNo
  | .idle => none
  | .armed t => some t
  | .recording t _ => some t

/-- The chain of take `t` is as the block table must hold it: no block twice, none FREE, END at its last block, room for
the take's records and no block more than they need, every record held, and nothing owned by an EMPTY take (R124,
R125). -/
def ChainSound (s : State) (t : TakeNo) : Prop :=
  (takeChain s t).Nodup
    ∧ (∀ b ∈ takeChain s t, s.tks.blocks[b] ≠ .free)
    ∧ (∀ b, (takeChain s t).getLast? = some b → s.tks.blocks[b] = .last)
    ∧ (s.take t).count ≤ 256 * (takeChain s t).length
    ∧ 256 * ((takeChain s t).length - 1) ≤ (s.take t).count
    ∧ (takeRecords s t).length = (s.take t).count
    ∧ ((s.take t).state = .empty → s.take t = {})

/-- Every chain is sound, and each block is FREE or in the chain of exactly one take (R124, R125). -/
def BlocksSound (s : State) : Prop :=
  (∀ t, ChainSound s t)
    ∧ (∀ t u b, b ∈ takeChain s t → b ∈ takeChain s u → t = u)
    ∧ (∀ b : Block, s.tks.blocks[b] ≠ .free → ∃ t, b ∈ takeChain s t)

/-- At most one take is RECORDING or LOADING, the recorder names a RECORDING take, an ARMED recorder's take owns a block
and holds no record, the take the player names is CLOSED, and the block table is sound (R124 to R126, R129, R130). -/
def TakesSound (s : State) : Prop :=
  (∀ t u, (s.take t).open_ → (s.take u).open_ → t = u)
    ∧ (∀ t, s.tks.recorder.names = some t → (s.take t).state = .recording)
    ∧ (∀ t, s.tks.recorder = .armed t → (s.take t).count = 0 ∧ takeChain s t ≠ [])
    ∧ (∀ ss, s.ply.session = some ss → (s.take ss.take).state = .closed)
    ∧ BlocksSound s

/-- The take memory has its canonical form (R124; log 22). -/
def TakeMemorySound (s : State) : Prop := s.tks.mem.wf = true

/-- The player waits, or is PAUSED from a wait (R144). -/
def Ply.waitsOrPausedWait (p : Ply) : Prop :=
  match p.session with
  | some ss =>
    match ss.mode with
    | .waiting => True
    | .paused wasWaiting => wasWaiting = true
    | .playing _ => False
  | none => False

/-- The expected set is non-empty exactly while the player is WAITING, or PAUSED with previous state WAITING (R144,
R157). -/
def ExpectedWhileWaiting (s : State) : Prop := s.ply.expected ≠ KeySet.empty ↔ s.ply.waitsOrPausedWait

/-! ## Keys and pedals -/

/-- While a sostenuto state is OFF its set is empty, for the live pedal and for the player (R53, R150). -/
def SostenutoSetsEmptyWhileOff (s : State) : Prop :=
  (s.pdu.sostOn = false → s.pdu.sostSet = KeySet.empty) ∧ (s.ply.sostOn = false → s.ply.sostSet = KeySet.empty)

/-- A key with a FAILED channel is held out, and a held-out key is UP, silent, with its hammer READY and its key lift
0 (R26, R39, R40). -/
def KeyRec.quietWhenHeldOut (r : KeyRec) : Prop :=
  (r.depthFailed = true ∨ r.hammerFailed = true → r.heldOut = true)
    ∧ (r.heldOut = true → r.state = .up ∧ r.hammer = .ready ∧ r.sounding = false ∧ r.lift = 0)

/-- Every key's record is as a held-out key requires (R39, R40). -/
def HeldOutKeysQuiet (s : State) : Prop := ∀ k, (s.key k).quietWhenHeldOut

/-! ## Running -/

/-- A run goes on safely from `s` for one step: it neither faults nor is refused. -/
def StepsOn (s : State) : Prop := ∃ t, step s = .next t

end Sys2Proof.Machine
end

