-- ==== Sys2Proof/Certificates/Slice0/Obligations.lean ====
section
/-! DEFINITION. The statements for the provers. -/

open Sys2Proof Sys2Proof.Machine

/-! ## The queue and the part on its own -/

/-- A step with a command in front of the queue runs that command on the state with the queue's rest. It is the
model's choice (log 1). -/
def Obligations.StepRunsFrontCommand : Prop :=
  ∀ (c : Instr) (rest : List Instr) (s : State),
    step { s with pending := c :: rest } = exec c { s with pending := rest }

/-- With an empty queue: without power or held in reset nothing changes; otherwise the first moment due is taken; with
nothing due the part stands still while a result from outside is awaited, and else one microsecond passes. It is the
model's choice (logs 1 and 21). With that microsecond the clock moves on by one; a link whose frame of n bytes began
5n microseconds ago has its transmitter free and is otherwise as it was (log 16); a system reset that awaits its reply
arrives when that reply has been sent in full, held behind the commits in flight (log 9); a wait of the rail reaches
the end of its count at 65,534 ms (log 18); nothing else changes. -/
def Obligations.EmptyQueueIdles : Prop :=
  ∀ s : State, s.pending = [] →
    (s.phase = .off ∨ s.phase = .heldInReset → step s = .next s)
      ∧ (∀ i, s.phase = .loading ∨ s.phase = .running → dueCommand s = some i → step s = exec i s)
      ∧ (s.phase = .loading ∨ s.phase = .running → dueCommand s = none → awaitsOutside s = true → step s = .next s)
      ∧ (s.phase = .loading ∨ s.phase = .running → dueCommand s = none → awaitsOutside s = false →
          let now := s.clock + 1
          let sent := fun (l : Link) (sd : Sending) => (s.link l).sending = some sd ∧ 5 * sd.bytes.length ≤ elapsed now sd.start
          ∃ t, step s = .next t
            ∧ t = { s with clock := now, rlc := t.rlc, links := t.links, sysReset := t.sysReset }
            ∧ (∀ w, s.rlc.state = .waiting w → t.rlc = { s.rlc with
                state := .waiting { w with stopped := w.stopped || decide (65534000 ≤ elapsed now w.start) } })
            ∧ ((∀ w, s.rlc.state ≠ .waiting w) → t.rlc = s.rlc)
            ∧ (∀ l sd, sent l sd → t.link l = { s.link l with sending := none })
            ∧ (∀ l, (∀ sd, ¬sent l sd) → t.link l = s.link l)
            ∧ (∀ l sd, s.sysReset = .awaitingReply l → sent l sd → sd.bytes = envelope [kSystemReset ||| 0x80, 0] →
                t.sysReset = .arrived s.cst.factory.commit.isSome s.cst.user.commit.isSome)
            ∧ ((∀ l sd, s.sysReset = .awaitingReply l → sent l sd → sd.bytes ≠ envelope [kSystemReset ||| 0x80, 0]) →
                t.sysReset = s.sysReset))

/-- No step faults and none is refused, whatever the state and whatever command is in front: what goes wrong is a
flag, a counter, a notice or a rail state. It is the model's choice: a command out of its moment changes nothing (log
2), and the model has no fault and no refusal that a command answers (log 32). R164, R175 and R181 say how what goes
wrong is answered, raised and flagged, not that nothing stops. -/
def Obligations.EveryStepGoesOn : Prop :=
  ∀ s : State, StepsOn s

/-! ## Reset -/

/-- What a power-on reset leaves: the clock, the channel records, the scan list, walk and select code, the key table,
the pedals, the journal, the voices, layer list and soft levels, the rail with its demand set and gate outputs, the
take store, the player, the link ports with their notice tables, the roles, the fault record and the calibration store
at the values their rules give. That the layer list is the built-in one until the regions are taken up (log 10) and
that both stored images pass (log 5) are the model's choices. -/
def Obligations.ResetValues : Prop :=
  let s := State.reset
  s.clock = 0
    ∧ (∀ k, (s.key k).depth = 0 ∧ (s.key k).state = .up ∧ (s.key k).lift = 0 ∧ (s.key k).heldOut = false
        ∧ (s.key k).height = 0 ∧ (s.key k).hammerTime = none ∧ (s.key k).hammer = .ready ∧ (s.key k).rearm = none
        ∧ (s.key k).sounding = false ∧ (s.key k).depthFailed = false ∧ (s.key k).hammerFailed = false)
    ∧ (∀ p, s.pdu.get p = { depth := 0, lift := 0, reported := 0, failed := false })
    ∧ s.pdu.sostOn = false ∧ s.pdu.sostSet = KeySet.empty
    ∧ s.ajn.next = 0 ∧ s.ajn.ring = [] ∧ (∀ l, (s.link l).stream = none)
    ∧ (∀ n, s.slot n = { gen := 0, stale := false, voice := none }) ∧ s.vas.startCounter = 0 ∧ s.vas.queue = []
    ∧ s.rlc.state = .unknown ∧ s.rlc.leg = none ∧ s.rlc.obstructions = 0 ∧ s.rlc.lastTravelMs = none
    ∧ (∀ b : Block, s.tks.blocks[b] = .free)
    ∧ (∀ t, s.take t = { state := .empty, kept := false, truncated := false, firstBlock := none, count := 0
                         duration := 0, strikes := 0, tag := 0 })
    ∧ s.tks.recorder = .idle
    ∧ s.ply.session = none ∧ s.ply.tempo = 100 ∧ s.ply.acc = 0 ∧ s.ply.guide = .none ∧ s.ply.chordWindow = 30
    ∧ s.ply.low = 0 ∧ s.ply.high = 87
    ∧ s.faults = { flags := 0, first := none, overruns := 0, missed := 0, steals := 0, refused := 0, stale := 0, skipped := 0 }
    ∧ (∀ k : Key, s.sfe.keyCh[k] = { lastRaw := none, failed := false, outRun := 0, inRun := 0, delivered := false }
      ∧ s.sfe.hammerCh[k] = { lastRaw := none, failed := false, outRun := 0, inRun := 0, delivered := false })
    ∧ (∀ p : Fin 3, s.sfe.pedalCh[p] = { lastRaw := none, failed := false, outRun := 0, inRun := 0, delivered := false })
    ∧ s.sfe.pendingList = none ∧ s.sfe.walk = .noFrame ∧ s.sfe.due = none ∧ muxSelect s = 31
    ∧ ghaActive s = false ∧ ghbActive s = false
    ∧ s.rlc.demand = { a := false, b := false, c := false, lever := false } ∧ target s = .openEnd ∧ s.rlc.leverLow = false
    ∧ s.rlc.sensingSeen = false
    ∧ (∀ i : Fin 4, s.vas.layers[i] = defaultLayer i.val) ∧ s.vas.softLive = { sent := 0, stale := false }
    ∧ s.vas.softPlay = { sent := 0, stale := false }
    ∧ s.ply.loop = none ∧ s.ply.expected = KeySet.empty ∧ s.ply.limit = none ∧ s.ply.keys = KeySet.empty ∧ s.ply.damper = 0
    ∧ s.ply.sostOn = false ∧ s.ply.sostSet = KeySet.empty ∧ s.ply.soft = 0
    ∧ s.roles = { tone := none, panel := none }
    ∧ (∀ l, (s.link l).rx = .hunt ∧ (s.link l).rxBuf = [] ∧ (s.link l).tx = [] ∧ (s.link l).sending = none
        ∧ (s.link l).limit = .b16 ∧ (s.link l).base0 = 0 ∧ (s.link l).base1 = 8 ∧ (s.link l).depthPeriod = 0
        ∧ (s.link l).checkFlag = false ∧ (s.link l).overflowFlag = false ∧ (s.link l).overrunFlag = false
        ∧ (s.link l).checkErrors = 0 ∧ (s.link l).overflows = 0 ∧ (s.link l).lost = 0
        ∧ (s.link l).notice.enable = false ∧ (s.link l).notice.linkMask = false ∧ (s.link l).notice.grant = 1
        ∧ ∀ i, (s.link l).entry i = { classes := 0, tag := 0, mask := false, pending := false, queued := false, acc := 0 })
    ∧ s.cst.factory.commit = none ∧ s.cst.user.commit = none ∧ s.cst.factory.modified = false ∧ s.cst.user.modified = false
    ∧ s.cst.defaultMarking = false ∧ s.sysReset = .none

/-- Every invariant stated below holds right after a power-on reset: bounded links, notices in agreement, a sound
journal, sound voices, the drive with its state, sound takes and take memory, the expected set with the wait, empty
sostenuto sets and quiet held-out keys. -/
def Obligations.InvariantsHoldAtReset : Prop :=
  LinksBounded State.reset ∧ NoticesAgree State.reset ∧ JournalSound State.reset ∧ VoicesSound State.reset
    ∧ DriveMatchesState State.reset ∧ TakesSound State.reset ∧ TakeMemorySound State.reset
    ∧ ExpectedWhileWaiting State.reset ∧ SostenutoSetsEmptyWhileOff State.reset ∧ HeldOutKeysQuiet State.reset

/-! ## Invariants that every step keeps -/

/-- From every state, no step lets a receive buffer hold a third complete frame, a transmit queue a second reply or an
eighth unprompted frame. -/
def Obligations.LinksStayBounded : Prop :=
  ∀ s t : State, LinksBounded s → step s = .next t → LinksBounded t

/-- From every state, every step keeps one waiting NOTICE frame for each entry whose queued-unsent flag is set and
none for another, and ungranted entries unused. -/
def Obligations.NoticesStayInAgreement : Prop :=
  ∀ s t : State, NoticesAgree s → step s = .next t → NoticesAgree t

/-- From every state, every step keeps the ring at most 512 events long with consecutive numbers up to the next, every
open cursor from the oldest held up to the next number, and every threshold within 1 to 256. -/
def Obligations.JournalStaysSound : Prop :=
  ∀ s t : State, JournalSound s → step s = .next t → JournalSound t

/-- From every state, every step keeps the voice order queue within 48 orders, and while no link holds TONE every slot
FREE and the queue empty. -/
def Obligations.VoicesStaySound : Prop :=
  ∀ s t : State, VoicesSound s → step s = .next t → VoicesSound t

/-- From every state, every step keeps a leg under way exactly in HOMING, CLOSING, OPENING and the retreat of BACKOFF,
and toward the end that state drives to. In such a state GHA is active exactly while the drive runs toward BLOCKED,
GHB exactly while it runs toward OPEN, never both, and neither while the drive is off. -/
def Obligations.DriveStaysWithState : Prop :=
  (∀ s t : State, DriveMatchesState s → step s = .next t → DriveMatchesState t)
    ∧ (∀ s : State, DriveMatchesState s →
        (ghaActive s = true ↔ s.rlc.state.drive = some .blockedEnd) ∧ (ghbActive s = true ↔ s.rlc.state.drive = some .openEnd)
          ∧ ¬(ghaActive s = true ∧ ghbActive s = true) ∧ (s.rlc.leg = none → ghaActive s = false ∧ ghbActive s = false))

/-- From every state, every step keeps at most one take RECORDING or LOADING, the recorder's take RECORDING, an ARMED
recorder's take empty of records with a block of its own, and the take named by the player CLOSED; and the block table
sound: each of the 64 blocks is FREE or in the chain of exactly one take, no chain holds a block twice, END marks its
last block, it has room for the take's records and no block more than they need, every record counted is held, and an
EMPTY take owns nothing. -/
def Obligations.TakesStaySound : Prop :=
  ∀ s t : State, TakesSound s → step s = .next t → TakesSound t

/-- From every state, every step keeps the take memory in its canonical form: addresses strictly rising, inside the 64
blocks of 256 places. That the memory is a list of addresses and records in rising order is the model's representation
(log 22); the 64 blocks of 256 places are R124's. -/
def Obligations.TakeMemoryStaysSound : Prop :=
  ∀ s t : State, TakeMemorySound s → step s = .next t → TakeMemorySound t

/-- From every state, every step keeps the expected set non-empty exactly while the player is WAITING, or PAUSED with
previous state WAITING. -/
def Obligations.ExpectedSetMatchesWait : Prop :=
  ∀ s t : State, ExpectedWhileWaiting s → step s = .next t → ExpectedWhileWaiting t

/-- From every state, every step keeps the live sostenuto set empty while the sostenuto pedal is OFF, and the playback
sostenuto set empty while the playback sostenuto state is OFF. -/
def Obligations.SostenutoSetsStayEmptyWhileOff : Prop :=
  ∀ s t : State, SostenutoSetsEmptyWhileOff s → step s = .next t → SostenutoSetsEmptyWhileOff t

/-- From every state, every step keeps a key with a FAILED channel held out, and every held-out key UP, not sounding,
with its hammer READY and its key lift 0. -/
def Obligations.HeldOutKeysStayQuiet : Prop :=
  ∀ s t : State, HeldOutKeysQuiet s → step s = .next t → HeldOutKeysQuiet t

/-! ## Requests in general -/

/-- A request at the head of a link's buffer is always answered on that link, and one not answered DONE changes
nothing but the buffer and the reply place. -/
def Obligations.RefusedRequestChangesNothing : Prop :=
  ∀ (i : Instr) (l : Link) (k : Byte) (args : List Byte) (s : State),
    requestCommand l k = some i → headRequest l s = some (k, args) →
      ∃ (r : Reply) (t : State), exec i s = .next (putReply l k r t) ∧ (r.result ≠ .done → t = popRequest l s)

/-- A kind that names no request is answered UNKNOWN with no data, and nothing else changes. A request command whose
request is not at the head of the buffer, or that finds the reply place taken, changes nothing (the model's choice,
log 2). -/
def Obligations.RequestsAnsweredOrLeft : Prop :=
  (∀ (l : Link) (k : Byte) (args : List Byte) (s : State),
      requestCommand l k = none → headRequest l s = some (k, args) →
        exec (.unknownRequest l) s = .next (putReply l k { result := .unknown } (popRequest l s)))
    ∧ (∀ (i : Instr) (l : Link) (k : Byte) (s : State),
      requestCommand l k = some i → (∀ args, headRequest l s ≠ some (k, args)) → exec i s = .next s)

/-- HELLO is answered DONE on every link with part code 2188 (low byte first), revision 1, the link it arrives on and
the roles that link holds, and nothing changes but the buffer and the reply place. -/
def Obligations.HelloAnswersAndChangesNothing : Prop :=
  ∀ (l : Link) (args : List Byte) (s : State), headRequest l s = some (kHello, args) →
    exec (.hello l) s = .next
      (putReply l kHello
        { result := .done
          data := [0x8C, 0x08, 1, byteOf (match l with | .a => 0 | .b => 1 | .c => 2),
            byteOf ((if s.roles.tone = some l then 1 else 0) + (if s.roles.panel = some l then 2 else 0))] }
        (popRequest l s))

/-- CLOSE JOURNAL removes the link's stream and is answered DONE, everything else of the link (the lost count too)
left as it is; with no stream open it is refused with STATE. -/
def Obligations.CloseJournalRemovesStream : Prop :=
  ∀ (l : Link) (args : List Byte) (s : State), headRequest l s = some (kCloseJournal, args) →
    ((s.link l).stream ≠ none →
        exec (.closeJournal l) s = .next
          (putReply l kCloseJournal { result := .done } (onLink l (fun ls => { ls with stream := none }) (popRequest l s))))
      ∧ ((s.link l).stream = none →
        exec (.closeJournal l) s = .next (putReply l kCloseJournal { result := .state } (popRequest l s)))

/-- READ RAIL is answered DONE on any link with the rail record as it stands, and nothing else changes: the state, the
waiting side, the backoff phase and origin, bank, route and target, the demand members, lever level and lever mode,
the obstruction count, and the three times, FFFFh for an absent one. The count of a wait that has stopped at 65,534 ms
(R114) is carried by a flag of the model (log 18). The byte places and FFFFh are R174's and the stop at 65,534 ms is
R114's. That the waiting side reads 0 outside WAITING, and the phase and origin 0 outside BACKOFF, is the model's
choice (log 47). The gate bank in force and the sound route are given for every rail state, WAITING by its side and
FAULT by the target. -/
def Obligations.ReadRailAnswersRecord : Prop :=
  (∀ (l : Link) (args : List Byte) (s : State), headRequest l s = some (kReadRail, args) →
      ∃ d : List Byte,
        exec (.readRail l) s = .next (putReply l kReadRail { result := .done, data := d } (popRequest l s))
          ∧ d.length = 10
          ∧ byteAt d 0 = s.rlc.state.code
          ∧ (bitOf d 1 0 = true ↔ ∃ w, s.rlc.state = .waiting w ∧ w.side = .blockedEnd)
          ∧ (bitOf d 1 1 = true ↔ ∃ b ms f, s.rlc.state = .backoff b ∧ b.phase = .delay ms f)
          ∧ (bitOf d 1 2 = true ↔ ∃ b, s.rlc.state = .backoff b ∧ b.origin = .blockedEnd)
          ∧ (bitOf d 1 3 = true ↔ gateBank s = .blockedEnd) ∧ (bitOf d 1 4 = true ↔ soundRoute s = .silent)
          ∧ (bitOf d 1 5 = true ↔ target s = .blockedEnd)
          ∧ bitOf d 2 0 = s.rlc.demand.a ∧ bitOf d 2 1 = s.rlc.demand.b ∧ bitOf d 2 2 = s.rlc.demand.c
          ∧ bitOf d 2 3 = s.rlc.demand.lever ∧ bitOf d 2 4 = s.rlc.leverLow
          ∧ bitOf d 2 5 = s.cst.factory.working.option.leverDemand
          ∧ byteAt d 3 = s.rlc.obstructions % 256
          ∧ (s.rlc.leg = none → word16At d 4 = 0xFFFF)
          ∧ (∀ lg, s.rlc.leg = some lg → word16At d 4 = elapsed s.clock lg.start / 1000 % 65536)
          ∧ ((∀ w, s.rlc.state ≠ .waiting w) → word16At d 6 = 0xFFFF)
          ∧ (∀ w, s.rlc.state = .waiting w → w.stopped = false → word16At d 6 = min (elapsed s.clock w.start / 1000) 65534)
          ∧ (∀ w, s.rlc.state = .waiting w → w.stopped = true → word16At d 6 = 65534)
          ∧ (s.rlc.lastTravelMs = none → word16At d 8 = 0xFFFF)
          ∧ (∀ ms, s.rlc.lastTravelMs = some ms → word16At d 8 = ms % 65536))
    ∧ (∀ s : State,
        (s.rlc.state = .unknown ∨ s.rlc.state = .homing → gateBank s = .blockedEnd ∧ soundRoute s = .acoustic)
          ∧ (s.rlc.state = .openState → gateBank s = .openEnd ∧ soundRoute s = .acoustic)
          ∧ (s.rlc.state = .closing ∨ s.rlc.state = .blocked ∨ s.rlc.state = .opening → gateBank s = .blockedEnd ∧ soundRoute s = .silent)
          ∧ (∀ w, s.rlc.state = .waiting w → gateBank s = .blockedEnd
              ∧ soundRoute s = (match w.side with
                | .openEnd => .acoustic
                | .blockedEnd => .silent))
          ∧ (∀ b, s.rlc.state = .backoff b → gateBank s = .blockedEnd ∧ soundRoute s = .silent)
          ∧ (s.rlc.state = .fault → gateBank s = .blockedEnd
              ∧ soundRoute s = (match target s with
                | .openEnd => .acoustic
                | .blockedEnd => .silent)))

/-- READ KEYS, READ WINDOW, READ VOICES, READ TAKE DIRECTORY, READ TAKE RECORDS, CAL READ and READ FAULTS with a first
index in range are answered DONE with the records they name, as many as the rule allows, and change nothing but the
buffer and the reply place. That READ KEYS with a count above 91 and READ VOICES with one above 128 are taken as they
are and answered DONE, where the spec gives those counts no range of their own, is the model's choice (log 37). What
the bits of an absent field carry in these records (the recorder's take while IDLE, source, follows and layer of a
FREE slot, the armed bank of a hammer that is not ARMED, sostenuto ON in the DAMPER and SOFT records) is the model's
choice: 0 (log 47). -/
def Obligations.ReadsChangeNothing : Prop :=
  ∀ (l : Link) (args : List Byte) (s : State),
    (headRequest l s = some (kReadKeys, args) → 2 ≤ args.length → byteAt args 0 ≤ 90 →
        exec (.readKeys l) s = .next (putReply l kReadKeys
          { result := .done
            data :=
              let n := min (byteAt args 1) (min (91 - byteAt args 0) (((s.link l).limit.bytes - 4) / 12))
              [byteOf (byteAt args 0), byteOf n]
                ++ (List.range n).flatMap fun i => recordBytes (popRequest l s) (byteAt args 0 + i) }
          (popRequest l s)))
      ∧ (headRequest l s = some (kReadWindow, args) → 1 ≤ args.length → byteAt args 0 ≤ 15 →
        exec (.readWindow l) s = .next (putReply l kReadWindow
          { result := .done
            data :=
              let n := min (16 - byteAt args 0) (((s.link l).limit.bytes - 4) / 3)
              [byteOf (byteAt args 0), byteOf n]
                ++ (((List.finRange 16).drop (byteAt args 0)).take n).flatMap fun p =>
                  windowEntryBytes (s.key (windowKey ((popRequest l s).link l) p)) }
          (popRequest l s)))
      ∧ (headRequest l s = some (kReadVoices, args) → 2 ≤ args.length → byteAt args 0 ≤ 127 →
        exec (.readVoices l) s = .next (putReply l kReadVoices
          { result := .done
            data :=
              let n := min (byteAt args 1) (min (128 - byteAt args 0) (((s.link l).limit.bytes - 5) / 8))
              [byteOf s.vas.queue.length, byteOf (linkCode s.roles.tone), byteOf n]
                ++ (((List.finRange 128).drop (byteAt args 0)).take n).flatMap fun i => (s.slot i).bytes i }
          (popRequest l s)))
      ∧ (headRequest l s = some (kReadTakeDirectory, args) → 1 ≤ args.length → byteAt args 0 ≤ 7 →
        exec (.readTakeDirectory l) s = .next (putReply l kReadTakeDirectory
          { result := .done
            data := [byteOf (recorderByte s.tks.recorder), byteOf (freeBlocks s)]
              ++ (((List.finRange 8).drop (byteAt args 0)).take
                  (min (8 - byteAt args 0) (((s.link l).limit.bytes - 4) / 11))).flatMap fun t => (s.take t).bytes t }
          (popRequest l s)))
      ∧ (∀ t : TakeNo, headRequest l s = some (kReadTakeRecords, args) → 4 ≤ args.length → byteAt args 0 = t.val →
          (s.take t).state ≠ .empty →
        exec (.readTakeRecords l) s = .next (putReply l kReadTakeRecords
          { result := .done
            data :=
              let rs := ((takeRecords s t).drop (word16At args 1)).take
                (min (byteAt args 3) (min ((s.take t).count - word16At args 1) (((s.link l).limit.bytes - 4) / 4)))
              [byteOf t.val, byteOf rs.length] ++ rs.flatMap fun r => le32 r.word }
          (popRequest l s)))
      ∧ (∀ r it, headRequest l s = some (kCalRead, args) → 4 ≤ args.length → regionOf (byteAt args 0) = some r →
          CalItem.ofCode r (byteAt args 1) = some it → byteAt args 2 < it.size →
        exec (.calRead l) s = .next (putReply l kCalRead
          { result := .done
            data :=
              let n := min (byteAt args 3) (min (it.size - byteAt args 2) (((s.link l).limit.bytes - 4) / (2 * it.width)))
              [byteOf (s.cst.status r), byteOf n]
                ++ ((List.range n).filterMap fun i => s.cst.entryAt it (byteAt args 2 + i)).flatMap fun e =>
                  e.values.flatMap le16 }
          (popRequest l s)))
      ∧ (headRequest l s = some (kReadFaults, args) → 1 ≤ args.length → byteAt args 0 ≤ 4 →
        exec (.readFaults l) s = .next (putReply l kReadFaults
          { result := .done, data := byteOf (byteAt args 0) :: faultSection (popRequest l s) (byteAt args 0) } (popRequest l s)))

/-! ## Link requests -/

/-- SET LINK with a limit of 16, 32 or 64 and a grant of 1, 2, 4 or 8 sets both, makes ungranted entries unused with
their waiting frames withdrawn, keeps granted entries and every other waiting frame in its order, turns the depth
stream off under 16 and 32, and leaves the rest of the link (what is being sent, its receiver, windows, stream, depth
count and number, flags and counters), the other links and every other block alone. -/
def Obligations.SetLinkSetsLimitAndGrant : Prop :=
  ∀ (l : Link) (args : List Byte) (s : State), headRequest l s = some (kSetLink, args) → 2 ≤ args.length →
    byteAt args 0 = 16 ∨ byteAt args 0 = 32 ∨ byteAt args 0 = 64 →
    byteAt args 1 = 1 ∨ byteAt args 1 = 2 ∨ byteAt args 1 = 4 ∨ byteAt args 1 = 8 →
      ∃ ls : LinkState,
        exec (.setLink l) s = .next (putReply l kSetLink
          { result := .done, data := [byteOf (byteAt args 0), byteOf (byteAt args 1)] } (onLink l (fun _ => ls) (popRequest l s)))
        ∧ ls.limit.bytes = byteAt args 0 ∧ ls.notice.grant = byteAt args 1
        ∧ (∀ i : Fin 8, byteAt args 1 ≤ i.val → ls.entry i = {} ∧ TxFrame.notice i ∉ ls.tx)
        ∧ (∀ i : Fin 8, i.val < byteAt args 1 → ls.entry i = (s.link l).entry i)
        ∧ ls.notice.enable = (s.link l).notice.enable ∧ ls.notice.linkMask = (s.link l).notice.linkMask
        ∧ ls.depthPeriod = (if byteAt args 0 = 64 then (s.link l).depthPeriod else 0)
        ∧ ls.rxBuf = (s.link l).rxBuf.drop 1 ∧ ls.stream = (s.link l).stream ∧ ls.rx = (s.link l).rx
        ∧ ls.base0 = (s.link l).base0 ∧ ls.base1 = (s.link l).base1
        ∧ ls = { s.link l with
                 rxBuf := (s.link l).rxBuf.drop 1
                 limit := ls.limit
                 notice := ls.notice
                 depthPeriod := ls.depthPeriod
                 tx := (s.link l).tx.filter fun f =>
                   match f with
                   | .notice i => decide (i.val < byteAt args 1)
                   | _ => true }

/-- CLAIM ROLE: a role that no link holds goes to the link that claims it, with ROLE_CHANGE raised on every link, and
a new TONE link is told of a live soft level not yet sent; a role another link holds is refused with ROLE and nothing
changes; one already held is answered DONE and nothing changes. The reply carries the two holders whatever the result.
At a claim of TONE the two sources' orders follow ROLE_CHANGE, LIVE's first; that order is the model's choice (log
36). -/
def Obligations.ClaimRoleGrantsFreeRole : Prop :=
  (∀ (l : Link) (args : List Byte) (s : State), headRequest l s = some (kClaimRole, args) → 1 ≤ args.length →
      (byteAt args 0 = 1 → s.roles.panel = none →
          exec (.claimRole l) s = .next (putReply l kClaimRole
            { result := .done, data := [byteOf (linkCode s.roles.tone), byteOf (linkCode (some l))] }
            (raiseAll .roleChange { popRequest l s with roles := { s.roles with panel := some l } })))
        ∧ (byteAt args 0 = 0 → s.roles.tone = none → s.pdu.soft.lift = s.vas.softLive.sent → s.ply.soft = s.vas.softPlay.sent →
          exec (.claimRole l) s = .next (putReply l kClaimRole
            { result := .done, data := [byteOf (linkCode (some l)), byteOf (linkCode s.roles.panel)] }
            (raiseAll .roleChange { popRequest l s with roles := { s.roles with tone := some l } })))
        ∧ (byteAt args 0 = 0 → s.roles.tone = none → s.pdu.soft.lift ≠ s.vas.softLive.sent →
            s.ply.soft = s.vas.softPlay.sent → s.vas.queue = [] →
          ∃ t, exec (.claimRole l) s = .next (putReply l kClaimRole
              { result := .done, data := [byteOf (linkCode (some l)), byteOf (linkCode s.roles.panel)] } t)
            ∧ t.roles = { s.roles with tone := some l } ∧ t.vas.queue = [.soft .live s.pdu.soft.lift])
        ∧ (∀ l', l' ≠ l → byteAt args 0 = 0 → s.roles.tone = some l' →
          exec (.claimRole l) s = .next (putReply l kClaimRole
            { result := .role, data := [byteOf (linkCode (some l')), byteOf (linkCode s.roles.panel)] } (popRequest l s)))
        ∧ (∀ l', l' ≠ l → byteAt args 0 = 1 → s.roles.panel = some l' →
          exec (.claimRole l) s = .next (putReply l kClaimRole
            { result := .role, data := [byteOf (linkCode s.roles.tone), byteOf (linkCode (some l'))] } (popRequest l s)))
        ∧ (byteAt args 0 = 0 ∧ s.roles.tone = some l ∨ byteAt args 0 = 1 ∧ s.roles.panel = some l →
          exec (.claimRole l) s = .next (putReply l kClaimRole
            { result := .done, data := [byteOf (linkCode s.roles.tone), byteOf (linkCode s.roles.panel)] } (popRequest l s))))
    ∧ (∀ (l : Link) (args : List Byte) (s : State), headRequest l s = some (kClaimRole, args) → 1 ≤ args.length →
        byteAt args 0 = 0 → s.roles.tone = none →
          exec (.claimRole l) s = .next (putReply l kClaimRole
            { result := .done, data := [byteOf (linkCode (some l)), byteOf (linkCode s.roles.panel)] }
            (softClaimed .playback (softClaimed .live
              (raiseAll .roleChange { popRequest l s with roles := { s.roles with tone := some l } })))))

/-- SET WINDOW clamps a base to 80 and answers both bases. DEPTH STREAM clamps its period to 64 and restarts its
counts, and is refused with STATE when turned on under a limit below 64. SET SCAN LIST writes the carried entries into
the staging list at the start index, keeps its other entries, stores the first index, and with the apply bit makes the
result the pending list. -/
def Obligations.WindowsStreamsAndScanListsSet : Prop :=
  ∀ (l : Link) (args : List Byte) (s : State),
    (headRequest l s = some (kSetWindow, args) → 2 ≤ args.length → byteAt args 0 = 0 →
        ∃ b : Fin 81, b.val = min (byteAt args 1) 80
          ∧ exec (.setWindow l) s = .next (putReply l kSetWindow
              { result := .done, data := [byteOf b.val, byteOf (s.link l).base1.val] }
              (onLink l (fun ls => { ls with base0 := b }) (popRequest l s))))
      ∧ (headRequest l s = some (kSetWindow, args) → 2 ≤ args.length → byteAt args 0 = 1 →
        ∃ b : Fin 81, b.val = min (byteAt args 1) 80
          ∧ exec (.setWindow l) s = .next (putReply l kSetWindow
              { result := .done, data := [byteOf (s.link l).base0.val, byteOf b.val] }
              (onLink l (fun ls => { ls with base1 := b }) (popRequest l s))))
      ∧ (headRequest l s = some (kDepthStream, args) → 1 ≤ args.length → byteAt args 0 = 0 ∨ (s.link l).limit = .b64 →
        exec (.depthStream l) s = .next (putReply l kDepthStream
          { result := .done, data := [byteOf (min (byteAt args 0) 64)] }
          (onLink l (fun ls => { ls with depthPeriod := min (byteAt args 0) 64, depthCount := 0, depthNumber := 0 }) (popRequest l s))))
      ∧ (headRequest l s = some (kDepthStream, args) → 1 ≤ args.length → byteAt args 0 ≠ 0 → (s.link l).limit ≠ .b64 →
        exec (.depthStream l) s = .next (putReply l kDepthStream { result := .state } (popRequest l s)))
      ∧ (∀ (first : Fin 64) (es : List ScanEntry), headRequest l s = some (kSetScanList, args) → 1 ≤ byteAt args 1 →
          byteAt args 1 ≤ 24 → byteAt args 0 + byteAt args 1 ≤ 64 → 4 + 2 * byteAt args 1 ≤ args.length →
          byteAt args 2 = first.val → scanEntriesAt args 4 (byteAt args 1) = some es →
        ∃ list : ScanList, list.first = first
          ∧ (∀ i : Fin 64, list.entries[i] =
              if h : byteAt args 0 ≤ i.val ∧ i.val - byteAt args 0 < es.length then es[i.val - byteAt args 0]
              else s.sfe.staging.entries[i])
          ∧ exec (.setScanList l) s = .next (putReply l kSetScanList { result := .done }
              (onSfe (fun f => { f with staging := list, pendingList := if bitOf args 3 0 then some list else f.pendingList })
                (popRequest l s))))

/-! ## Journal -/

/-- OPEN JOURNAL sets the link's cursor to the oldest held event or to the next number and its threshold clamped to
1…256, raising JOURNAL_READY on that link alone when the unread count is at or above it. READ JOURNAL returns the
smallest of the count, the unread count and what fits, and moves the cursor by that number; with no stream open it is
refused with STATE. -/
def Obligations.JournalStreamOpensAndReads : Prop :=
  ∀ (l : Link) (args : List Byte) (s : State),
    (headRequest l s = some (kOpenJournal, args) → 3 ≤ args.length → byteAt args 0 ≤ 1 →
        let cursor := if byteAt args 0 = 0 then s.ajn.oldest else s.ajn.next
        let st : Stream := { cursor := cursor, threshold := max 1 (min (word16At args 1) 256) }
        exec (.openJournal l) s = .next (putReply l kOpenJournal
          { result := .done, data := le32 cursor.toNat ++ le16 (unread s.ajn.next cursor) }
          (onLink l (fun ls =>
            if st.threshold ≤ unread s.ajn.next cursor then LinkState.raise .journalReady { ls with stream := some st }
            else { ls with stream := some st }) (popRequest l s))))
      ∧ (∀ st : Stream, headRequest l s = some (kReadJournal, args) → 1 ≤ args.length → (s.link l).stream = some st →
        let n := min (byteAt args 0) (min (unread s.ajn.next st.cursor) (((s.link l).limit.bytes - 4) / 12))
        exec (.readJournal l) s = .next (putReply l kReadJournal
          { result := .done
            data := [byteOf n, byteOf (min (unread s.ajn.next st.cursor - n) 255)]
              ++ ((s.ajn.eventsFrom st.cursor).take n).flatMap JournalEvent.bytes }
          (onLink l (fun ls => { ls with stream := some { st with cursor := st.cursor + BitVec.ofNat 32 n } }) (popRequest l s))))
      ∧ (headRequest l s = some (kReadJournal, args) → 1 ≤ args.length → (s.link l).stream = none →
        exec (.readJournal l) s = .next (putReply l kReadJournal { result := .state } (popRequest l s)))

/-- In a sound journal the events held from a stream's cursor on are exactly the unread ones, and event j of them
carries the sequence number cursor plus j. -/
def Obligations.StreamReadsAscendingNumbers : Prop :=
  ∀ (l : Link) (st : Stream) (s : State), JournalSound s → (s.link l).stream = some st →
    (s.ajn.eventsFrom st.cursor).length = unread s.ajn.next st.cursor
      ∧ ∀ j e, (s.ajn.eventsFrom st.cursor)[j]? = some e → e.seq = st.cursor + BitVec.ofNat 32 j

/-- An append gives the event the next sequence number and puts it behind the others, which stay as they are; a full
ring of 512 loses its oldest; a stream whose cursor named that event moves up by one with one more lost event counted
and JOURNAL_OVERRUN set, and every other stream keeps its cursor. Nothing but the journal and the links changes. -/
def Obligations.AppendNumbersAndOverwrites : Prop :=
  (∀ (e : Event) (s : State), s.ajn.ring.length ≤ 512 →
      (appendEvent e s).ajn.next = s.ajn.next + 1
        ∧ (appendEvent e s).ajn.ring.getLast? = some { seq := s.ajn.next, event := e }
        ∧ (s.ajn.ring.length < 512 → (appendEvent e s).ajn.ring.length = s.ajn.ring.length + 1
            ∧ ∀ l, ((appendEvent e s).link l).stream = (s.link l).stream ∧ ((appendEvent e s).link l).lost = (s.link l).lost)
        ∧ (s.ajn.ring.length = 512 → (appendEvent e s).ajn.ring.length = 512
            ∧ ∀ l st, (s.link l).stream = some st →
              (st.cursor = s.ajn.oldest →
                ((appendEvent e s).link l).stream = some { st with cursor := st.cursor + 1 }
                  ∧ ((appendEvent e s).link l).lost = min ((s.link l).lost + 1) 65535
                  ∧ ((appendEvent e s).link l).overrunFlag = true)
              ∧ (st.cursor ≠ s.ajn.oldest → ((appendEvent e s).link l).stream = some st
                  ∧ ((appendEvent e s).link l).lost = (s.link l).lost)))
    ∧ (∀ (e : Event) (s : State), s.ajn.ring.length ≤ 512 →
        (appendEvent e s).ajn.ring =
            (if s.ajn.ring.length = 512 then s.ajn.ring.drop 1 else s.ajn.ring) ++ [{ seq := s.ajn.next, event := e }]
          ∧ appendEvent e s = { s with ajn := (appendEvent e s).ajn, links := (appendEvent e s).links })

/-! ## Voices -/

/-- SET LAYERS with four acceptable entries replaces the layer list and nothing else; the sounding voices are kept,
and the reply carries the entries as stored. A strike without the GUIDE flag is taken layer by layer while a link
holds TONE. A layer that takes it refuses the voice when 48 orders wait, counted and raised; otherwise it re-triggers
the slot of the same key, source and layer, or starts the lowest FREE slot, or steals the oldest DAMPED, else the
oldest whose key is not held, else the oldest slot: the generation and the start counter move on, VOICE START joins
the queue behind what waits (where no damp of the generation to come does), and the voice has its layer's level and
follows flag and the applied lift of the moment; every other slot stays. A slot of the same key, source and layer is
found whenever there is one, a FREE slot whenever there is one, and a slot to steal whenever a slot that is not FREE
has not been taken for the strike yet. -/
def Obligations.SetLayersReplacesList : Prop :=
  ((∀ (l : Link) (args : List Byte) (y0 y1 y2 y3 : Layer) (s : State),
        headRequest l s = some (kSetLayers, args) → 20 ≤ args.length →
        layerAt args 0 = some y0 → layerAt args 5 = some y1 → layerAt args 10 = some y2 → layerAt args 15 = some y3 →
          exec (.setLayers l) s = .next (putReply l kSetLayers
            { result := .done, data := y0.bytes ++ y1.bytes ++ y2.bytes ++ y3.bytes }
            (onVas (fun va => { va with layers := #v[y0, y1, y2, y3] }) (popRequest l s))))
      ∧ (∀ (e : Event) (k : Key) (s : State), e.key = some k.val → e.kind = .strike ∨ e.kind = .restrike →
          (e.flags.guide = false → s.roles.tone ≠ none →
              voiceEvent e s = ((List.finRange 4).foldl (strikeLayer k e.source e.value) (s, [])).1)
            ∧ (e.flags.guide = true ∨ s.roles.tone = none → voiceEvent e s = s))
      ∧ (∀ (k : Key) (src : Source) (value : Nat) (used : List Slot) (li : Fin 4) (s : State),
          let y := s.vas.layers[li]
          let takes := y.enabled = true ∧ y.low ≤ k ∧ k ≤ y.high
            ∧ (y.filter = .both ∨ y.filter = (match src with | .live => .live | .playback => .playback))
            ∧ (src = .playback ∨ soundRoute s = .silent ∨ y.acoustic = true)
          let level := max 1 (min (value * y.trim / 100) 1023)
          (¬takes → strikeLayer k src value (s, used) li = (s, used))
            ∧ (takes → 48 ≤ s.vas.queue.length → strikeLayer k src value (s, used) li =
                (raiseAll .voiceAttention (reportFault .voiceRefused
                  { s with faults := { s.faults with refused := min (s.faults.refused + 1) 65535 } }), used))
            ∧ (∀ (n : Slot) (retrigger steal : Bool), takes → s.vas.queue.length < 48 →
                (sameVoiceSlot s k src li = some n ∧ retrigger = true ∧ steal = false)
                  ∨ (sameVoiceSlot s k src li = none ∧ freeSlot s = some n ∧ retrigger = false ∧ steal = false)
                  ∨ (sameVoiceSlot s k src li = none ∧ freeSlot s = none ∧ victim s used = some n ∧ retrigger = false ∧ steal = true) →
                ∃ (t : State) (v : Voice), strikeLayer k src value (s, used) li = (t, n :: used)
                  ∧ (s.vas.queue.any (VoiceOrder.isDampOf n ((s.slot n).gen + 1)) = false →
                      s.vas.queue ++ [.start n ((s.slot n).gen + 1) k y.program level src retrigger steal] <+: t.vas.queue)
                  ∧ t.vas.startCounter = s.vas.startCounter + 1 ∧ t.vas.layers = s.vas.layers
                  ∧ (t.slot n).gen = (s.slot n).gen + 1 ∧ (t.slot n).voice = some v
                  ∧ v.key = k ∧ v.source = src ∧ v.layer = li ∧ v.follows = y.follows ∧ v.level = level
                  ∧ v.startOrder = s.vas.startCounter ∧ v.applied = appliedLift s v ∧ v.damped = (v.applied == 0)
                  ∧ (∀ m, m ≠ n → t.slot m = s.slot m)
                  ∧ t.faults = { s.faults with steals := if steal then min (s.faults.steals + 1) 65535 else s.faults.steals }
                  ∧ t = { s with vas := t.vas, links := t.links, faults := t.faults }))
      ∧ (∀ (s : State),
          (∀ n, freeSlot s = some n → (s.slot n).voice = none ∧ ∀ m < n, (s.slot m).voice ≠ none)
            ∧ (∀ k src li n, sameVoiceSlot s k src li = some n →
                ∃ v, (s.slot n).voice = some v ∧ v.key = k ∧ v.source = src ∧ v.layer = li)
            ∧ (∀ (used : List Slot) (n : Slot), victim s used = some n →
                let rank := fun w : Voice =>
                  if w.damped then 0
                  else match w.source with
                    | .live => if (s.key w.key).state = .up then 1 else 2
                    | .playback => if s.ply.keys.has w.key then 2 else 1
                n ∉ used ∧ ∃ v, (s.slot n).voice = some v
                  ∧ ∀ m w, m ∉ used → (s.slot m).voice = some w →
                    rank v < rank w ∨ (rank v = rank w ∧ voiceAge s w ≤ voiceAge s v))))
    ∧ (∀ s : State,
        (freeSlot s = none ↔ ∀ n, (s.slot n).voice ≠ none)
          ∧ (∀ k src li, sameVoiceSlot s k src li = none ↔
              ¬∃ n v, (s.slot n).voice = some v ∧ v.key = k ∧ v.source = src ∧ v.layer = li)
          ∧ (∀ used : List Slot, victim s used = none ↔ ∀ n, (s.slot n).voice ≠ none → n ∈ used))

/-- VOICE ENDED of one pair from the TONE link frees the slot, its generation kept, when it is not FREE and the
generation is its own; otherwise the report is stale, is counted and raised once, and the slot is left. For any list
of pairs, a slot changed by the request was not FREE, held exactly a generation reported, and is now FREE. -/
def Obligations.VoiceEndedFreesMatchingSlots : Prop :=
  (∀ (l : Link) (n : Slot) (g : Byte) (s : State),
      headRequest l s = some (kVoiceEnded, [byteOf n.val, g]) → s.roles.tone = some l →
        (∀ v, (s.slot n).voice = some v → (s.slot n).gen = g →
            exec (.voiceEnded l) s = .next (putReply l kVoiceEnded { result := .done, data := [1, 0] }
              (setSlot n { gen := g, stale := false, voice := none } (popRequest l s))))
          ∧ ((s.slot n).voice = none ∨ (s.slot n).gen ≠ g →
            exec (.voiceEnded l) s = .next (putReply l kVoiceEnded { result := .done, data := [0, 1] }
              (raiseAll .staleEnded (reportFault .staleEnded
                { popRequest l s with faults := { s.faults with stale := min (s.faults.stale + 1) 65535 } })))))
    ∧ (∀ (l : Link) (args : List Byte) (s t : State), headRequest l s = some (kVoiceEnded, args) →
        exec (.voiceEnded l) s = .next t →
          ∀ n : Slot, t.slot n = s.slot n
            ∨ (t.slot n = { gen := (s.slot n).gen, stale := false, voice := none }
                ∧ (n.val, (s.slot n).gen) ∈ endedPairs args ∧ (s.slot n).voice ≠ none))

/-- VOICE_ORDER_DRAIN moves as many orders from the head of the queue as the limit lets one frame carry into a VOICE
ORDER frame at the tail of the TONE link's transmit queue; the orders behind keep their order, and nothing but links
and the voice assigner changes. Behind them stale damps join, lowest slot first, while fewer than 32 orders wait. A
recomputed slot takes the applied lift its key, pedals and sets give, is DAMPED at 0, and has a VOICE DAMP called for
by the damp step, at an end, or when stale: replaced in place where one of its generation waits, else queued, else
dropped with the slot stale. A change recomputes exactly the slots it bears on: of a key's lift, its LIVE slots; of
the live sostenuto set, the LIVE slots of the keys that joined or left; of the DAMPER lift, every LIVE slot; of the
playback key or sostenuto set, the PLAYBACK slots of the keys that joined or left; of the playback damper lift, every
PLAYBACK slot; any other slot stays, and a value that stays changes nothing. A change of a source's soft level, while
a link holds TONE, queues VOICE SOFT when called for (by the damp step, at an end, or when soft-stale) and fewer than
48 orders wait; with 48 waiting it is dropped with soft-stale set; else nothing happens. A claim of TONE does so for a
level that differs from the last sent. -/
def Obligations.DrainBuildsOneFrame : Prop :=
  (((∀ (l : Link) (s : State), s.phase = .running → s.roles.tone = some l → s.vas.queue ≠ [] →
          (s.link l).ordersWaiting = false → (s.link l).placeFree = true →
            ∃ t, exec .voiceOrderDrain s = .next t
              ∧ (t.link l).tx = (s.link l).tx ++ [.voiceOrders
                  ([0x71, byteOf (min (((s.link l).limit.bytes - 2) / 8) s.vas.queue.length)]
                    ++ (s.vas.queue.take (((s.link l).limit.bytes - 2) / 8)).flatMap VoiceOrder.bytes)]
              ∧ s.vas.queue.drop (((s.link l).limit.bytes - 2) / 8) <+: t.vas.queue
              ∧ t = { s with links := t.links, vas := t.vas }
              ∧ (let rest := s.vas.queue.drop (((s.link l).limit.bytes - 2) / 8)
                let stale := ((List.finRange 128).filter fun n => (s.slot n).stale && (s.slot n).voice.isSome).take (32 - rest.length)
                t.vas.queue = rest ++ stale.filterMap (fun n => (s.slot n).voice.map fun v => .damp n (s.slot n).gen v.applied)
                  ∧ ∀ n, t.slot n = if n ∈ stale then
                      { s.slot n with stale := false, voice := (s.slot n).voice.map fun v => { v with lastSent := v.applied } }
                    else s.slot n))
        ∧ (∀ (n : Slot) (v : Voice) (s : State), (s.slot n).voice = some v →
            let sl := s.slot n
            let x := appliedLift s v
            let v' : Voice := { v with applied := x, damped := x == 0 }
            let called := s.cst.user.working.dampStep ≤ x - v.lastSent ∨ s.cst.user.working.dampStep ≤ v.lastSent - x
              ∨ ((x = 0 ∨ x = 255) ∧ x ≠ v.lastSent) ∨ sl.stale = true
            (¬called → recomputeSlot n s = setSlot n { sl with voice := some v' } s)
              ∧ (called → s.vas.queue.any (VoiceOrder.isDampOf n sl.gen) = true →
                recomputeSlot n s = setSlot n { sl with stale := false, voice := some { v' with lastSent := x } }
                  (onVas (fun va => { va with queue := va.queue.map fun o => if o.isDampOf n sl.gen then o.withLift x else o }) s))
              ∧ (called → s.vas.queue.any (VoiceOrder.isDampOf n sl.gen) = false → s.vas.queue.length < 48 →
                recomputeSlot n s =
                  queueOrder (.damp n sl.gen x) (setSlot n { sl with stale := false, voice := some { v' with lastSent := x } } s))
              ∧ (called → s.vas.queue.any (VoiceOrder.isDampOf n sl.gen) = false → 48 ≤ s.vas.queue.length →
                recomputeSlot n s = setSlot n { sl with stale := true, voice := some v' } s))
        ∧ (∀ (v : Voice) (s : State), appliedLift s v =
            if v.follows = false then 255
            else match v.source with
              | .live => max (max (s.key v.key).lift (if s.pdu.sostSet.has v.key then 255 else 0)) s.pdu.damper.lift
              | .playback =>
                max (max (if s.ply.keys.has v.key then 255 else 0) (if s.ply.sostSet.has v.key then 255 else 0)) s.ply.damper)
        ∧ (∀ (p : Voice → Bool) (n : Slot) (s : State), (∀ v w : Voice, v.key = w.key → v.source = w.source → p v = p w) →
            (∀ v, (s.slot n).voice = some v → p v = true →
                ∃ w, ((recomputeWhere p s).slot n).voice = some w ∧ w.applied = appliedLift s v ∧ w.damped = (w.applied == 0)
                  ∧ w.key = v.key ∧ w.source = v.source ∧ w.layer = v.layer ∧ w.level = v.level ∧ w.startOrder = v.startOrder
                  ∧ ((recomputeWhere p s).slot n).gen = (s.slot n).gen)
              ∧ ((∀ v, (s.slot n).voice = some v → p v = false) → (recomputeWhere p s).slot n = s.slot n)))
      ∧ (let follows : (Voice → Prop) → State → State → Prop := fun p u t =>
          t = { u with vas := t.vas, links := t.links }
            ∧ ∀ n, (∀ v, (u.slot n).voice = some v → p v →
                  ∃ w, (t.slot n).voice = some w ∧ w.applied = appliedLift u v ∧ w.damped = (w.applied == 0)
                    ∧ w.key = v.key ∧ w.source = v.source ∧ w.layer = v.layer ∧ w.level = v.level ∧ w.startOrder = v.startOrder
                    ∧ (t.slot n).gen = (u.slot n).gen)
              ∧ ((∀ v, (u.slot n).voice = some v → ¬p v) → t.slot n = u.slot n)
        ∀ s : State,
          (∀ (k : Key) (x : Nat),
              (x = (s.key k).lift → setKeyLift k x s = s)
                ∧ (x ≠ (s.key k).lift →
                  follows (fun v => v.source = .live ∧ v.key = k) (onKey k (fun r => { r with lift := x }) s) (setKeyLift k x s)))
            ∧ (∀ S : KeySet,
              (S = s.pdu.sostSet → setSostSet S s = s)
                ∧ (S ≠ s.pdu.sostSet →
                  follows (fun v => v.source = .live ∧ s.pdu.sostSet.has v.key ≠ S.has v.key)
                    { s with pdu := { s.pdu with sostSet := S } } (setSostSet S s)))
            ∧ (∀ x : Nat,
              (x = s.pdu.damper.lift → setPedalLift .damper x s = s)
                ∧ (x ≠ s.pdu.damper.lift →
                  follows (fun v => v.source = .live)
                    { s with pdu := { s.pdu with damper := { s.pdu.damper with lift := x } } } (setPedalLift .damper x s)))
            ∧ (∀ S : KeySet,
              (S = s.ply.keys → setPlayKeys S s = s)
                ∧ (S ≠ s.ply.keys →
                  follows (fun v => v.source = .playback ∧ s.ply.keys.has v.key ≠ S.has v.key)
                    { s with ply := { s.ply with keys := S } } (setPlayKeys S s)))
            ∧ (∀ (on : Bool) (S : KeySet),
              (S = s.ply.sostSet → setPlaySost on S s = { s with ply := { s.ply with sostOn := on } })
                ∧ (S ≠ s.ply.sostSet →
                  follows (fun v => v.source = .playback ∧ s.ply.sostSet.has v.key ≠ S.has v.key)
                    { s with ply := { s.ply with sostOn := on, sostSet := S } } (setPlaySost on S s)))
            ∧ (∀ x : Nat,
              (x = s.ply.damper → setPlayDamper x s = s)
                ∧ (x ≠ s.ply.damper →
                  follows (fun v => v.source = .playback) { s with ply := { s.ply with damper := x } } (setPlayDamper x s)))))
    ∧ (∀ (src : Source) (s : State),
        let x := match src with
          | .live => s.pdu.soft.lift
          | .playback => s.ply.soft
        let k := match src with
          | .live => s.vas.softLive
          | .playback => s.vas.softPlay
        let put := fun (z : SoftTrack) (q : List VoiceOrder) => { s with
          vas := match src with
            | .live => { s.vas with softLive := z, queue := q }
            | .playback => { s.vas with softPlay := z, queue := q } }
        let step := s.cst.user.working.dampStep
        let called := step ≤ x - k.sent ∨ step ≤ k.sent - x ∨ ((x = 0 ∨ x = 255) ∧ x ≠ k.sent) ∨ k.stale = true
        let queued := put { sent := x, stale := false } (s.vas.queue ++ [.soft src x])
        let joined := if s.vas.queue.length = 39 then raiseAll .voiceAttention queued else queued
        let dropped := put { k with stale := true } s.vas.queue
        (s.roles.tone = none ∨ ¬called → softChanged src s = s)
          ∧ (s.roles.tone ≠ none → called → s.vas.queue.length < 48 → softChanged src s = joined)
          ∧ (s.roles.tone ≠ none → called → 48 ≤ s.vas.queue.length → softChanged src s = dropped)
          ∧ (x = k.sent → softClaimed src s = s)
          ∧ (x ≠ k.sent → s.vas.queue.length < 48 → softClaimed src s = joined)
          ∧ (x ≠ k.sent → 48 ≤ s.vas.queue.length → softClaimed src s = dropped))
    ∧ (∀ (x : Nat) (s : State),
        (x = s.pdu.soft.lift → setPedalLift .soft x s = s)
          ∧ (x ≠ s.pdu.soft.lift →
            setPedalLift .soft x s = softChanged .live { s with pdu := { s.pdu with soft := { s.pdu.soft with lift := x } } })
          ∧ (x = s.ply.soft → setPlaySoft x s = s)
          ∧ (x ≠ s.ply.soft → setPlaySoft x s = softChanged .playback { s with ply := { s.ply with soft := x } }))

/-! ## Rail -/

/-- RAIL DEMAND always leaves the link's membership as asked and answers the rail state and demand set; a membership
that leaves the target as it is changes nothing else, nor does a change of target in UNKNOWN, HOMING or FAULT, in a
retreat, or toward where the rail stands or goes. CLOSING and OPENING turn round with no quiet test and no minimum-
travel check. At OPEN or BLOCKED the move starts when the action is quiet, with the check on, and the rail waits there
otherwise. A wait whose target comes back to its side ends there, or moves there with the check off after a retreat
that did not stall; a delay whose target comes back to the origin ends there after a retreat that stalled, or moves
there. RAIL RECOVER in FAULT enters UNKNOWN with the obstruction count 0, by a RAIL event of code 0 and RAIL_STATE,
and tests for quiet at that moment: a quiet action starts HOMING toward OPEN with the check off, by a further RAIL
event of code 1. In any other state it is refused with STATE. That the row RAIL_HOMING_START makes the same test again
is the model's choice (log 17). -/
def Obligations.RailRequestsMoveRail : Prop :=
  ∀ (l : Link) (args : List Byte) (s : State),
    (headRequest l s = some (kRailDemand, args) → 1 ≤ args.length → byteAt args 0 ≤ 1 →
        let dem := s.rlc.demand.setLink l (byteAt args 0 == 1)
        let toBlocked := s.rlc.demand.any = false ∧ dem.any = true
        let toOpen := s.rlc.demand.any = true ∧ dem.any = false
        let kept : Rlc := { s.rlc with demand := dem }
        let moves := fun (side : Side) (check : Bool) =>
          { kept with state := if side = .openEnd then .opening else .closing, leg := some (newLeg side check s) }
        let stands := fun side : Side => if side = .openEnd then RailState.openState else .blocked
        let waits := fun side : Side =>
          { kept with state := .waiting { side := side, start := s.clock, held := false, retreatStalled := none, stopped := false } }
        ∃ t, exec (.railDemand l) s = .next (putReply l kRailDemand
            { result := .done
              data := [byteOf t.rlc.state.code,
                byteOf (dem.bits + if dem.any then 32 else 0)] } t)
          ∧ t.rlc.demand = dem
          ∧ (dem.any = s.rlc.demand.any → t = onRlc (fun r => { r with demand := dem }) (popRequest l s))
          ∧ (s.rlc.state = .unknown ∨ s.rlc.state = .homing ∨ s.rlc.state = .fault
                ∨ (s.rlc.state = .openState ∧ toOpen) ∨ (s.rlc.state = .blocked ∧ toBlocked)
                ∨ (s.rlc.state = .closing ∧ toBlocked) ∨ (s.rlc.state = .opening ∧ toOpen) →
              t = onRlc (fun r => { r with demand := dem }) (popRequest l s))
          ∧ (toOpen → s.rlc.state = .closing → t.rlc = moves .openEnd false)
          ∧ (toBlocked → s.rlc.state = .opening → t.rlc = moves .blockedEnd false)
          ∧ (toBlocked → s.rlc.state = .openState → quietTest s = true → t.rlc = moves .blockedEnd true)
          ∧ (toBlocked → s.rlc.state = .openState → quietTest s = false → t.rlc = waits .openEnd)
          ∧ (toOpen → s.rlc.state = .blocked → quietTest s = true → t.rlc = moves .openEnd true)
          ∧ (toOpen → s.rlc.state = .blocked → quietTest s = false → t.rlc = waits .blockedEnd)
          ∧ (∀ w, s.rlc.state = .waiting w →
              ((toBlocked ∧ w.side = .blockedEnd) ∨ (toOpen ∧ w.side = .openEnd) →
                  (w.retreatStalled = some false → t.rlc = moves w.side false)
                    ∧ (w.retreatStalled ≠ some false → t.rlc = { kept with state := stands w.side }))
                ∧ ((toBlocked ∧ w.side = .openEnd) ∨ (toOpen ∧ w.side = .blockedEnd) → t.rlc = kept))
          ∧ (∀ b, s.rlc.state = .backoff b →
              (∀ ms, b.phase = .retreat ms → t.rlc = kept)
                ∧ (∀ ms stalled, b.phase = .delay ms stalled →
                  ((toBlocked ∧ b.origin = .blockedEnd) ∨ (toOpen ∧ b.origin = .openEnd) →
                      (stalled = false → t.rlc = moves b.origin false)
                        ∧ (stalled = true → t.rlc = { kept with state := stands b.origin, leg := none, obstructions := 0 }))
                    ∧ ((toBlocked ∧ b.origin = .openEnd) ∨ (toOpen ∧ b.origin = .blockedEnd) → t.rlc = kept))))
      ∧ (headRequest l s = some (kRailRecover, args) → s.rlc.state = .fault →
        let event := fun v : Nat => ({ time := s.clock, kind := .rail, source := .live, key := none, value := v } : Event)
        (quietTest s = false →
            exec (.railRecover l) s = .next (putReply l kRailRecover { result := .done }
              (raiseAll .railState (appendEvent (event 0)
                (onRlc (fun r => { r with obstructions := 0, state := .unknown }) (popRequest l s))))))
          ∧ (quietTest s = true →
            ∃ t, exec (.railRecover l) s = .next (putReply l kRailRecover { result := .done } t)
              ∧ t.rlc = { s.rlc with obstructions := 0, state := .homing, leg := some (newLeg .openEnd false s) }
              ∧ t.ajn = (s.ajn.push (event 0)).push (event 1)
              ∧ t = { s with rlc := t.rlc, ajn := t.ajn, links := t.links }))
      ∧ (headRequest l s = some (kRailRecover, args) → s.rlc.state ≠ .fault →
        exec (.railRecover l) s = .next (putReply l kRailRecover { result := .state } (popRequest l s)))

/-- A change of the SILENT input is stored with its time, and when it has stood 20 ms the lever level follows it,
LEVER joining or leaving the demand set as the lever mode says. Before a leg's blanking ends, and with the drive off,
the current starts no run; the blanking's end starts one if the current is already above the leg's threshold of (code
+ 1) × 12 mA; afterwards a rise above it starts a run, a current that stays above keeps it, and a fall ends it. That a
current exactly at the threshold is not above it is the model's reading (log 42). -/
def Obligations.RailInputsFollowed : Prop :=
  ∀ (level : Bool) (current : Nat) (s : State),
    (level ≠ s.rlc.silentLow →
        exec (.silentInputChange level) s = .next (onRlc (fun r => { r with silentLow := level, silentSince := s.clock }) s))
      ∧ (s.phase = .running → s.rlc.silentLow ≠ s.rlc.leverLow → 20000 ≤ elapsed s.clock s.rlc.silentSince →
        ∃ t, exec .leverDebounceExpiry s = .next t ∧ t.rlc.leverLow = s.rlc.silentLow
          ∧ t.rlc.demand = { s.rlc.demand with lever := s.rlc.silentLow && s.cst.factory.working.option.leverDemand })
      ∧ ((∀ lg, s.rlc.leg = some lg → lg.blanked = false) →
        exec (.railCurrentChange current) s = .next (onRlc (fun r => { r with current := current }) s))
      ∧ (∀ lg, s.rlc.leg = some lg → lg.blanked = true → (lg.params.threshold + 1) * 12 < current → lg.run = none →
        exec (.railCurrentChange current) s = .next (onRlc (fun r =>
          { r with current := current, leg := some { lg with run := some s.clock } }) s))
      ∧ (∀ lg t0, s.rlc.leg = some lg → lg.blanked = true → (lg.params.threshold + 1) * 12 < current → lg.run = some t0 →
        exec (.railCurrentChange current) s = .next (onRlc (fun r => { r with current := current }) s))
      ∧ (∀ lg, s.rlc.leg = some lg → lg.blanked = true → current ≤ (lg.params.threshold + 1) * 12 →
        exec (.railCurrentChange current) s = .next (onRlc (fun r =>
          { r with current := current, leg := some { lg with run := none } }) s))
      ∧ (∀ lg, s.rlc.leg = some lg → s.phase = .running → lg.blanked = false →
          lg.params.blankingMs * 1000 ≤ elapsed s.clock lg.start →
        exec .inrushBlankingEnd s = .next (onRlc (fun r =>
          { r with leg := some { lg with
                     blanked := true
                     run := if (lg.params.threshold + 1) * 12 < s.rlc.current then some s.clock else none } }) s))

/-- With a quiet action the rail homes from UNKNOWN with no minimum-travel check, and a waiting rail starts its move
toward the other end with the check on; no other field of the rail record changes. The action is quiet when sensing
has been seen and every key with both channels HEALTHY has its hammer READY and below the clear height. A test made
where a key or the sensing-seen flag changes starts the waiting move there, with its RAIL event: each hammer sample
ends in one, and so does the first frame end. -/
def Obligations.QuietActionStartsDrive : Prop :=
  (∀ s : State, s.phase = .running → quietTest s = true →
      (s.rlc.state = .unknown →
          ∃ t, exec .railHomingStart s = .next t
            ∧ t.rlc = { s.rlc with state := .homing, leg := some (newLeg .openEnd false s) })
        ∧ (∀ w, s.rlc.state = .waiting w → w.side = .openEnd →
          ∃ t, exec .railQuietMoveStart s = .next t
            ∧ t.rlc = { s.rlc with state := .closing, leg := some (newLeg .blockedEnd true s) })
        ∧ (∀ w, s.rlc.state = .waiting w → w.side = .blockedEnd →
          ∃ t, exec .railQuietMoveStart s = .next t
            ∧ t.rlc = { s.rlc with state := .opening, leg := some (newLeg .openEnd true s) }))
    ∧ (∀ s : State, quietTest s = true ↔ s.rlc.sensingSeen = true ∧ ∀ k, (s.key k).depthFailed = true ∨ (s.key k).hammerFailed = true
        ∨ ((s.key k).hammer = .ready ∧ (s.key k).height < s.cst.user.working.hammer.clearHeight))
    ∧ (∀ s : State,
        (quietTest s = true → s.rlc.state = .unknown →
            (quietMove s).rlc = { s.rlc with state := .homing, leg := some (newLeg .openEnd false s) })
          ∧ (∀ w, quietTest s = true → s.rlc.state = .waiting w →
            (quietMove s).rlc = { s.rlc with state := movingState w.side.other, leg := some (newLeg w.side.other true s) })
          ∧ (quietTest s = true → s.rlc.state = .unknown ∨ (∃ w, s.rlc.state = .waiting w) →
            (quietMove s).ajn = s.ajn.push
              { time := s.clock, kind := .rail, source := .live, key := none, value := (quietMove s).rlc.state.code })
          ∧ (quietTest s = false ∨ (s.rlc.state ≠ .unknown ∧ ∀ w, s.rlc.state ≠ .waiting w) → quietMove s = s))
    ∧ (∀ (k : Key) (time : Clock) (raw : Nat) (s : State), s.sfe.hammerCh[k].failed = false → 40 ≤ raw → raw ≤ 4055 →
        ∃ u, convertHammer k time raw s = quietMove u ∧ u.rlc = s.rlc
          ∧ (u.key k).height = normalise (s.cst.factory.working.keySensor[k]).hammerRest (s.cst.factory.working.keySensor[k]).hammerTop raw)
    ∧ (∀ s : State, s.rlc.sensingSeen = false →
        ∃ u, frameEnd s = quietMove u ∧ u.rlc = { s.rlc with sensingSeen := true } ∧ u.keys = s.keys)

/-- A stall in CLOSING or OPENING with the check off, or at the minimum travel or beyond, is an arrival: travel time
stored, count cleared, the end state entered, where the rail stays if the target is there. Below the minimum travel it
is an obstruction: the count rises, and with attempts left the rail backs off by a leg toward its origin, with none
left it goes to FAULT with RAIL_OBSTRUCTED. A stall in HOMING arrives at OPEN. A stall in a retreat with the target
away goes into the delay with the stalled flag set. -/
def Obligations.StallIsArrivalOrObstruction : Prop :=
  ∀ (lg : Leg) (t0 : Clock) (s : State), s.phase = .running →
    s.rlc.leg = some lg → lg.run = some t0 → lg.params.filterUs ≤ elapsed s.clock t0 →
      (∀ side, s.rlc.state = movingState side → lg.toward = side →
          (lg.minCheck = false ∨ lg.params.minTravelMs * 1000 ≤ elapsed s.clock lg.start → target s = side →
              ∃ t, exec .stall s = .next t
                ∧ t.rlc = { s.rlc with state := endState side, leg := none, obstructions := 0, lastTravelMs := some (elapsed s.clock lg.start / 1000) })
            ∧ (lg.minCheck = true → elapsed s.clock lg.start < lg.params.minTravelMs * 1000 →
                s.rlc.obstructions + 1 < s.cst.user.working.rail.attempts →
              ∃ t, exec .stall s = .next t ∧ t.faults = s.faults
                ∧ t.rlc = { s.rlc with
                    state := .backoff { phase := .retreat s.cst.user.working.rail.backoffMs, origin := side.other, start := s.clock }
                    obstructions := s.rlc.obstructions + 1
                    leg := some (newLeg side.other false s) })
            ∧ (lg.minCheck = true → elapsed s.clock lg.start < lg.params.minTravelMs * 1000 →
                s.cst.user.working.rail.attempts ≤ s.rlc.obstructions + 1 →
              ∃ t, exec .stall s = .next t
                ∧ t.rlc = { s.rlc with state := .fault, leg := none, obstructions := s.rlc.obstructions + 1 }
                ∧ t.faults.flags.getLsbD 4 = true))
        ∧ (s.rlc.state = .homing → lg.toward = .openEnd → target s = .openEnd →
            ∃ t, exec .stall s = .next t
              ∧ t.rlc = { s.rlc with state := .openState, leg := none, obstructions := 0, lastTravelMs := some (elapsed s.clock lg.start / 1000) })
        ∧ (∀ b ms, s.rlc.state = .backoff b → b.phase = .retreat ms → target s ≠ b.origin →
            exec .stall s = .next (onRlc (fun r =>
              { r with leg := none
                       state := .backoff { b with phase := .delay s.cst.user.working.rail.retryMs true, start := s.clock } }) s))

/-- A leg of HOMING, CLOSING or OPENING at its maximum travel goes to FAULT with RAIL_TIMEOUT. A retreat at its
backoff time goes into the delay with its flag clear when the target is away from the origin, and starts the origin-
ward move with no check when it is there. A delay at its end starts the next attempt toward the target when the action
is quiet, and waits at the origin otherwise. A wait of 2 s raises RAIL_HELD once. -/
def Obligations.RailTimesEnd : Prop :=
  ∀ s : State, s.phase = .running →
    (∀ lg, s.rlc.leg = some lg → s.rlc.state = .homing ∨ s.rlc.state = .closing ∨ s.rlc.state = .opening →
        lg.params.maxTravelMs * 1000 ≤ elapsed s.clock lg.start →
        ∃ t, exec .maximumTravelTimeout s = .next t ∧ t.rlc = { s.rlc with state := .fault, leg := none }
          ∧ t.faults.flags.getLsbD 5 = true)
      ∧ (∀ b ms, s.rlc.state = .backoff b → b.phase = .retreat ms → ms * 1000 ≤ elapsed s.clock b.start →
          target s ≠ b.origin →
        exec .backoffTimeEnd s = .next (onRlc (fun r =>
          { r with leg := none
                   state := .backoff { b with phase := .delay s.cst.user.working.rail.retryMs false, start := s.clock } }) s))
      ∧ (∀ b ms, s.rlc.state = .backoff b → b.phase = .retreat ms → ms * 1000 ≤ elapsed s.clock b.start →
          target s = b.origin →
        ∃ t, exec .backoffTimeEnd s = .next t
          ∧ t.rlc = { s.rlc with state := movingState b.origin, leg := some (newLeg b.origin false s) })
      ∧ (∀ b ms f, s.rlc.state = .backoff b → b.phase = .delay ms f → ms * 1000 ≤ elapsed s.clock b.start →
          quietTest s = true →
        ∃ t, exec .retryDelayEnd s = .next t
          ∧ t.rlc = { s.rlc with state := movingState (target s), leg := some (newLeg (target s) true s) })
      ∧ (∀ b ms f, s.rlc.state = .backoff b → b.phase = .delay ms f → ms * 1000 ≤ elapsed s.clock b.start →
          quietTest s = false →
        ∃ t, exec .retryDelayEnd s = .next t
          ∧ t.rlc = { s.rlc with state := .waiting { side := b.origin, start := s.clock, held := false, retreatStalled := some f, stopped := false } })
      ∧ (∀ w, s.rlc.state = .waiting w → w.held = false → 2000000 ≤ elapsed s.clock w.start →
        exec .railHeld s = .next (raiseAll .railHeld (onRlc (fun r => { r with state := .waiting { w with held := true } }) s)))

/-! ## Takes -/

/-- TAKE RECORD on an EMPTY take while none is being written makes it RECORDING with its tag and the lowest-numbered
FREE block. In ARMED mode the recorder is ARMED on it and nothing else of the take store changes; in IMMEDIATE mode it
is RECORDING from now with an empty struck set and the take holds the three records of the pedal snapshot. TAKE_STATE
is raised. A second after the mark time the position and the mark time move on by one second, and nothing else
changes. -/
def Obligations.TakeRecordStartsRecording : Prop :=
  (∀ (l : Link) (args : List Byte) (n : TakeNo) (b : Block) (s : State),
      headRequest l s = some (kTakeRecord, args) → 4 ≤ args.length → byteAt args 0 = n.val →
      s.take n = {} → (∀ u, (s.take u).state ≠ .recording ∧ (s.take u).state ≠ .loading) → lowestFree s = some b →
        (byteAt args 1 = 0 →
            exec (.takeRecord l) s = .next (putReply l kTakeRecord { result := .done, data := [byteOf n.val, byteOf b.val] }
              (raiseAll .takeState (onTks (fun k =>
                { k with
                  blocks := k.blocks.set b .last
                  dir := k.dir.set n { state := .recording, tag := word16At args 2, firstBlock := some b }
                  recorder := .armed n }) (popRequest l s)))))
          ∧ (byteAt args 1 = 1 →
            ∃ t, exec (.takeRecord l) s = .next (putReply l kTakeRecord { result := .done, data := [byteOf n.val, byteOf b.val] }
                (raiseAll .takeState t))
              ∧ t = { popRequest l s with tks := t.tks }
              ∧ t.tks.recorder = .recording n { start := s.clock, position := 0, mark := s.clock, struck := KeySet.empty }
              ∧ t.take n = { state := .recording, tag := word16At args 2, firstBlock := some b, count := 3 }
              ∧ t.tks.blocks = s.tks.blocks.set b .last
              ∧ takeRecords t n =
                  [{ kind := .damper, key := 0, value := s.pdu.damper.lift, delta := 0 },
                    { kind := .sostenuto, key := 0, value := if s.pdu.sostOn then 1 else 0, delta := 0 },
                    { kind := .soft, key := 0, value := s.pdu.soft.lift, delta := 0 }]))
    ∧ (∀ (n : TakeNo) (r : RecInfo) (s : State), s.phase = .running → s.tks.recorder = .recording n r →
        elapsed s.clock (r.mark + 1000000) < 2147483648 →
          exec .recorderSecondStep s = .next (onTks (fun k =>
            { k with recorder := .recording n { r with position := r.position + 1000000, mark := r.mark + 1000000 } }) s))

/-- TAKE STOP makes a recording of more than three records CLOSED, and one of three or fewer in its one block EMPTY
with the block FREE again; the recorder is IDLE. LOAD END makes a loading of at least one record CLOSED and one of
none EMPTY. TAKE_STATE is raised. -/
def Obligations.StopAndLoadEndClose : Prop :=
  ∀ (l : Link) (args : List Byte) (n : TakeNo) (s : State),
    (headRequest l s = some (kTakeStop, args) → s.tks.recorder.names = some n → 3 < (s.take n).count →
        exec (.takeStop l) s = .next (putReply l kTakeStop { result := .done, data := [byteOf n.val, 3] }
          (raiseAll .takeState (onTake n (fun e => { e with state := .closed })
            (onTks (fun k => { k with recorder := .idle }) (popRequest l s))))))
      ∧ (∀ b : Block, headRequest l s = some (kTakeStop, args) → s.tks.recorder.names = some n → (s.take n).count ≤ 3 →
          (s.take n).firstBlock = some b → s.tks.blocks[b] = .last →
        exec (.takeStop l) s = .next (putReply l kTakeStop { result := .done, data := [byteOf n.val, 0] }
          (raiseAll .takeState (onTks (fun k =>
            { k with recorder := .idle, blocks := k.blocks.set b .free, dir := k.dir.set n {} }) (popRequest l s)))))
      ∧ (headRequest l s = some (kLoadEnd, args) → 1 ≤ args.length → byteAt args 0 = n.val →
          (s.take n).state = .loading → 1 ≤ (s.take n).count →
        exec (.loadEnd l) s = .next (putReply l kLoadEnd { result := .done, data := [3] }
          (raiseAll .takeState (onTake n (fun e => { e with state := .closed }) (popRequest l s)))))
      ∧ (headRequest l s = some (kLoadEnd, args) → 1 ≤ args.length → byteAt args 0 = n.val →
          (s.take n).state = .loading → (s.take n).count = 0 → (s.take n).firstBlock = none →
        exec (.loadEnd l) s = .next (putReply l kLoadEnd { result := .done, data := [0] }
          (raiseAll .takeState (onTake n (fun _ => {}) (popRequest l s)))))

/-- TAKE LOAD opens an EMPTY take with its tag. A batch that fits is appended to a LOADING take: its records follow
those the take held, each at the address its place in the chain gives, and every other place of take memory reads as
before; the count, duration and strike count grow by the batch's, the other takes with their chains and records and
the recorder keep what they hold, and nothing but the take store changes. That bytes left over behind the last whole
record are ignored is the model's choice (log 19). -/
def Obligations.LoadingAppendsBatches : Prop :=
  ∀ (l : Link) (args : List Byte) (n : TakeNo) (s : State),
    (headRequest l s = some (kTakeLoad, args) → 3 ≤ args.length → byteAt args 0 = n.val →
        (s.take n).state = .empty → (∀ u, (s.take u).state ≠ .recording ∧ (s.take u).state ≠ .loading) →
        exec (.takeLoad l) s = .next (putReply l kTakeLoad { result := .done }
          (raiseAll .takeState (onTake n (fun e =>
            { e with state := .loading, kept := false, truncated := false, tag := word16At args 1 }) (popRequest l s)))))
      ∧ (∀ rs, headRequest l s = some (kWriteTakeRecords, args) → 1 ≤ args.length → byteAt args 0 = n.val →
          (s.take n).state = .loading → takeRecsAt args 1 ((args.length - 1) / 4) = some rs →
          (s.take n).duration + (rs.map TakeRec.ms).sum ≤ 4294967295 → rs.length ≤ takeRoom s n →
        ∃ t, exec (.writeTakeRecords l) s = .next (putReply l kWriteTakeRecords
            { result := .done, data := le16 ((s.take n).count + rs.length) } t)
          ∧ t = { popRequest l s with tks := t.tks }
          ∧ (t.take n).count = (s.take n).count + rs.length
          ∧ (t.take n).duration = (s.take n).duration + (rs.map TakeRec.ms).sum
          ∧ (t.take n).strikes = (s.take n).strikes + rs.countP (fun r => r.kind == .strike)
          ∧ (t.take n).state = .loading ∧ t.tks.recorder = s.tks.recorder
          ∧ (∀ u, u ≠ n → t.take u = s.take u)
          ∧ (TakesSound s → ∀ a, (∀ i, (s.take n).count ≤ i → i < (s.take n).count + rs.length → recordAddr t n i ≠ some a) →
              t.tks.mem.read a = s.tks.mem.read a)
          ∧ (TakesSound s → takeRecords t n = takeRecords s n ++ rs ∧ takeChain s n <+: takeChain t n
              ∧ (∀ u, u ≠ n → takeRecords t u = takeRecords s u ∧ takeChain t u = takeChain s u)
              ∧ ∀ i r, rs[i]? = some r → ∃ a, recordAddr t n ((s.take n).count + i) = some a ∧ t.tks.mem.read a = some r))

/-- TAKE KEEP and TAKE UNKEEP by the PANEL link set and clear the kept flag, with TAKE_STATE when it changes and
nothing when it does not. TAKE ERASE of a CLOSED take that is neither played nor kept empties its entry and frees the
blocks of its chain, the contents kept; a kept one is PROTECTED, and an EMPTY one is answered DONE. -/
def Obligations.KeepAndErase : Prop :=
  ∀ (l : Link) (args : List Byte) (n : TakeNo) (s : State), 1 ≤ args.length → byteAt args 0 = n.val →
    (headRequest l s = some (kTakeKeep, args) → s.roles.panel = some l → (s.take n).state ≠ .empty → (s.take n).kept = false →
        exec (.takeKeep l) s = .next (putReply l kTakeKeep { result := .done }
          (raiseAll .takeState (onTake n (fun e => { e with kept := true }) (popRequest l s)))))
      ∧ (headRequest l s = some (kTakeKeep, args) → s.roles.panel = some l → (s.take n).state ≠ .empty → (s.take n).kept = true →
        exec (.takeKeep l) s = .next (putReply l kTakeKeep { result := .done } (popRequest l s)))
      ∧ (headRequest l s = some (kTakeUnkeep, args) → s.roles.panel = some l → (s.take n).state ≠ .empty → (s.take n).kept = true →
        exec (.takeUnkeep l) s = .next (putReply l kTakeUnkeep { result := .done }
          (raiseAll .takeState (onTake n (fun e => { e with kept := false }) (popRequest l s)))))
      ∧ (headRequest l s = some (kTakeErase, args) → (s.take n).state = .closed → (s.take n).kept = false →
          (∀ ss, s.ply.session = some ss → ss.take ≠ n) →
        ∃ t, exec (.takeErase l) s = .next (putReply l kTakeErase { result := .done } (raiseAll .takeState t))
          ∧ t = { popRequest l s with tks := t.tks } ∧ t.take n = {}
          ∧ (∀ u, u ≠ n → t.take u = s.take u) ∧ t.tks.mem = s.tks.mem ∧ t.tks.recorder = s.tks.recorder
          ∧ ∀ b : Block, t.tks.blocks[b] = if b ∈ takeChain s n then .free else s.tks.blocks[b])
      ∧ (headRequest l s = some (kTakeErase, args) → (s.take n).state = .closed → (s.take n).kept = true →
          (∀ ss, s.ply.session = some ss → ss.take ≠ n) →
        exec (.takeErase l) s = .next (putReply l kTakeErase { result := .guarded } (popRequest l s)))
      ∧ (headRequest l s = some (kTakeErase, args) → s.take n = {} → (∀ ss, s.ply.session = some ss → ss.take ≠ n) →
        exec (.takeErase l) s = .next (putReply l kTakeErase { result := .done } (popRequest l s)))

/-- The records written for a gap stand for exactly the gap, whatever its length; the last is the event's own record
with a delta that fits, and the others are PAUSE records of key 0 whose fields fit. A gap of 2047 ms or less has none
and is the record's delta; a gap of up to 2,097,151 ms above that leaves the record delta 0. A recorder that is
RECORDING brings its position forward to the event's time, except of one stamped before the mark, and appends the
event's records, a release only of a key struck in the take; what does not fit is not written, and the take is CLOSED
truncated with TAKE_FULL. ARMED, it starts its take at the first live strike with the pedal snapshot. Playback is
never recorded. That each recorded event's time becomes the mark is R132 followed against the worked set-up "A
recording of four events" (log 38); that the rest of a gap above 2,097,151 ms may be the record's own delta is R128's
steps followed against its next sentence (log 45). -/
def Obligations.PauseRecordsCoverGap : Prop :=
  (∀ (gap : Nat) (kind : TakeKind) (key : Key) (value : Nat), kind ≠ .pause →
      ((recordsForGap gap kind key value).map TakeRec.ms).sum = gap
        ∧ (∃ ps d, recordsForGap gap kind key value = ps ++ [{ kind := kind, key := key, value := value, delta := d }]
            ∧ d ≤ 2047 ∧ (gap ≤ 2047 → ps = [] ∧ d = gap) ∧ (2047 < gap → gap ≤ 2097151 → d = 0)
            ∧ ∀ p ∈ ps, p.kind = .pause ∧ p.key = 0 ∧ p.value ≤ 1023 ∧ p.delta ≤ 2047))
    ∧ (∀ (struck : KeySet) (e : Event) (k : Key), e.key = some k.val ∨ e.key = none →
        (e.key = some k.val → e.kind = .strike ∨ e.kind = .restrike → recordOf struck e = some (.strike, k, e.value))
          ∧ (e.key = some k.val → e.kind = .release → recordOf struck e = if struck.has k then some (.release, k, e.value) else none)
          ∧ (e.kind = .damper → recordOf struck e = some (.damper, 0, e.value))
          ∧ (e.kind = .sostenuto → recordOf struck e = some (.sostenuto, 0, e.value))
          ∧ (e.kind = .soft → recordOf struck e = some (.soft, 0, e.value))
          ∧ (e.kind = .keyFail ∨ e.kind = .keyRecover ∨ e.kind = .rail ∨ e.kind = .playMark → recordOf struck e = none))
    ∧ (∀ (e : Event) (n : TakeNo) (r : RecInfo) (s : State), s.tks.recorder = .recording n r →
        (e.source = .playback ∨ recordOf r.struck e = none → recorderEvent e s = s)
          ∧ (∀ kind key value, e.source = .live → recordOf r.struck e = some (kind, key, value) →
            let r1 : RecInfo :=
              if elapsed e.time r.mark < 2147483648 then { r with position := r.position + elapsed e.time r.mark, mark := e.time } else r
            let r2 : RecInfo := if kind = .strike then { r1 with struck := r1.struck.add key } else r1
            let rs := recordsForGap (r1.position / 1000 - (s.take n).duration) kind key value
            let t := recorderEvent e s
            (rs.length ≤ takeRoom s n → r1.position / 1000 ≤ 4294967295 →
                t.tks.recorder = .recording n r2 ∧ t = { s with tks := t.tks }
                  ∧ (t.take n).count = (s.take n).count + rs.length
                  ∧ (t.take n).duration = (s.take n).duration + (rs.map TakeRec.ms).sum
                  ∧ (t.take n).strikes = (s.take n).strikes + rs.countP (fun x => x.kind == .strike)
                  ∧ (∀ u, u ≠ n → t.take u = s.take u)
                  ∧ (TakesSound s → takeRecords t n = takeRecords s n ++ rs ∧ ∀ u, u ≠ n → takeRecords t u = takeRecords s u))
              ∧ (takeRoom s n < rs.length ∨ 4294967295 < r1.position / 1000 →
                t = raiseAll .takeState (reportFault .takeFull (onTks (fun k =>
                  { k with recorder := .idle, dir := k.dir.set n { s.take n with state := .closed, truncated := true } }) s)))))
    ∧ (∀ (e : Event) (n : TakeNo) (s : State), s.tks.recorder = .armed n →
        (∀ k : Key, TakesSound s → e.source = .live → e.kind = .strike ∨ e.kind = .restrike → e.key = some k.val →
            (recorderEvent e s).tks.recorder =
                .recording n { start := e.time, position := 0, mark := e.time, struck := KeySet.empty.add k }
              ∧ takeRecords (recorderEvent e s) n =
                [{ kind := .damper, key := 0, value := s.pdu.damper.lift, delta := 0 },
                  { kind := .sostenuto, key := 0, value := if s.pdu.sostOn then 1 else 0, delta := 0 },
                  { kind := .soft, key := 0, value := s.pdu.soft.lift, delta := 0 },
                  { kind := .strike, key := k, value := e.value, delta := 0 }])
          ∧ (e.source = .playback ∨ (e.kind ≠ .strike ∧ e.kind ≠ .restrike) → recorderEvent e s = s))

/-! ## Player -/

/-- TAKE PLAY of a CLOSED take from its start, on an IDLE player, when no record of the take is due at 0 and it holds
at least one: the player is PLAYING at cursor and position 0 with its accumulator 0, no loop, its next step 1000 µs
ahead and the tempo carried, clamped to 25…200; START is journaled, and takes, keys and voices are as before. A start
position above the duration is refused with ARGUMENT and the status. From any state of the player and any start
position within the take, a playback under way is stopped first with its STOP mark, the cursor is at the first record
at or above the start, the playback pedals are those of the last pedal records before it, and the records due are then
played. -/
def Obligations.TakePlayStartsTake : Prop :=
  (∀ (l : Link) (args : List Byte) (n : TakeNo) (s : State),
      headRequest l s = some (kTakePlay, args) → 7 ≤ args.length → byteAt args 0 = n.val → (s.take n).state = .closed →
      (∀ (r : TakeRec) (rest : List TakeRec), bitOf args 1 1 = false → s.ply.session = none → takeRecords s n = r :: rest →
          0 < r.ms → (s.take n).count ≠ 0 → s.ply.damper = 0 → s.ply.soft = 0 → s.ply.sostOn = false →
          s.ply.sostSet = KeySet.empty →
        ∃ t, exec (.takePlay l) s = .next (putReply l kTakePlay { result := .done, data := playerStatus t } t)
          ∧ t.ply = { s.ply with
                      tempo := if bitOf args 1 0 then max 25 (min (byteAt args 2) 200) else s.ply.tempo
                      acc := 0
                      loop := none
                      expected := KeySet.empty
                      limit := none
                      session := some { take := n, cursor := 0, position := 0, mode := .playing (s.clock + 1000) } }
          ∧ t.ajn = s.ajn.push { time := s.clock, kind := .playMark, source := .playback, key := some n.val, value := 1 }
          ∧ t.tks = s.tks ∧ t.keys = s.keys ∧ t.vas = s.vas)
        ∧ (bitOf args 1 1 = true → (s.take n).duration < word32At args 3 →
          exec (.takePlay l) s = .next (putReply l kTakePlay { result := .argument, data := playerStatus s } (popRequest l s))))
    ∧ (∀ (l : Link) (args : List Byte) (n : TakeNo) (start : Nat) (s : State),
        headRequest l s = some (kTakePlay, args) → 7 ≤ args.length → byteAt args 0 = n.val → (s.take n).state = .closed →
        start = (if bitOf args 1 1 then word32At args 3 else 0) → start ≤ (s.take n).duration →
        let before := (timedRecords s n).filter fun q => q.2 < start
        let last := fun (k : TakeKind) => ((before.map (·.1)).filter fun r => r.kind = k).getLast?
        let mark := fun (t : TakeNo) (code : Nat) =>
          ({ time := s.clock, kind := .playMark, source := .playback, key := some t.val, value := code } : Event)
        ∃ u, exec (.takePlay l) s =
            .next (putReply l kTakePlay { result := .done, data := playerStatus (playDueThenEnd u) } (playDueThenEnd u))
          ∧ u.ply = { s.ply with
                      tempo := if bitOf args 1 0 then max 25 (min (byteAt args 2) 200) else s.ply.tempo
                      acc := 0
                      loop := none
                      expected := KeySet.empty
                      limit := none
                      keys := if s.ply.session = none then s.ply.keys else KeySet.empty
                      sostSet := KeySet.empty
                      damper := match last .damper with
                        | some r => min r.value 255
                        | none => 0
                      sostOn := match last .sostenuto with
                        | some r => r.value != 0
                        | none => false
                      soft := match last .soft with
                        | some r => min r.value 255
                        | none => 0
                      session := some { take := n, cursor := before.length, position := start, mode := .playing (s.clock + 1000) } }
          ∧ u.ajn = (match s.ply.session with
              | some ss => (s.ajn.push (mark ss.take 3)).push (mark n 1)
              | none => s.ajn.push (mark n 1))
          ∧ u.tks = s.tks ∧ u.keys = s.keys ∧ u.pdu = s.pdu ∧ u.rlc = s.rlc)

/-- STOP ends any playback: the playback keys, pedals, expected set, loop and limit are cleared, the player is IDLE,
and its tempo, accumulator and guide settings are kept. PAUSE of a PLAYING or WAITING player keeps everything but the
mode and journals PAUSE; RESUME goes back to the previous state, in PLAYING with its next step 1000 µs from now, and
journals RESUME. A millisecond step past the last record with no loop set ends playback the same way, with an END
mark. -/
def Obligations.StopPauseResume : Prop :=
  (∀ (l : Link) (args : List Byte) (ss : Session) (s : State), s.ply.session = some ss →
      (headRequest l s = some (kStop, args) →
          ∃ t, exec (.stop l) s = .next (putReply l kStop { result := .done, data := playerStatus t } t)
            ∧ t.ply = { s.ply with
                        session := none
                        loop := none
                        expected := KeySet.empty
                        limit := none
                        keys := KeySet.empty
                        damper := 0
                        sostOn := false
                        sostSet := KeySet.empty
                        soft := 0 }
            ∧ t.tks = s.tks ∧ t.keys = s.keys ∧ t.rlc = s.rlc)
        ∧ (∀ m, headRequest l s = some (kPause, args) → (∃ n, ss.mode = .playing n ∧ m = false) ∨ (ss.mode = .waiting ∧ m = true) →
          ∃ t, exec (.pause l) s = .next (putReply l kPause { result := .done, data := playerStatus t } t)
            ∧ t.ply = { s.ply with session := some { ss with mode := .paused m } }
            ∧ t.ajn = s.ajn.push { time := s.clock, kind := .playMark, source := .playback, key := some ss.take.val, value := 8 }
            ∧ t.vas = s.vas ∧ t.tks = s.tks)
        ∧ (∀ m, headRequest l s = some (kResume, args) → ss.mode = .paused m →
          ∃ t, exec (.resume l) s = .next (putReply l kResume { result := .done, data := playerStatus t } t)
            ∧ t.ply = { s.ply with session := some { ss with mode := if m then .waiting else .playing (s.clock + 1000) } }
            ∧ t.ajn = s.ajn.push { time := s.clock, kind := .playMark, source := .playback, key := some ss.take.val, value := 9 }
            ∧ t.vas = s.vas ∧ t.tks = s.tks))
    ∧ (∀ (ss : Session) (n : Clock) (s : State), s.phase = .running → s.ply.session = some ss → ss.mode = .playing n →
        elapsed s.clock n < 2147483648 → s.ply.loop = none → (s.take ss.take).count ≤ ss.cursor →
          ∃ t, exec .millisecondStep s = .next t
            ∧ t.ply = { s.ply with
                        session := none
                        acc := (s.ply.acc + s.ply.tempo) % 100
                        loop := none
                        expected := KeySet.empty
                        limit := none
                        keys := KeySet.empty
                        damper := 0
                        sostOn := false
                        sostSet := KeySet.empty
                        soft := 0 }
            ∧ t.ajn = s.ajn.push { time := s.clock, kind := .playMark, source := .playback, key := some ss.take.val, value := 2 }
            ∧ t.tks = s.tks ∧ t.keys = s.keys ∧ t.rlc = s.rlc)

/-- SET TEMPO clamps to 25…200 and keeps the accumulator; CLEAR LOOP removes the loop; SET LOOP within the take, with
the position not beyond its end, stores the loop and does not jump; SET GUIDE replaces the guide settings, the chord
window clamped to 100, dropping the collection limit, and on a player PAUSED from a wait it empties the expected set,
makes PLAYING the previous state and journals CLEARED. The loop jump lets the playback keys and sets go, applies the
loop's snapshot, goes to the first record at or above the start, ends a wait, and makes a LOOP mark; a millisecond
step that reaches the loop's end with no record left up to it, and a SET LOOP behind the position, make it. The loop's
snapshot is the lift, state and lift of the last DAMPER, SOSTENUTO and SOFT records below its start, a value above 255
read as 255, and 0, OFF and 0 where there is none. -/
def Obligations.PlayerSettings : Prop :=
  ((∀ (l : Link) (args : List Byte) (s : State),
        (headRequest l s = some (kSetTempo, args) → 1 ≤ args.length →
            ∃ t, exec (.setTempo l) s = .next (putReply l kSetTempo { result := .done, data := playerStatus t } t)
              ∧ t = { popRequest l s with ply := { s.ply with tempo := max 25 (min (byteAt args 0) 200) } })
          ∧ (headRequest l s = some (kClearLoop, args) →
            ∃ t, exec (.clearLoop l) s = .next (putReply l kClearLoop { result := .done, data := playerStatus t } t)
              ∧ t = { popRequest l s with ply := { s.ply with loop := none } })
          ∧ (∀ ss : Session, headRequest l s = some (kSetLoop, args) → 8 ≤ args.length → s.ply.session = some ss →
              word32At args 0 < word32At args 4 → word32At args 4 ≤ (s.take ss.take).duration → ss.position ≤ word32At args 4 →
            ∃ t lp, exec (.setLoop l) s = .next (putReply l kSetLoop { result := .done, data := playerStatus t } t)
              ∧ t = { popRequest l s with ply := { s.ply with loop := some lp } }
              ∧ lp.start = word32At args 0 ∧ lp.stop = word32At args 4)
          ∧ (∀ (mode : GuideMode) (low high : Key), headRequest l s = some (kSetGuide, args) → 4 ≤ args.length →
              byteAt args 0 = mode.code → byteAt args 1 = low.val → byteAt args 2 = high.val → low ≤ high →
              (s.ply.expected = KeySet.empty →
                ∃ t, exec (.setGuide l) s = .next (putReply l kSetGuide { result := .done, data := playerStatus t } t)
                  ∧ t = { popRequest l s with
                          ply := { s.ply with guide := mode, low := low, high := high, chordWindow := min (byteAt args 3) 100, limit := none } })
                ∧ (∀ ss : Session, s.ply.session = some ss → ss.mode = .paused true → s.ply.expected ≠ KeySet.empty →
                  ∃ t, exec (.setGuide l) s = .next (putReply l kSetGuide { result := .done, data := playerStatus t } t)
                    ∧ t.ply = { s.ply with
                                guide := mode
                                low := low
                                high := high
                                chordWindow := min (byteAt args 3) 100
                                limit := none
                                expected := KeySet.empty
                                session := some { ss with mode := .paused false } }
                    ∧ t.ajn = s.ajn.push { time := s.clock, kind := .playMark, source := .playback, key := some ss.take.val, value := 7 })))
      ∧ (∀ (lp : Loop) (ss : Session) (s : State), s.ply.session = some ss →
          ∃ u, loopJump lp s = (if u.ply.isPlaying then playDue u else u)
            ∧ u.ply = { s.ply with
                        keys := KeySet.empty, sostSet := KeySet.empty, sostOn := lp.sostOn, damper := lp.damper, soft := lp.soft
                        expected := KeySet.empty, limit := none
                        session := some { ss with
                          cursor := ((timedRecords s ss.take).takeWhile fun q => q.2 < lp.start).length
                          position := lp.start
                          mode := match ss.mode with
                            | .playing n => .playing n
                            | .waiting => .playing (s.clock + 1000)
                            | .paused _ => .paused false } }
            ∧ u.ajn = s.ajn.push { time := s.clock, kind := .playMark, source := .playback, key := some ss.take.val, value := 4 }
            ∧ u.tks = s.tks ∧ u.keys = s.keys)
      ∧ (∀ (l : Link) (args : List Byte) (ss : Session) (s : State), headRequest l s = some (kSetLoop, args) → 8 ≤ args.length →
          s.ply.session = some ss → word32At args 0 < word32At args 4 → word32At args 4 ≤ (s.take ss.take).duration →
          word32At args 4 < ss.position →
            ∃ t lp u, exec (.setLoop l) s = .next (putReply l kSetLoop { result := .done, data := playerStatus t } t)
              ∧ lp.start = word32At args 0 ∧ lp.stop = word32At args 4 ∧ t = loopJump lp u
              ∧ u = { popRequest l s with ply := { s.ply with loop := some lp } })
      ∧ (∀ (ss : Session) (n : Clock) (lp : Loop) (s : State), s.phase = .running → s.ply.session = some ss → ss.mode = .playing n →
          elapsed s.clock n < 2147483648 → s.ply.loop = some lp → lp.stop ≤ ss.position + (s.ply.acc + s.ply.tempo) / 100 →
          (∀ r x rest, (timedRecords s ss.take).drop ss.cursor = (r, x) :: rest → lp.stop < x) →
            exec .millisecondStep s = .next (loopJump lp (onPly (fun p =>
              { p with
                acc := (p.acc + p.tempo) % 100
                session := some { ss with mode := .playing (n + 1000), position := ss.position + (p.acc + p.tempo) / 100 } }) s))))
    ∧ (∀ (l : Link) (args : List Byte) (ss : Session) (s : State), headRequest l s = some (kSetLoop, args) → 8 ≤ args.length →
        s.ply.session = some ss → word32At args 0 < word32At args 4 → word32At args 4 ≤ (s.take ss.take).duration →
        let below := ((timedRecords s ss.take).filter fun q => q.2 < word32At args 0).map (·.1)
        let last := fun (k : TakeKind) => (below.filter fun r => r.kind = k).getLast?
        let lp : Loop :=
          { start := word32At args 0
            stop := word32At args 4
            damper := match last .damper with
              | some r => min r.value 255
              | none => 0
            sostOn := match last .sostenuto with
              | some r => r.value != 0
              | none => false
            soft := match last .soft with
              | some r => min r.value 255
              | none => 0 }
        let u := { popRequest l s with ply := { s.ply with loop := some lp } }
        let t := if word32At args 4 < ss.position then loopJump lp u else u
        exec (.setLoop l) s = .next (putReply l kSetLoop { result := .done, data := playerStatus t } t))

/-- A millisecond step with nothing due adds the tempo to the accumulator and moves the position by the whole
hundreds, keeping the remainder, and sets the next step 1000 µs on; position times 100 plus the accumulator grows by
exactly the tempo, and nothing else changes. A due record makes its PLAYBACK event and moves the playback keys or
pedals: a guide record carries GUIDE and is not voiced, under WAIT its release makes no event, and its due strike
starts a collection: the strikes in range within the chord window join the expected set and the player WAITS with a
WAIT mark. A live strike of an expected key leaves the set; the last one makes a MET mark and PLAYING goes on from
now. -/
def Obligations.MillisecondStepAddsTempo : Prop :=
  (∀ (ss : Session) (n : Clock) (r : TakeRec) (x : Nat) (rest : List (TakeRec × Nat)) (s : State), s.phase = .running →
      s.ply.session = some ss → ss.mode = .playing n → elapsed s.clock n < 2147483648 → s.ply.loop = none →
      (timedRecords s ss.take).drop ss.cursor = (r, x) :: rest → ss.position + (s.ply.acc + s.ply.tempo) / 100 < x →
      ss.cursor < (s.take ss.take).count →
        ∃ p a, exec .millisecondStep s = .next (onPly (fun q =>
              { q with acc := a, session := some { ss with mode := .playing (n + 1000), position := p } }) s)
          ∧ a < 100 ∧ p * 100 + a = ss.position * 100 + s.ply.acc + s.ply.tempo)
    ∧ (∀ (r : TakeRec) (s : State),
        let p := s.ply
        let t := playRecord r s
        let level := if r.value = 0 then 1 else r.value
        let guide := p.guide ≠ .none ∧ p.low ≤ r.key ∧ r.key ≤ p.high
        let made := fun (kind : EventKind) (key : Option Nat) (value : Nat) (flag : Bool) => t.ajn = s.ajn.push
          { time := s.clock, kind := kind, source := .playback, key := key, value := value, flags := { guide := flag } }
        t.tks = s.tks ∧ t.keys = s.keys ∧ t.pdu = s.pdu ∧ t.rlc = s.rlc
          ∧ (r.kind = .strike → ¬guide → t.ply = { p with keys := p.keys.add r.key }
              ∧ made (if p.keys.has r.key then .restrike else .strike) (some r.key.val) level false)
          ∧ (r.kind = .strike → guide → t.ply = p ∧ t.vas = s.vas
              ∧ made (if p.keys.has r.key then .restrike else .strike) (some r.key.val) level true)
          ∧ (r.kind = .release → ¬guide → t.ply = { p with keys := p.keys.drop r.key } ∧ made .release (some r.key.val) level false)
          ∧ (r.kind = .release → guide → p.guide = .mute →
              t.ply = { p with keys := p.keys.drop r.key } ∧ made .release (some r.key.val) level true)
          ∧ (r.kind = .release → guide → p.guide = .wait → t.ply = { p with keys := p.keys.drop r.key } ∧ t.ajn = s.ajn)
          ∧ (r.kind = .damper → t.ply = { p with damper := min r.value 255 } ∧ made .damper none (min r.value 255) false)
          ∧ (r.kind = .soft → t.ply = { p with soft := min r.value 255 } ∧ made .soft none (min r.value 255) false)
          ∧ (r.kind = .sostenuto → r.value ≠ 0 → p.sostOn = false →
              t.ply = { p with sostOn := true, sostSet := p.sostSet.union p.keys } ∧ made .sostenuto (some p.keys.size) 1 false)
          ∧ (r.kind = .sostenuto → r.value = 0 → p.sostOn = true →
              t.ply = { p with sostOn := false, sostSet := KeySet.empty } ∧ made .sostenuto (some p.sostSet.size) 0 false)
          ∧ (r.kind = .sostenuto → (r.value ≠ 0 ↔ p.sostOn = true) → t.ply = p ∧ made .sostenuto (some 0) (if r.value ≠ 0 then 1 else 0) false)
          ∧ (r.kind = .pause → t = s))
    ∧ (∀ (r : TakeRec) (x : Nat) (rest : List (TakeRec × Nat)) (ss : Session) (s : State), s.ply.session = some ss →
        let p := s.ply
        let due := x ≤ ss.position ∧ ∀ lp, p.loop = some lp → x ≤ lp.stop
        let collect := p.guide = .wait ∧ r.kind = .strike ∧ p.low ≤ r.key ∧ r.key ≤ p.high ∧ ∀ c, p.limit = some c → c ≤ ss.cursor
        let t := playFrom ((r, x) :: rest) s
        (¬due → t = s)
          ∧ (due → ¬collect → t = playFrom rest (advanceCursor (playRecord r s)))
          ∧ (due → collect →
            let bound := match p.loop with
              | some lp => min (x + p.chordWindow) lp.stop
              | none => x + p.chordWindow
            let looked := ((r, x) :: rest).takeWhile fun q => q.2 ≤ bound
            t.ply = { p with
                      expected := t.ply.expected
                      limit := some (ss.cursor + looked.length)
                      session := some { ss with position := x, mode := .waiting } }
              ∧ (∀ k, t.ply.expected.has k = true ↔ p.expected.has k = true
                  ∨ ∃ q ∈ looked, q.1.kind = .strike ∧ q.1.key = k ∧ p.low ≤ k ∧ k ≤ p.high)
              ∧ t.ajn = s.ajn.push { time := s.clock, kind := .playMark, source := .playback, key := some ss.take.val, value := 5 }
              ∧ t.vas = s.vas ∧ t.tks = s.tks))
    ∧ (∀ (e : Event) (k : Key) (ss : Session) (s : State), s.ply.session = some ss → e.key = some k.val →
        (e.source = .playback ∨ (e.kind ≠ .strike ∧ e.kind ≠ .restrike) ∨ ss.mode ≠ .waiting ∨ s.ply.expected.has k = false →
            playerEvent e s = s)
          ∧ (e.source = .live → e.kind = .strike ∨ e.kind = .restrike → ss.mode = .waiting → s.ply.expected.has k = true →
            (s.ply.expected.drop k ≠ KeySet.empty → playerEvent e s = onPly (fun q => { q with expected := s.ply.expected.drop k }) s)
              ∧ (s.ply.expected.drop k = KeySet.empty →
                ∃ u, playerEvent e s = playDueThenEnd u
                  ∧ u.ply = { s.ply with expected := KeySet.empty, session := some { ss with mode := .playing (s.clock + 1000) } }
                  ∧ u.ajn = s.ajn.push { time := s.clock, kind := .playMark, source := .playback, key := some ss.take.val, value := 6 }
                  ∧ u.vas = s.vas ∧ u.tks = s.tks)))

/-! ## Calibration store -/

/-- CAL WRITE from the calibration link, of entries that pass its tests, to a region neither protected nor being
committed: the entries are stored as clamped, the modified flag is set, hammers of keys whose per-key values changed
become READY with no sample held, and with the lever mode unchanged nothing else changes but what a move that was
waiting for a quiet action changes when the rail tests for it under the new values. With a count of 0 nothing changes.
The clamps that no rule spells out, and that a value written as it was is no change, are the model's readings (log
23). -/
def Obligations.CalWriteStoresEntries : Prop :=
  ∀ (l : Link) (args : List Byte) (r : Region) (first : Nat) (es : List CalEntry) (s : State),
    headRequest l s = some (kCalWrite, args) → fromCalLink s l = true → calWriteArgs args = some (r, first, es) →
    isProtected s r = false → s.cst.inFlight r = false → (∀ x ∈ es, x.ordered = true) →
      (es ≠ [] →
          (s.cst.storeAll first es).factory.working.option.leverDemand = s.cst.factory.working.option.leverDemand →
          ∃ t d, exec (.calWrite l) s = .next (putReply l kCalWrite { result := .done, data := d } (quietMove t))
            ∧ t = { popRequest l s with keys := t.keys, cst := (s.cst.storeAll first es).markModified r }
            ∧ ∀ k, t.key k =
                if perKeyChanged s.cst (s.cst.storeAll first es) k then { s.key k with hammer := .ready, hammerTime := none }
                else s.key k)
        ∧ (es = [] → exec (.calWrite l) s = .next (putReply l kCalWrite
            { result := .done, data := [byteOf (s.cst.status r), 0] } (popRequest l s)))

/-- CAL DEFAULTS is refused with ROLE, ARGUMENT, PROTECTED and BUSY in that order; otherwise every item of the
region's working copy takes its built-in default, the modified flag is set, the default marking is kept, and each key
whose per-key values change has its hammer reset. -/
def Obligations.CalDefaultsRestoresDefaults : Prop :=
  ∀ (l : Link) (args : List Byte) (s : State), headRequest l s = some (kCalDefaults, args) →
    (fromCalLink s l = false → exec (.calDefaults l) s = .next (putReply l kCalDefaults { result := .role } (popRequest l s)))
      ∧ (fromCalLink s l = true → 1 < byteAt args 0 →
        exec (.calDefaults l) s = .next (putReply l kCalDefaults { result := .argument } (popRequest l s)))
      ∧ (fromCalLink s l = true → 1 ≤ args.length → byteAt args 0 = 0 → s.cst.committedOption.protect = true →
        exec (.calDefaults l) s = .next (putReply l kCalDefaults { result := .guarded } (popRequest l s)))
      ∧ (fromCalLink s l = true → 1 ≤ args.length → byteAt args 0 = 0 → s.cst.committedOption.protect = false →
          s.cst.factory.commit ≠ none →
        exec (.calDefaults l) s = .next (putReply l kCalDefaults { result := .busy } (popRequest l s)))
      ∧ (fromCalLink s l = true → 1 ≤ args.length → byteAt args 0 = 1 → s.cst.user.commit ≠ none →
        exec (.calDefaults l) s = .next (putReply l kCalDefaults { result := .busy } (popRequest l s)))
      ∧ (fromCalLink s l = true → 1 ≤ args.length → byteAt args 0 = 0 → s.cst.committedOption.protect = false →
          s.cst.factory.commit = none →
        ∃ t, exec (.calDefaults l) s = .next (putReply l kCalDefaults { result := .done } t)
          ∧ t.cst = { s.cst with factory := { s.cst.factory with working := defaultFactory, modified := true } }
          ∧ ∀ k, t.key k =
              if s.cst.factory.working.keySensor[k] ≠ defaultFactory.keySensor[k]
                  ∨ s.cst.factory.working.gates[k] ≠ defaultFactory.gates[k] then
                { s.key k with hammer := .ready, hammerTime := none }
              else s.key k)
      ∧ (fromCalLink s l = true → 1 ≤ args.length → byteAt args 0 = 1 → s.cst.user.commit = none →
        ∃ t, exec (.calDefaults l) s = .next (putReply l kCalDefaults { result := .done } t)
          ∧ t.cst = { s.cst with user := { s.cst.user with working := defaultUser, modified := true } }
          ∧ ∀ k, t.key k =
              if s.cst.user.working.trim[k] ≠ 1024 then { s.key k with hammer := .ready, hammerTime := none } else s.key k)

/-- CAL COMMIT takes the working copy as it stands IN FLIGHT. An equal read-back stores it with its 16-bit check (of a
free value, log 5), clears the modified flag, and for the factory region makes its option word the committed one and
ends the default marking; CAL_DONE is raised. A different one sets CAL_WRITE_FAIL and keeps the working copy, the
modified flag, the committed option word and the default marking. -/
def Obligations.CommitWritesImage : Prop :=
  ∀ (l : Link) (args : List Byte) (s : State),
    (headRequest l s = some (kCalCommit, args) → fromCalLink s l = true → 1 ≤ args.length →
        (byteAt args 0 = 0 → s.cst.factory.commit = none →
            exec (.calCommit l) s = .next (putReply l kCalCommit { result := .done }
              (onCst (fun k => { k with factory := { k.factory with commit := some { copy := k.factory.working, start := s.clock } } }) (popRequest l s))))
          ∧ (byteAt args 0 = 1 → s.cst.user.commit = none →
            exec (.calCommit l) s = .next (putReply l kCalCommit { result := .done }
              (onCst (fun k => { k with user := { k.user with commit := some { copy := k.user.working, start := s.clock } } }) (popRequest l s)))))
      ∧ (∀ c, s.cst.factory.commit = some c → s.sysReset = .none →
        exec (.commitComplete .factory true) s = .next (raiseAll .calDone (onCst (fun k =>
          { k with factory := { k.factory with stored := { contents := c.copy, check := Config.imageCheck c.copy }, modified := false, commit := none }
                   committedOption := c.copy.option
                   defaultMarking := false }) s)))
      ∧ (∀ c, s.cst.user.commit = some c → s.sysReset = .none →
        exec (.commitComplete .user true) s = .next (raiseAll .calDone (onCst (fun k =>
          { k with user := { k.user with stored := { contents := c.copy, check := Config.imageCheck c.copy }, modified := false, commit := none } }) s)))
      ∧ (∀ c, s.cst.factory.commit = some c →
        ∃ t, exec (.commitComplete .factory false) s = .next t ∧ t.cst.factory.working = s.cst.factory.working
          ∧ t.cst.factory.modified = s.cst.factory.modified ∧ t.cst.factory.commit = none
          ∧ t.cst.committedOption = s.cst.committedOption ∧ t.cst.defaultMarking = s.cst.defaultMarking
          ∧ t.cst.user = s.cst.user ∧ t.faults.flags.getLsbD 10 = true)
      ∧ (∀ c, s.cst.user.commit = some c →
        ∃ t, exec (.commitComplete .user false) s = .next t ∧ t.cst.user.working = s.cst.user.working
          ∧ t.cst.user.modified = s.cst.user.modified ∧ t.cst.user.commit = none
          ∧ t.cst.factory = s.cst.factory ∧ t.faults.flags.getLsbD 10 = true)

/-! ## Notices and faults -/

/-- NOTICE SET on a granted index stores the set and tag, keeps the mask, clears the entry's flags and accumulated
classes and withdraws its waiting frame; an empty set makes the entry unused; the rest of the link stays. NOTICE MASK
sets enable, link mask and the masks of granted used entries, keeps sets, tags and accumulated classes, queues the
frames of the entries that may go, lowest first, while a place is free, and keeps the rest of the link. CLEAR FAULTS
clears the named device and link flags, the first fault kind when it names a device flag, and all counters with the
option, and answers section 0 as it then stands; nothing else changes. That a set of unnamed bits alone counts as
empty is the model's reading (log 34). A class raised on a link with its enable on is added to what every granted
entry with it has accumulated: masked, the entry becomes pending; with its frame waiting, nothing more; with a place
free, its NOTICE frame joins; with none, it becomes pending. With the enable off nothing happens. A class is raised on
every link or on one. That the entries are handled in rising index is the model's choice (log 41). -/
def Obligations.NoticeAndFaultRequests : Prop :=
  (∀ (l : Link) (args : List Byte) (s : State),
      (∀ i : Fin 8, headRequest l s = some (kNoticeSet, args) → 5 ≤ args.length → byteAt args 0 = i.val →
          i.val < (s.link l).notice.grant →
          ∃ (ls : LinkState) (d : List Byte),
            exec (.noticeSet l) s = .next (putReply l kNoticeSet { result := .done, data := d } (onLink l (fun _ => ls) (popRequest l s)))
            ∧ (word16At args 1 ≠ 0 → d = [byteOf i.val] ++ le16 (word16At args 1) ++ le16 (word16At args 3)
                ∧ ls.entry i = { classes := BitVec.ofNat 16 (word16At args 1), tag := BitVec.ofNat 16 (word16At args 3), mask := ((s.link l).entry i).mask })
            ∧ (word16At args 1 = 0 → d = [byteOf i.val, 0, 0, 0, 0] ∧ ls.entry i = {})
            ∧ (∀ j, j ≠ i → ls.entry j = (s.link l).entry j)
            ∧ ls = { s.link l with
                     rxBuf := (s.link l).rxBuf.drop 1
                     tx := (s.link l).tx.filter (fun f => f != .notice i)
                     notice := { (s.link l).notice with entries := ls.notice.entries } })
        ∧ (headRequest l s = some (kNoticeMask, args) → 4 ≤ args.length → byteAt args 0 ≤ 2 → byteAt args 1 ≤ 2 →
            (args.getD 2 0) &&& (args.getD 3 0) = 0 →
          ∃ ls : LinkState,
            exec (.noticeMask l) s = .next (putReply l kNoticeMask { result := .done, data := maskReply ls } (onLink l (fun _ => ls) (popRequest l s)))
            ∧ ls.notice.enable = (if byteAt args 0 = 0 then false else if byteAt args 0 = 1 then true else (s.link l).notice.enable)
            ∧ ls.notice.linkMask = (if byteAt args 1 = 0 then false else if byteAt args 1 = 1 then true else (s.link l).notice.linkMask)
            ∧ ls.notice.grant = (s.link l).notice.grant
            ∧ (∀ i : Fin 8, (ls.entry i).classes = ((s.link l).entry i).classes ∧ (ls.entry i).tag = ((s.link l).entry i).tag
                ∧ (ls.entry i).acc = ((s.link l).entry i).acc
                ∧ (ls.entry i).mask =
                    if i.val < (s.link l).notice.grant ∧ ((s.link l).entry i).classes ≠ 0 then
                      (((s.link l).entry i).mask || (args.getD 2 0).getLsbD i.val) && !(args.getD 3 0).getLsbD i.val
                    else ((s.link l).entry i).mask)
            ∧ ls = { s.link l with
                     rxBuf := (s.link l).rxBuf.drop 1
                     tx := ls.tx
                     notice := { ls.notice with grant := (s.link l).notice.grant } }
            ∧ (ls.placeFree = true → ∀ i, ls.eligible i = false)
            ∧ ∃ sent : List (Fin 8), ls.tx = (s.link l).tx ++ sent.map .notice ∧ sent.Pairwise (· < ·)
                ∧ (∀ i, (ls.entry i).queued = (((s.link l).entry i).queued || decide (i ∈ sent))
                    ∧ (ls.entry i).pending = (((s.link l).entry i).pending && !decide (i ∈ sent)))
                ∧ ∀ i ∈ sent, ∀ j, ls.eligible j = true → i < j)
        ∧ (headRequest l s = some (kClearFaults, args) → 6 ≤ args.length →
          ∃ t, exec (.clearFaults l) s = .next (putReply l kClearFaults { result := .done, data := 0 :: faultSection t 0 } t)
            ∧ t = { popRequest l s with
                    faults := s.faults.clear (BitVec.ofNat 16 (word16At args 0)) (bitOf args 5 0)
                    links := ⟨((popRequest l s).link .a).clearFlags (args.getD 2 0) (bitOf args 5 0),
                      ((popRequest l s).link .b).clearFlags (args.getD 3 0) (bitOf args 5 0),
                      ((popRequest l s).link .c).clearFlags (args.getD 4 0) (bitOf args 5 0)⟩ }
            ∧ (∀ m, t.link m = { (popRequest l s).link m with
                  checkFlag := (t.link m).checkFlag, overflowFlag := (t.link m).overflowFlag, overrunFlag := (t.link m).overrunFlag
                  checkErrors := (t.link m).checkErrors, overflows := (t.link m).overflows, lost := (t.link m).lost })
            ∧ (∀ n, 11 ≤ n → t.faults.flags.getLsbD n = s.faults.flags.getLsbD n)
            ∧ (∀ n, n < 11 → t.faults.flags.getLsbD n = (s.faults.flags.getLsbD n && !(BitVec.ofNat 16 (word16At args 0)).getLsbD n))
            ∧ (BitVec.ofNat 16 (word16At args 0) &&& 0x07FF = 0 → t.faults.first = s.faults.first)
            ∧ (BitVec.ofNat 16 (word16At args 0) &&& 0x07FF ≠ 0 → t.faults.first = none)
            ∧ (bitOf args 5 0 = true → t.faults.overruns = 0 ∧ t.faults.missed = 0 ∧ t.faults.steals = 0 ∧ t.faults.refused = 0
                ∧ t.faults.stale = 0 ∧ t.faults.skipped = 0
                ∧ ∀ m, (t.link m).checkErrors = 0 ∧ (t.link m).overflows = 0 ∧ (t.link m).lost = 0)
            ∧ (bitOf args 5 0 = false → t.faults.overruns = s.faults.overruns ∧ t.faults.missed = s.faults.missed
                ∧ t.faults.steals = s.faults.steals ∧ t.faults.refused = s.faults.refused ∧ t.faults.stale = s.faults.stale
                ∧ t.faults.skipped = s.faults.skipped ∧ ∀ m, (t.link m).checkErrors = (s.link m).checkErrors
                    ∧ (t.link m).overflows = (s.link m).overflows ∧ (t.link m).lost = (s.link m).lost)
            ∧ ∀ m i, i = (match m with | Link.a => 2 | Link.b => 3 | Link.c => 4) →
                (t.link m).checkFlag = ((s.link m).checkFlag && !bitOf args i 0)
                  ∧ (t.link m).overflowFlag = ((s.link m).overflowFlag && !bitOf args i 1)
                  ∧ (t.link m).overrunFlag = ((s.link m).overrunFlag && !bitOf args i 2)))
    ∧ (∀ (c : EventClass) (i : Fin 8) (ls : LinkState),
        let e := ls.entry i
        let t := LinkState.raiseEntry c ls i
        let takes := i.val < ls.notice.grant ∧ e.classes.getLsbD c.index = true
        let masked := e.mask = true ∨ ls.notice.linkMask = true
        let acc := e.acc ||| BitVec.ofNat 16 (2 ^ c.index)
        let becomes := fun (x : NoticeEntry) (tx : List TxFrame) =>
          t = { ls with tx := tx, notice := { ls.notice with entries := ls.notice.entries.set i x } }
        (¬takes → t = ls)
          ∧ (takes → masked → becomes { e with acc := acc, pending := true } ls.tx)
          ∧ (takes → ¬masked → e.queued = true → becomes { e with acc := acc } ls.tx)
          ∧ (takes → ¬masked → e.queued = false → ls.tx.countP TxFrame.unprompted < 7 →
            becomes { e with acc := acc, queued := true, pending := false } (ls.tx ++ [.notice i]))
          ∧ (takes → ¬masked → e.queued = false → 7 ≤ ls.tx.countP TxFrame.unprompted →
            becomes { e with acc := acc, pending := true } ls.tx))
    ∧ (∀ (c : EventClass) (s : State),
        (∀ ls : LinkState,
            (ls.notice.enable = false → LinkState.raise c ls = ls)
              ∧ (ls.notice.enable = true → LinkState.raise c ls = [0, 1, 2, 3, 4, 5, 6, 7].foldl (LinkState.raiseEntry c) ls))
          ∧ (∀ m, (raiseAll c s).link m = LinkState.raise c (s.link m))
          ∧ raiseAll c s = { s with links := (raiseAll c s).links }
          ∧ (∀ l m, (raiseOn l c s).link m = if m = l then LinkState.raise c (s.link m) else s.link m)
          ∧ (∀ l, raiseOn l c s = { s with links := (raiseOn l c s).links }))

/-! ## Lines -/

/-- A complete frame joins a receive buffer that holds fewer than two; one completed while two wait is discarded with
the overflow counted, LINK_OVERFLOW set and LINK_ERROR raised, the two kept; one whose payload begins with the LINK
RESET kind does not join, whatever follows the kind, and resets the link at once, whatever the buffer holds, with no
answer. -/
def Obligations.CompleteFrameJoinsBuffer : Prop :=
  ∀ (l : Link) (got : List Byte) (s : State), s.phase = .running → (s.link l).lineLow = false →
    (s.link l).rx = .check got → elapsed s.clock (s.link l).lastByte ≤ 200 →
      (got.head? ≠ some 0x0F → (s.link l).rxBuf.length < 2 →
          exec (.receiveByte l (crc8 (byteOf got.length :: got)) false) s =
            .next (onLink l (fun ls => { ls with rx := .hunt, rxBuf := ls.rxBuf ++ [got] }) s))
        ∧ (got.head? ≠ some 0x0F → 2 ≤ (s.link l).rxBuf.length →
          exec (.receiveByte l (crc8 (byteOf got.length :: got)) false) s =
            .next (onLink l (fun ls => LinkState.raise .linkError
              { ls with rx := .hunt, overflows := min (ls.overflows + 1) 65535, overflowFlag := true }) s))
        ∧ (got.head? = some 0x0F →
          exec (.receiveByte l (crc8 (byteOf got.length :: got)) false) s = .next (linkReset l s))

/-- A sync byte in HUNT begins a frame; a length of 1 to 64 is taken and another discards; a payload byte is kept, the
last one leading to CHECK; a gap above 200 µs inside a frame, a wrong check or a low stop bit discards, with the check
error counted, LINK_CHECK set, LINK_ERROR raised and HUNT entered. That the 200 µs run from the end of one byte to the
end of the next is the model's choice (log 39). -/
def Obligations.ReceiverMovesOn : Prop :=
  ∀ (l : Link) (b : Byte) (s : State), s.phase = .running → (s.link l).lineLow = false →
    ((s.link l).rx = .hunt →
        exec (.receiveByte l 0xC3 false) s = .next (onLink l (fun ls => { ls with rx := .length, lastByte := s.clock }) s))
      ∧ ((s.link l).rx = .length → elapsed s.clock (s.link l).lastByte ≤ 200 → 1 ≤ b.toNat → b.toNat ≤ 64 →
        exec (.receiveByte l b false) s = .next (onLink l (fun ls => { ls with rx := .payload b.toNat [], lastByte := s.clock }) s))
      ∧ (∀ len got, (s.link l).rx = .payload len got → elapsed s.clock (s.link l).lastByte ≤ 200 → got.length < len →
        exec (.receiveByte l b false) s = .next (onLink l (fun ls =>
          { ls with rx := if got.length + 1 = len then .check (got ++ [b]) else .payload len (got ++ [b]), lastByte := s.clock }) s))
      ∧ ((s.link l).rx ≠ .hunt → 200 < elapsed s.clock (s.link l).lastByte →
        exec (.interByteGapTimeout l) s = .next (onLink l (fun ls => LinkState.raise .linkError
          { ls with rx := .hunt, checkErrors := min (ls.checkErrors + 1) 65535, checkFlag := true }) s))
      ∧ (∀ got stopLow, elapsed s.clock (s.link l).lastByte ≤ 200 →
          ((s.link l).rx = .check got ∧ b ≠ crc8 (byteOf got.length :: got))
            ∨ ((s.link l).rx = .length ∧ (b.toNat = 0 ∨ 64 < b.toNat)) ∨ ((s.link l).rx ≠ .hunt ∧ stopLow = true) →
        exec (.receiveByte l b stopLow) s = .next (onLink l (fun ls => LinkState.raise .linkError
          { ls with rx := .hunt, checkErrors := min (ls.checkErrors + 1) 65535, checkFlag := true }) s))

/-- A break resets its link: the whole port is as after a reset with the line known low, a frame being sent is cut off
after the byte under way, its roles are given up, TONE with a teardown that moves every generation on, its demand
membership is removed, and the other links keep their buffers, streams, windows and limits; only the RAIL events of a
change of target can move a stream's cursor past an event they overwrite. LINE_RETURNS_HIGH lets bytes be taken again
from HUNT. A byte takes 5 microseconds (log 16). That at the very end of a byte the next one is under way (log 46),
and that the port's last-byte time goes back to 0 (log 28), are the model's choices. -/
def Obligations.BreakResetsLink : Prop :=
  ∀ (l : Link) (s : State), s.phase = .running →
    let cut := (s.link l).sending.map fun sd => { sd with bytes := sd.bytes.take (elapsed s.clock sd.start / 5 + 1) }
    ((s.link l).lineLow = false → s.roles.tone ≠ some l → s.roles.panel ≠ some l →
        (s.rlc.demand.setLink l false).any = s.rlc.demand.any → s.sysReset = .none →
        exec (.lineBreak l) s = .next (onRlc (fun r => { r with demand := r.demand.setLink l false })
          (onLink l (fun _ => { lineLow := true, sending := cut }) s)))
      ∧ ((s.link l).lineLow = false →
        ∃ t, exec (.lineBreak l) s = .next t ∧ t.roles.tone ≠ some l ∧ t.roles.panel ≠ some l
          ∧ t.rlc.demand = s.rlc.demand.setLink l false
          ∧ t.link l = { lineLow := true, sending := cut }
          ∧ (t.link l).rxBuf = [] ∧ (t.link l).stream = none ∧ (t.link l).limit = .b16 ∧ (t.link l).sending = cut
          ∧ (t.link l).tx = [] ∧ (t.link l).notice.enable = false ∧ (t.link l).base0 = 0 ∧ (t.link l).base1 = 8
          ∧ (t.link l).depthPeriod = 0
          ∧ (s.roles.tone = some l → t.vas.queue = [] ∧ ∀ n, t.slot n = { gen := (s.slot n).gen + 1, stale := false, voice := none })
          ∧ (∀ m, m ≠ l → (t.link m).rxBuf = (s.link m).rxBuf ∧ (t.link m).limit = (s.link m).limit ∧ (t.link m).rx = (s.link m).rx
              ∧ (t.link m).stream.map Machine.Stream.threshold = (s.link m).stream.map Machine.Stream.threshold
              ∧ (t.link m).sending = (s.link m).sending ∧ (t.link m).base0 = (s.link m).base0 ∧ (t.link m).base1 = (s.link m).base1
              ∧ (t.link m).depthPeriod = (s.link m).depthPeriod
              ∧ ((s.rlc.demand.setLink l false).any = s.rlc.demand.any → (t.link m).stream = (s.link m).stream)))
      ∧ ((s.link l).lineLow = true →
        exec (.lineReturnsHigh l) s = .next (onLink l (fun ls => { ls with lineLow := false, rx := .hunt }) s))

/-- TRANSMIT_FRAME_START hands the frame at the head of the queue to a free transmitter, which frees its place; a
NOTICE frame is given its tag and accumulated classes at that moment, and they and queued-unsent are cleared.
PENDING_NOTICE_QUEUED queues the lowest-numbered waiting entry in a free place. -/
def Obligations.TransmitterTakesHead : Prop :=
  ∀ (l : Link) (rest : List TxFrame) (s : State), s.phase = .running →
    (∀ f p, f = .reply p ∨ f = .voiceOrders p ∨ f = .depth p → (s.link l).sending = none → (s.link l).tx = f :: rest →
        exec (.transmitFrameStart l) s = .next (onLink l (fun ls =>
          { ls with tx := rest, sending := some { bytes := envelope p, start := s.clock } }) s))
      ∧ (∀ i : Fin 8, (s.link l).sending = none → (s.link l).tx = .notice i :: rest →
        ∃ ls : LinkState, exec (.transmitFrameStart l) s = .next (onLink l (fun _ => ls) s)
          ∧ ls.tx = rest ∧ ls.entry i = { (s.link l).entry i with acc := 0, queued := false }
          ∧ (∀ j, j ≠ i → ls.entry j = (s.link l).entry j)
          ∧ ls.sending = some { bytes := envelope ([0x70, byteOf i.val] ++ le16 ((s.link l).entry i).tag.toNat ++ le16 ((s.link l).entry i).acc.toNat), start := s.clock })
      ∧ (∀ i : Fin 8, (s.link l).placeFree = true → (s.link l).nextEligible = some i →
        ∃ ls : LinkState, exec (.pendingNoticeQueued l) s = .next (onLink l (fun _ => ls) s)
          ∧ ls.tx = (s.link l).tx ++ [.notice i]
          ∧ ls.entry i = { (s.link l).entry i with queued := true, pending := false }
          ∧ ∀ j, j ≠ i → ls.entry j = (s.link l).entry j)

/-! ## Sensing -/

/-- FRAME_START at the due time takes up a pending list, reads settle and period and begins the first entry;
SETTLE_END after the settle interval makes the sample instant now; CONVERSION_END 4 µs later stores every raw value of
a key group, gives every key whose channel is HEALTHY and in range its normalised depth, and goes on to the entry's
next index when the end flag is clear and the walk is short of 64. Calibration, roles, clock and queue are untouched.
A conversion's results are handled one by one and the walk then goes on to the next entry, selecting its group, or
ends: at the end flag, or with LIST_LOOP at the 64th entry. The end of a walk is counted on each link's depth stream,
whose frame is queued or skipped; a walk that ends past the due time is an overrun and starts the next frame at once.
A channel fails at the 32nd out-of-range conversion in a row and recovers at the 1,024th in range. The clauses over
every list of results (any order, any channels, none at all) rest on logs 4 and 15, and the clauses on queued depth
frames and on the count of skipped frames, at a walk's end that is the first frame end, on log 43 (depth frames join
before the rail's test for quiet and its RAIL_STATE notice), and at a late walk's end on log 48 (they join before the
FRAME_OVERRUN notice): there they are the model's choice. -/
def Obligations.WalkGoesOn : Prop :=
  (∀ s : State, s.phase = .running →
      (∀ d, s.sfe.walk = .waiting → s.sfe.due = some d → elapsed s.clock d < 2147483648 →
          ∃ t, exec .frameStart s = .next t ∧ t = { s with sfe := t.sfe }
            ∧ t.sfe.active = s.sfe.pendingList.getD s.sfe.active ∧ t.sfe.pendingList = none
            ∧ t.sfe.settle = s.cst.user.working.settle
            ∧ t.sfe.due = some (s.clock + BitVec.ofNat 32 s.cst.user.working.period)
            ∧ t.sfe.selected = some (t.sfe.active.entries[t.sfe.active.first]).group
            ∧ muxSelect t = (t.sfe.active.entries[t.sfe.active.first]).group.code
            ∧ t.sfe.walk = (if t.sfe.selected = s.sfe.selected then .converting { index := t.sfe.active.first, count := 0 } s.clock
                else .settling { index := t.sfe.active.first, count := 0 } s.clock))
        ∧ (∀ pos since, s.sfe.walk = .settling pos since → s.sfe.settle ≤ elapsed s.clock since →
          exec .settleEnd s = .next (onSfe (fun f => { f with walk := .converting pos s.clock }) s))
        ∧ (∀ (rs : List AinResult) (pos : WalkPos) (t0 : Clock), s.sfe.walk = .converting pos t0 → 4 ≤ elapsed s.clock t0 →
          ∃ t, exec (.conversionEnd rs) s = .next t
            ∧ t.pending = s.pending ∧ t.cst = s.cst ∧ t.roles = s.roles ∧ t.clock = s.clock
            ∧ ((s.sfe.active.entries[pos.index]).last = false → pos.count + 1 < 64 →
                t.sfe.walk = .settling { index := (s.sfe.active.entries[pos.index]).next, count := pos.count + 1 } s.clock
                  ∨ t.sfe.walk = .converting { index := (s.sfe.active.entries[pos.index]).next, count := pos.count + 1 } s.clock)
            ∧ (∀ r ∈ rs, ∀ g, (s.sfe.active.entries[pos.index]).group = .k g → (rs.map (·.ain)).Nodup →
                (t.sfe.keyCh[groupKey g r.ain]).lastRaw = some r.raw
                  ∧ ((s.sfe.keyCh[groupKey g r.ain]).failed = false → 40 ≤ r.raw → r.raw ≤ 4055 →
                      (t.key (groupKey g r.ain)).depth =
                        normalise (s.cst.factory.working.keySensor[groupKey g r.ain]).keyRest
                          (s.cst.factory.working.keySensor[groupKey g r.ain]).keyBottom r.raw))))
    ∧ (∀ (rs : List AinResult) (pos : WalkPos) (t0 : Clock) (s : State), s.phase = .running → s.sfe.walk = .converting pos t0 →
        4 ≤ elapsed s.clock t0 →
          ∃ u, exec (.conversionEnd rs) s = .next (nextEntry pos u)
            ∧ u = rs.foldl (convertResult (s.sfe.active.entries[pos.index]).group t0) s
            ∧ u.sfe = { s.sfe with keyCh := u.sfe.keyCh, hammerCh := u.sfe.hammerCh, pedalCh := u.sfe.pedalCh })
    ∧ (∀ (pos : WalkPos) (s : State),
        let e := s.sfe.active.entries[pos.index]
        let late := ∃ d, s.sfe.due = some d ∧ d ≠ s.clock ∧ elapsed s.clock d < 2147483648
        let t := nextEntry pos s
        (e.last = false → pos.count + 1 < 64 →
            let g := (s.sfe.active.entries[e.next]).group
            t = { s with sfe := { s.sfe with
                    selected := some g
                    walk := if s.sfe.selected = some g then .converting { index := e.next, count := pos.count + 1 } s.clock
                      else .settling { index := e.next, count := pos.count + 1 } s.clock } }
              ∧ muxSelect t = g.code)
          ∧ (e.last = true ∨ 64 ≤ pos.count + 1 →
            t.rlc.sensingSeen = true
              ∧ t.faults.flags.getLsbD 0 = (s.faults.flags.getLsbD 0 || !e.last)
              ∧ t.keys = s.keys ∧ t.pdu = s.pdu ∧ t.vas = s.vas ∧ t.tks = s.tks ∧ t.ply = s.ply ∧ t.cst = s.cst
              ∧ (∀ l, (t.link l).depthPeriod = (s.link l).depthPeriod
                  ∧ ((s.link l).depthPeriod = 0 → (t.link l).depthCount = (s.link l).depthCount
                      ∧ (t.link l).depthNumber = (s.link l).depthNumber)
                  ∧ ((s.link l).depthCount + 1 < (s.link l).depthPeriod → (t.link l).depthCount = (s.link l).depthCount + 1
                      ∧ (t.link l).depthNumber = (s.link l).depthNumber)
                  ∧ ((s.link l).depthPeriod ≠ 0 → (s.link l).depthPeriod ≤ (s.link l).depthCount + 1 →
                      (t.link l).depthCount = 0 ∧ (t.link l).depthNumber = (s.link l).depthNumber + 1
                        ∧ ((s.link l).placeFree = true → (s.link l).tx ++ [.depth (depthPayload s (s.link l))] <+: (t.link l).tx)
                        ∧ ((s.link l).placeFree = false → (t.link l).tx = (s.link l).tx)))
              ∧ t.faults.skipped = [Link.a, Link.b, Link.c].foldl (fun n l =>
                  if (s.link l).depthPeriod ≠ 0 ∧ (s.link l).depthPeriod ≤ (s.link l).depthCount + 1 ∧ (s.link l).placeFree = false
                  then min (n + 1) 65535 else n) s.faults.skipped
              ∧ (¬late → t.sfe = { s.sfe with walk := .waiting } ∧ t.faults.overruns = s.faults.overruns
                  ∧ t.faults.flags.getLsbD 1 = s.faults.flags.getLsbD 1)
              ∧ (late →
                let list := s.sfe.pendingList.getD s.sfe.active
                let g := (list.entries[list.first]).group
                t.faults.overruns = min (s.faults.overruns + 1) 65535 ∧ t.faults.flags.getLsbD 1 = true
                  ∧ t.sfe = { s.sfe with
                      active := list
                      pendingList := none
                      settle := s.cst.user.working.settle
                      due := some (s.clock + BitVec.ofNat 32 s.cst.user.working.period)
                      selected := some g
                      walk := if s.sfe.selected = some g then .converting { index := list.first, count := 0 } s.clock
                        else .settling { index := list.first, count := 0 } s.clock }
                  ∧ muxSelect t = g.code)))
    ∧ (∀ (s : State) (ls : LinkState) (p : Fin 8) (j k : Key), j.val = ls.base0.val + p.val → k.val = ls.base1.val + p.val →
        let f := depthPayload s ls
        f.length = 42 ∧ f.take 4 = [kDepth, ls.depthNumber, byteOf ls.base0.val, byteOf ls.base1.val]
          ∧ (f.drop (4 + 2 * p.val)).take 2 = le16 (s.key j).depth ∧ (f.drop (20 + 2 * p.val)).take 2 = le16 (s.key k).depth
          ∧ f.drop 36 = le16 s.pdu.damper.depth ++ le16 s.pdu.sostenuto.depth ++ le16 s.pdu.soft.depth)
    ∧ (∀ (ch : ChannelRec) (raw : Nat),
        let c := channelTest ch raw
        let inRange := 40 ≤ raw ∧ raw ≤ 4055
        (ch.failed = false → inRange →
            c = { record := { ch with lastRaw := some raw, outRun := 0, delivered := true }, passes := true, first := !ch.delivered })
          ∧ (ch.failed = false → ¬inRange → ch.outRun + 1 < 32 →
            c = { record := { ch with lastRaw := some raw, outRun := ch.outRun + 1 } })
          ∧ (ch.failed = false → ¬inRange → 32 ≤ ch.outRun + 1 →
            c = { record := { ch with lastRaw := some raw, failed := true, outRun := 32, inRun := 0 }, fails := true })
          ∧ (ch.failed = true → ¬inRange → c = { record := { ch with lastRaw := some raw, inRun := 0 } })
          ∧ (ch.failed = true → inRange → ch.inRun + 1 < 1024 →
            c = { record := { ch with lastRaw := some raw, inRun := ch.inRun + 1 } })
          ∧ (ch.failed = true → inRange → 1024 ≤ ch.inRun + 1 →
            c = { record := { ch with lastRaw := some raw, failed := false, outRun := 0, inRun := 1024, delivered := true }
                  recovers := true, passes := true, first := !ch.delivered }))

/-- A raw value below 40 or above 4055 is out of range, and one within 40…4055 in range, whatever the calibration. On
a HEALTHY channel an out-of-range sample adds one to the run and is withheld, and an in-range sample sets the run to 0
and is passed on. -/
def Obligations.RangeTestOnHealthyChannel : Prop :=
  ∀ (ch : ChannelRec) (raw : Nat), ch.failed = false → ch.outRun < 32 →
    (raw < 40 ∨ 4055 < raw → (channelTest ch raw).record.outRun = ch.outRun + 1 ∧ (channelTest ch raw).passes = false)
      ∧ (40 ≤ raw → raw ≤ 4055 → (channelTest ch raw).record.outRun = 0 ∧ (channelTest ch raw).passes = true
          ∧ (channelTest ch raw).record.failed = false)

/-- The lift of a key or pedal never falls as its depth grows and lies within 0…255: 0 below the start, 255 from the
full depth on. Under a curve that CAL WRITE accepts, a shorter interval between the gates never makes a softer strike,
and every strike level lies within 1…1023. A key-depth result reaches the tracker as its channel's health says. The
sample sets depth and lift and moves the key through UP, DOWN and RISING; a sounding key that returns to UP makes a
RELEASE with the level of its rise time. A first sample, or the first one after a recovery, sets the key up afresh
without an event; that a sounding flag set before it stays set is the model's choice (log 35). That a RISING key
enters RISING again, with a new rise-start time, on a sample that takes it through DOWN is log 26's reading. -/
def Obligations.LiftsAndLevelsRise : Prop :=
  ((∀ p1 p2 d e : Nat, d ≤ e →
        liftOf p1 p2 d ≤ liftOf p1 p2 e ∧ liftOf p1 p2 e ≤ 255 ∧ (d < p1 → liftOf p1 p2 d = 0) ∧ (p1 ≤ d → p2 ≤ d → liftOf p1 p2 d = 255))
      ∧ (∀ (curve : Vector Breakpoint 9) (trim spacing slow fast : Nat), curveOrdered curve.toList = true → fast ≤ slow →
        strikeLevel curve trim spacing slow ≤ strikeLevel curve trim spacing fast
          ∧ 1 ≤ strikeLevel curve trim spacing fast ∧ strikeLevel curve trim spacing fast ≤ 1023))
    ∧ (∀ (k : Key) (time : Clock) (d : Nat) (s : State), (s.key k).heldOut = false →
        let r := s.key k
        let p := s.cst.user.working.profile
        let lift := liftOf p.damperStart p.damperFull d
        let t := keyDepthSample k time false d s
        let becomes := fun st : KeyState =>
          t.key k = { r with depth := d, lift := lift, state := st } ∧ t.ajn = s.ajn ∧ t.tks = s.tks
        (∀ j, j ≠ k → t.key j = s.key j) ∧ t.ply = s.ply ∧ t.pdu = s.pdu ∧ t.rlc = s.rlc ∧ t.sfe = s.sfe
          ∧ (r.state = .up → d < p.press → becomes .up)
          ∧ (r.state = .up → p.press ≤ d → p.releaseStart ≤ d → becomes .down)
          ∧ (r.state = .down → p.releaseStart ≤ d → becomes .down)
          ∧ (r.state = .down → d < p.releaseStart → p.noteOff ≤ d → becomes (.rising time (decide (d < p.press))))
          ∧ (r.state = .up → p.press ≤ d → d < p.releaseStart → p.noteOff ≤ d → becomes (.rising time false))
          ∧ (∀ t0 below, r.state = .rising t0 below → d < p.press → p.noteOff ≤ d → becomes (.rising t0 true))
          ∧ (∀ t0, r.state = .rising t0 true → p.press ≤ d → d < p.releaseStart → p.noteOff ≤ d → becomes (.rising time false))
          ∧ (∀ t0, r.state = .rising t0 false → p.press ≤ d → p.noteOff ≤ d → d < p.releaseStart → becomes (.rising t0 false))
          ∧ (∀ t0 below, r.state = .rising t0 below → p.press ≤ d → p.releaseStart ≤ d → becomes .down)
          ∧ (∀ t0, d < p.noteOff → d < p.press →
              (r.state = .down ∧ d < p.releaseStart ∧ t0 = time)
                ∨ (∃ below, r.state = .rising t0 below) →
              t.key k = { r with depth := d, lift := lift, state := .up, sounding := false }
                ∧ (r.sounding = false → t.ajn = s.ajn ∧ t.tks = s.tks)
                ∧ (r.sounding = true → t.ajn = s.ajn.push
                    { time := time, kind := .release, source := .live, key := some k.val
                      value := max 1 (min ((p.releaseStart - p.noteOff) * 4000 / max (elapsed time t0) 1) 1023) })))
    ∧ (∀ (k : Key) (time : Clock) (first : Bool) (d : Nat) (s : State),
        let r := s.key k
        let p := s.cst.user.working.profile
        let t := keyDepthSample k time first d s
        (r.heldOut = true → r.depthFailed = true ∨ r.hammerFailed = true → t = onKey k (fun q => { q with depth := d }) s)
          ∧ ((r.heldOut = true ∧ r.depthFailed = false ∧ r.hammerFailed = false) ∨ (r.heldOut = false ∧ first = true) →
            t.key k = { r with
                        depth := d
                        lift := liftOf p.damperStart p.damperFull d
                        state := if p.press ≤ d then .down else .up
                        heldOut := false }
              ∧ (∀ j, j ≠ k → t.key j = s.key j) ∧ t.ajn = s.ajn ∧ t.tks = s.tks ∧ t.ply = s.ply ∧ t.pdu = s.pdu))
    ∧ (∀ (g : Fin 11) (time : Clock) (r : AinResult) (k : Key) (s : State), k.val = 8 * g.val + r.ain.val →
        let c := channelTest s.sfe.keyCh[k] r.raw
        let s1 := onSfe (fun f => { f with keyCh := f.keyCh.set k c.record }) s
        let cal := s.cst.factory.working.keySensor[k]
        let sample := keyDepthSample k time c.first (normalise cal.keyRest cal.keyBottom r.raw)
        let t := convertResult (.k g) time s r
        (c.fails = true → t = keyChannelFailed false k time (reportFault .sensorFail s1))
          ∧ (c.recovers = true → t = sample (keyChannelRecovered false k time s1))
          ∧ (c.fails = false → c.recovers = false → c.passes = true → t = sample s1)
          ∧ (c.fails = false → c.passes = false → t = s1))

/-- A hammer sample of a key that is not held out touches no other key's record and always becomes the height and the
sample time. A READY hammer, its hold expired if it had one, stays READY without a gate-1 crossing, becomes ARMED with
the bank in force and the crossing time with one alone, and goes on at once as an ARMED one when the pair crosses gate
2 too; while a hold runs it stays READY. An ARMED hammer that crosses its bank's gate 2 within the timeout makes a
STRIKE (a RESTRIKE of a sounding key) with the strike level and its three flags, journalled before the player is
handed it, and is SPENT, its key sounding and no longer UP; past the timeout, or below the re-arm height or too old
without a crossing, it is READY and one missed strike is counted; else it stays ARMED, re-timed by a new gate-1
crossing. A SPENT hammer below the re-arm height becomes READY, with a rebound hold under the SILENT route only, and
stays SPENT otherwise. A hammer result reaches the tracker as its channel's health says. A failing channel of a key
holds the key out, UP, silent, its hammer READY and its re-arm time absent whatever the hammer state was (log 25),
after a RELEASE of level 1 if it sounded, with KEY_FAIL; a recovery that leaves both channels HEALTHY makes
KEY_RECOVER. A sample of a held-out key, or a first one, is stored alone. That the journal has the event before the
player is handed it is the model's choice (log 49). -/
def Obligations.HammerSamplesMakeStrikes : Prop :=
  (∀ (k : Key) (time : Clock) (h : Nat) (s : State), (s.key k).heldOut = false →
      let r := s.key k
      let hp := s.cst.user.working.hammer
      let gates := s.cst.factory.working.gates[k]
      let cross := fun T => crossing (hp.gateTimeoutMs * 1000) T r.hammerTime r.height time h
      let t := hammerSample k time false h s
      let free := r.rearm = none ∨ ∃ t0, r.rearm = some t0 ∧ hp.reboundMs * 1000 ≤ elapsed time t0
      let strikes := fun (bank : Side) (interval : Nat) (rearm : Option Clock) =>
        let e : Event :=
          { time := time
            kind := if r.sounding then .restrike else .strike
            source := .live
            key := some k.val
            value := strikeLevel s.cst.user.working.curve s.cst.user.working.trim[k] (gates.bank bank).spacing interval
            flags := { bank := some bank, transit := s.rlc.state.inTransit, calDefault := s.cst.defaultMarking } }
        t.key k = { r with
                    height := h
                    hammerTime := some time
                    hammer := .spent
                    rearm := rearm
                    sounding := true
                    state := if r.state = .up then .down else r.state }
          ∧ t.faults.missed = s.faults.missed
          ∧ ∃ u, t = playerEvent e u ∧ u.ajn = s.ajn.push e ∧ u.ply = s.ply ∧ u.key k = t.key k
            ∧ (s.ply.isWaiting = false ∨ s.ply.expected.has k = false → t = u)
            ∧ (s.ply.isWaiting = true → s.ply.expected.has k = true → s.ply.expected.drop k ≠ KeySet.empty →
                t = { u with ply := { s.ply with expected := s.ply.expected.drop k } })
      (∀ j, j ≠ k → t.key j = s.key j) ∧ (t.key k).height = h ∧ (t.key k).hammerTime = some time
        ∧ (r.hammer = .ready → free → cross (gates.bank (gateBank s)).gate1 = none →
            t = onKey k (fun q => { q with height := h, hammerTime := some time, rearm := none }) s)
        ∧ (∀ g1, r.hammer = .ready → free → cross (gates.bank (gateBank s)).gate1 = some g1 →
            cross (gates.bank (gateBank s)).gate2 = none →
            t = onKey k (fun q =>
              { q with height := h, hammerTime := some time, hammer := .armed (gateBank s) g1, rearm := none }) s)
        ∧ (∀ g1 tc, r.hammer = .ready → free → cross (gates.bank (gateBank s)).gate1 = some g1 →
            cross (gates.bank (gateBank s)).gate2 = some tc →
            (elapsed tc g1 ≤ hp.gateTimeoutMs * 1000 → strikes (gateBank s) (elapsed tc g1) none)
              ∧ (hp.gateTimeoutMs * 1000 < elapsed tc g1 →
                t = { onKey k (fun q => { q with height := h, hammerTime := some time, hammer := .ready, rearm := none }) s with
                      faults := { s.faults with missed := min (s.faults.missed + 1) 65535 } }))
        ∧ (∀ t0, r.hammer = .ready → r.rearm = some t0 → elapsed time t0 < hp.reboundMs * 1000 →
            t = onKey k (fun q => { q with height := h, hammerTime := some time }) s)
        ∧ (∀ bank g1 tc, r.hammer = .armed bank g1 → cross (gates.bank bank).gate2 = some tc →
            elapsed tc g1 ≤ hp.gateTimeoutMs * 1000 → strikes bank (elapsed tc g1) r.rearm)
        ∧ (∀ bank g1, r.hammer = .armed bank g1 → cross (gates.bank bank).gate2 = none → hp.rearmHeight ≤ h →
            elapsed time g1 ≤ hp.gateTimeoutMs * 1000 →
            t = onKey k (fun q => { q with
              height := h
              hammerTime := some time
              hammer := .armed bank ((cross (gates.bank bank).gate1).getD g1) }) s)
        ∧ (r.hammer = .spent → hp.rearmHeight ≤ h → t = onKey k (fun q => { q with height := h, hammerTime := some time }) s)
        ∧ (∀ bank g1, r.hammer = .armed bank g1 →
            (∃ tc, cross (gates.bank bank).gate2 = some tc ∧ hp.gateTimeoutMs * 1000 < elapsed tc g1)
              ∨ (cross (gates.bank bank).gate2 = none ∧ (h < hp.rearmHeight ∨ hp.gateTimeoutMs * 1000 < elapsed time g1)) →
            t = { onKey k (fun q => { q with height := h, hammerTime := some time, hammer := .ready }) s with
                  faults := { s.faults with missed := min (s.faults.missed + 1) 65535 } })
        ∧ (r.hammer = .spent → h < hp.rearmHeight →
            t = onKey k (fun q =>
              { q with height := h, hammerTime := some time, hammer := .ready
                       rearm := if soundRoute s = .silent ∧ 0 < hp.reboundMs then some time else none }) s))
    ∧ (∀ (hammer : Bool) (k : Key) (time : Clock) (s : State),
        let r := s.key k
        let t := keyChannelFailed hammer k time s
        t.key k = { r with
                    depthFailed := r.depthFailed || !hammer
                    hammerFailed := r.hammerFailed || hammer
                    hammer := .ready
                    rearm := none
                    hammerTime := if hammer then none else r.hammerTime
                    sounding := false
                    heldOut := true
                    state := .up
                    lift := 0 }
          ∧ (∀ j, j ≠ k → t.key j = s.key j) ∧ t.ply = s.ply ∧ t.pdu = s.pdu ∧ t.sfe = s.sfe ∧ t.faults.flags.getLsbD 2 = s.faults.flags.getLsbD 2
          ∧ (s.rlc.state ≠ .unknown → (∀ w, s.rlc.state ≠ .waiting w) →
            t.rlc = s.rlc
              ∧ t.ajn = (if r.sounding then s.ajn.push
                    { time := time, kind := .release, source := .live, key := some k.val, value := 1, flags := { failed := true } }
                  else s.ajn).push
                { time := time, kind := .keyFail, source := .live, key := some k.val, value := if hammer then 2 else 1 }))
    ∧ (∀ (hammer : Bool) (k : Key) (time : Clock) (s : State),
        let r := s.key k
        let other := if hammer then r.depthFailed else r.hammerFailed
        let t := keyChannelRecovered hammer k time s
        t.key k = (if hammer then { r with hammerFailed := false } else { r with depthFailed := false })
          ∧ (∀ j, j ≠ k → t.key j = s.key j) ∧ t.ply = s.ply ∧ t.pdu = s.pdu ∧ t.vas = s.vas ∧ t.tks = s.tks
          ∧ (s.rlc.state ≠ .unknown → (∀ w, s.rlc.state ≠ .waiting w) →
            t.rlc = s.rlc
              ∧ t.ajn = (if other then s.ajn
                  else s.ajn.push { time := time, kind := .keyRecover, source := .live, key := some k.val, value := 0 })))
    ∧ (∀ (k : Key) (time : Clock) (first : Bool) (h : Nat) (s : State), (s.key k).heldOut = true ∨ first = true →
        hammerSample k time first h s = onKey k (fun q => { q with height := h, hammerTime := some time }) s)
    ∧ (∀ (g : Fin 11) (time : Clock) (r : AinResult) (k : Key) (s : State), k.val = 8 * g.val + r.ain.val →
        let c := channelTest s.sfe.hammerCh[k] r.raw
        let s1 := onSfe (fun f => { f with hammerCh := f.hammerCh.set k c.record }) s
        let cal := s.cst.factory.working.keySensor[k]
        let sample := fun u => quietMove (hammerSample k time c.first (normalise cal.hammerRest cal.hammerTop r.raw) u)
        let t := convertResult (.h g) time s r
        (c.fails = true → t = keyChannelFailed true k time (reportFault .sensorFail s1))
          ∧ (c.recovers = true → t = sample (keyChannelRecovered true k time s1))
          ∧ (c.fails = false → c.recovers = false → c.passes = true → t = sample s1)
          ∧ (c.fails = false → c.passes = false → t = s1))

/-- A sample of the DAMPER or SOFT pedal sets its depth and its lift, and makes one event with the new lift exactly
when it differs from the last reported by the pedal step, or is 0 or 255 and differs at all; the lift is then the last
reported. The sostenuto pedal at or above its on-threshold goes ON and captures exactly the keys that are not UP, with
an event that carries their number; below its off-threshold, or its on-threshold if that is lower, it goes OFF and
empties the set, with an event that carries how many it held; otherwise only its depth changes. A pedal result reaches
the pedal unit as its channel's health says, and those of AIN3 to AIN7 are discarded. A failing channel takes its
pedal's lift to 0, with an event where another lift was last reported, or turns sostenuto OFF, and sets PEDAL_FAIL; a
recovery clears the health alone. The first sample of DAMPER or SOFT sets depth, lift and last reported lift with no
event; that of sostenuto sets its depth alone, ON or OFF and its set as they were. Every change of a DAMPER or SOFT
lift reaches the voice assigner. -/
def Obligations.PedalSamplesFollowed : Prop :=
  ((∀ (time : Clock) (d : Nat) (s : State),
        let pts := s.cst.user.working.pedals
        (∀ p, p ≠ .sostenuto →
            let r := s.pdu.get p
            let x := pedalLiftOf pts p d
            let called := pts.step ≤ x - r.reported ∨ pts.step ≤ r.reported - x ∨ ((x = 0 ∨ x = 255) ∧ x ≠ r.reported)
            let t := pedalSample p time false d s
            t.pdu.get p = { r with depth := d, lift := x, reported := if called then x else r.reported }
              ∧ t.ajn = (if called then s.ajn.push { time := time, kind := p.kind, source := .live, key := none, value := x } else s.ajn)
              ∧ t.pdu.sostSet = s.pdu.sostSet ∧ t.keys = s.keys ∧ t.ply = s.ply)
          ∧ (s.pdu.sostOn = false → s.pdu.sostSet = KeySet.empty → pts.sostOnAt ≤ d →
            let t := pedalSample .sostenuto time false d s
            t.pdu.sostOn = true ∧ t.pdu.sostenuto = { s.pdu.sostenuto with depth := d, lift := 255 }
              ∧ (∀ k, t.pdu.sostSet.has k = true ↔ (s.key k).state ≠ .up)
              ∧ t.ajn = s.ajn.push { time := time, kind := .sostenuto, source := .live, key := some t.pdu.sostSet.size, value := 1 }
              ∧ t.keys = s.keys ∧ t.ply = s.ply)
          ∧ (s.pdu.sostOn = true → d < min pts.sostOffAt pts.sostOnAt →
            let t := pedalSample .sostenuto time false d s
            t.pdu.sostOn = false ∧ t.pdu.sostenuto = { s.pdu.sostenuto with depth := d, lift := 0 } ∧ t.pdu.sostSet = KeySet.empty
              ∧ t.ajn = s.ajn.push { time := time, kind := .sostenuto, source := .live, key := some s.pdu.sostSet.size, value := 0 }
              ∧ t.keys = s.keys ∧ t.ply = s.ply)
          ∧ (s.pdu.sostOn = true ∧ min pts.sostOffAt pts.sostOnAt ≤ d ∨ s.pdu.sostOn = false ∧ d < pts.sostOnAt →
            pedalSample .sostenuto time false d s = setPedalDepth .sostenuto d s))
      ∧ (∀ (p : Pedal) (time : Clock) (s : State),
          let r := s.pdu.get p
          let t := pedalChannelFailed p time s
          t.faults.flags.getLsbD 3 = true ∧ t.keys = s.keys ∧ t.ply = s.ply ∧ t.rlc = s.rlc ∧ t.sfe = s.sfe
            ∧ (∀ q, q ≠ p → t.pdu.get q = s.pdu.get q)
            ∧ (p ≠ .sostenuto → t.pdu.get p = { r with failed := true, lift := 0, reported := 0 }
                ∧ t.pdu.sostOn = s.pdu.sostOn ∧ t.pdu.sostSet = s.pdu.sostSet
                ∧ t.ajn = (if r.reported ≠ 0 then s.ajn.push { time := time, kind := p.kind, source := .live, key := none, value := 0 }
                    else s.ajn))
            ∧ (p = .sostenuto → t.pdu.sostOn = false
                ∧ (s.pdu.sostOn = true → t.pdu.get p = { r with failed := true, lift := 0 } ∧ t.pdu.sostSet = KeySet.empty
                    ∧ t.ajn = s.ajn.push { time := time, kind := .sostenuto, source := .live, key := some s.pdu.sostSet.size, value := 0 })
                ∧ (s.pdu.sostOn = false → t.pdu.get p = { r with failed := true } ∧ t.pdu.sostSet = s.pdu.sostSet ∧ t.ajn = s.ajn)))
      ∧ (∀ (p : Pedal) (s : State), (pedalChannelRecovered p s).pdu.get p = { s.pdu.get p with failed := false }
          ∧ (∀ q, q ≠ p → (pedalChannelRecovered p s).pdu.get q = s.pdu.get q)
          ∧ pedalChannelRecovered p s = { s with pdu := (pedalChannelRecovered p s).pdu })
      ∧ (∀ (time : Clock) (r : AinResult) (s : State),
          (3 ≤ r.ain.val → convertResult .p time s r = s)
            ∧ (∀ p : Pedal, r.ain.val = p.index.val →
              let c := channelTest s.sfe.pedalCh[p.index] r.raw
              let s1 := onSfe (fun f => { f with pedalCh := f.pedalCh.set p.index c.record }) s
              let cal := s.cst.factory.working.pedalSensor[p.index]
              let sample := pedalSample p time c.first (normalise cal.rest cal.full r.raw)
              let t := convertResult .p time s r
              (c.fails = true → t = pedalChannelFailed p time (reportFault .sensorFail s1))
                ∧ (c.recovers = true → t = sample (pedalChannelRecovered p s1))
                ∧ (c.fails = false → c.recovers = false → c.passes = true → t = sample s1)
                ∧ (c.fails = false → c.passes = false → t = s1))))
    ∧ (∀ (p : Pedal) (time : Clock) (d : Nat) (s : State),
        let r := s.pdu.get p
        let t := pedalSample p time true d s
        (p = .sostenuto → t = { s with pdu := { s.pdu with sostenuto := { s.pdu.sostenuto with depth := d } } })
          ∧ (p ≠ .sostenuto →
            let x := pedalLiftOf s.cst.user.working.pedals p d
            t.pdu.get p = { r with depth := d, lift := x, reported := x } ∧ (∀ q, q ≠ p → t.pdu.get q = s.pdu.get q)
              ∧ t.pdu.sostOn = s.pdu.sostOn ∧ t.pdu.sostSet = s.pdu.sostSet
              ∧ t.ajn = s.ajn ∧ t.tks = s.tks ∧ t.keys = s.keys ∧ t.ply = s.ply))
    ∧ (∀ (p : Pedal) (time : Clock) (first : Bool) (d : Nat) (s : State), p ≠ .sostenuto →
        (pedalSample p time first d s).vas =
            (setPedalLift p (pedalLiftOf s.cst.user.working.pedals p d) (setPedalDepth p d s)).vas
          ∧ (pedalChannelFailed p time s).vas =
            (setPedalLift p 0 (onPdu (fun u => u.modify p fun r => { r with failed := true }) s)).vas)

/-! ## Power and reset -/

/-- A power-on reset with RESETn high clears every block and loads both regions from images that pass, and loads the
built-in defaults with CAL_INVALID and the default marking when the factory image fails; with RESETn low it waits.
REGIONS_LOADED takes the stored lists up and starts the first frame. RESETn going low makes a system reset arrive
behind the commits in flight; going high it lets a waiting start-up go on. Power loss leaves the part off with nothing
in the take store. The wait of a power-on reset for the pin (log 8) and what a power loss leaves at once (log 7) are
the model's choices. So are the built-in layer list before REGIONS_LOADED (log 10) and a POWER_ON_RESET on a part at
work, which stands for power removed and applied (log 14). -/
def Obligations.ResetCommandsAct : Prop :=
  ∀ s : State,
    (s.resetnLow = false → s.cst.factory.commit = none → s.cst.user.commit = none → s.cst.factory.stored.passes = true →
        s.cst.user.stored.passes = true →
        ∃ t, exec .powerOnReset s = .next t ∧ t.phase = .loading ∧ t.clock = 0 ∧ t.keys = State.reset.keys
          ∧ t.ajn = {} ∧ t.vas = Vas.initial ∧ t.tks = Tks.initial ∧ t.ply = {} ∧ t.faults = {} ∧ t.roles = {}
          ∧ t.sysReset = .none ∧ t.cst.factory.working = s.cst.factory.stored.contents
          ∧ t.cst.user.working = s.cst.user.stored.contents ∧ t.cst.factory.modified = false
          ∧ t.cst.user.modified = false ∧ t.cst.committedOption = s.cst.factory.stored.contents.option
          ∧ t.cst.defaultMarking = false ∧ t.pending = s.pending)
      ∧ (s.resetnLow = false → s.cst.factory.commit = none → s.cst.factory.stored.passes = false →
        ∃ t, exec .powerOnReset s = .next t ∧ t.phase = .loading ∧ t.cst.factory.working = defaultFactory
          ∧ t.cst.factory.modified = true ∧ t.cst.committedOption = defaultOption ∧ t.cst.defaultMarking = true
          ∧ t.faults.flags.getLsbD 9 = true ∧ t.faults.first = some .calInvalid)
      ∧ (s.resetnLow = true → ∃ t, exec .powerOnReset s = .next t ∧ t.phase = .heldInReset ∧ t.keys = State.reset.keys)
      ∧ (s.phase = .loading →
        ∃ t, exec .regionsLoaded s = .next t ∧ t.phase = .running ∧ t.vas.layers = s.cst.user.working.layers
          ∧ t.sfe.active = s.cst.user.working.scan ∧ t.sfe.staging = s.cst.user.working.scan
          ∧ t.sfe.due = some (s.clock + BitVec.ofNat 32 s.cst.user.working.period) ∧ t.rlc = s.rlc)
      ∧ (s.resetnLow = false → s.phase = .running → s.sysReset = .none →
        exec .resetnLow s = .next
          { s with resetnLow := true, sysReset := .arrived s.cst.factory.commit.isSome s.cst.user.commit.isSome })
      ∧ (s.phase ≠ .heldInReset → exec .resetnHigh s = .next { s with resetnLow := false })
      ∧ (s.phase = .heldInReset → ∃ t, exec .resetnHigh s = .next t ∧ t.resetnLow = false ∧ t.phase = .loading)
      ∧ (s.phase ≠ .off → ∃ t, exec .powerLoss s = .next t ∧ t.phase = .off ∧ t.tks = Tks.initial
          ∧ t.cst.factory.commit = none ∧ t.cst.user.commit = none)

/-- SYSTEM RESET from the PANEL link is answered DONE and awaits its reply, and a second one changes nothing more. A
system reset that takes effect leaves every slot FREE one generation on, the start counter 0, the journal and the
player at their reset values, the key table cleared, the roles free and the recorder IDLE; CLOSED takes and their
records are kept, and no take is left RECORDING or LOADING; with RESETn low start-up waits. The chains and records of
CLOSED takes are kept where the block table is sound. Every link port is as after a link reset, a frame being sent cut
off after the byte under way (logs 16, 46). -/
def Obligations.SystemResetActs : Prop :=
  (∀ (l : Link) (args : List Byte) (s : State), headRequest l s = some (kSystemReset, args) → s.roles.panel = some l →
      (s.sysReset = .none →
          exec (.systemReset l) s = .next
            (putReply l kSystemReset { result := .done } { popRequest l s with sysReset := .awaitingReply l }))
        ∧ (s.sysReset ≠ .none →
          exec (.systemReset l) s = .next (putReply l kSystemReset { result := .done } (popRequest l s))))
    ∧ (∀ s : State, s.sysReset = .arrived false false →
      ∃ t, exec .systemResetEffect s = .next t
        ∧ (∀ n, t.slot n = { gen := (s.slot n).gen + 1, stale := false, voice := none }) ∧ t.vas.startCounter = 0
        ∧ t.vas.queue = [] ∧ t.ajn = {} ∧ t.ply = {} ∧ t.keys = State.reset.keys ∧ t.roles = {} ∧ t.clock = 0
        ∧ t.sysReset = .none ∧ t.tks.recorder = .idle ∧ t.tks.mem = s.tks.mem
        ∧ (∀ n, (s.take n).state = .closed → t.take n = s.take n)
        ∧ (TakesSound s → ∀ n, (s.take n).state = .closed → takeChain t n = takeChain s n ∧ takeRecords t n = takeRecords s n)
        ∧ (∀ n, (t.take n).state ≠ .recording ∧ (t.take n).state ≠ .loading)
        ∧ (∀ l, t.link l = { lineLow := (s.link l).lineLow
                             sending := (s.link l).sending.map fun sd =>
                               { bytes := sd.bytes.take (elapsed s.clock sd.start / 5 + 1), start := sd.start - s.clock } })
        ∧ (s.resetnLow = true → t.phase = .heldInReset) ∧ (s.resetnLow = false → t.phase = .loading))

/-! ## Encodings -/

/-- A take record whose fields fit is read back from its 32-bit word as it was written; a layer entry whose program
and trim fit is read back from its five bytes as it was written, whatever follows them; and for every calibration item
of both regions the values that CAL READ sends of an entry made from any carried values make that same entry again, so
that a read written back stores what was there. -/
def Obligations.RecordFormsRoundTrip : Prop :=
  (∀ r : TakeRec, r.value ≤ 1023 → r.delta ≤ 2047 → takeRecOfWord r.word = some r)
    ∧ (∀ y : Layer, y.program ≤ 255 → y.trim ≤ 200 → y.low ≤ y.high → ∀ rest, layerAt (y.bytes ++ rest) 0 = some y)
    ∧ (∀ (it : CalItem) (vs : List Nat) (e : CalEntry), it.entryOf vs = some e → it.entryOf e.values = some e)
end

