-- ==== Sys2Proof/Laws/State.lean ====
section
/-! SUPPORT. One lemma for each field of State under each basic update, true by unfolding, so that no later proof unfolds a record update. -/

namespace Sys2Proof.Machine

variable {s : State}

/-! ## One value for each link -/

@[simp] theorem PerLink.get_set_same {α : Type} (p : PerLink α) (l : Link) (x : α) : (p.set l x).get l = x := by
  cases l <;> rfl

theorem PerLink.get_set_ne {α : Type} (p : PerLink α) {l l' : Link} (x : α) (h : l' ≠ l) : (p.set l x).get l' = p.get l' := by
  cases l <;> cases l' <;> first | rfl | exact absurd rfl h

@[simp] theorem PerLink.set_get {α : Type} (p : PerLink α) (l : Link) : p.set l (p.get l) = p := by
  cases l <;> rfl

@[simp] theorem State.link_onLink_same (l : Link) (f : LinkState → LinkState) : (onLink l f s).link l = f (s.link l) := by
  cases l <;> rfl

theorem State.link_onLink_ne {l l' : Link} (f : LinkState → LinkState) (h : l' ≠ l) : (onLink l f s).link l' = s.link l' :=
  PerLink.get_set_ne _ _ h

@[simp] theorem State.link_onEveryLink (l : Link) (f : LinkState → LinkState) : (onEveryLink f s).link l = f (s.link l) := by
  cases l <;> rfl

/-! ## onLink -/

@[simp] theorem onLink_phase (l : Link) (f : LinkState → LinkState) : (onLink l f s).phase = s.phase := rfl
@[simp] theorem onLink_clock (l : Link) (f : LinkState → LinkState) : (onLink l f s).clock = s.clock := rfl
@[simp] theorem onLink_resetnLow (l : Link) (f : LinkState → LinkState) : (onLink l f s).resetnLow = s.resetnLow := rfl
@[simp] theorem onLink_sysReset (l : Link) (f : LinkState → LinkState) : (onLink l f s).sysReset = s.sysReset := rfl
@[simp] theorem onLink_sfe (l : Link) (f : LinkState → LinkState) : (onLink l f s).sfe = s.sfe := rfl
@[simp] theorem onLink_keys (l : Link) (f : LinkState → LinkState) : (onLink l f s).keys = s.keys := rfl
@[simp] theorem onLink_pdu (l : Link) (f : LinkState → LinkState) : (onLink l f s).pdu = s.pdu := rfl
@[simp] theorem onLink_ajn (l : Link) (f : LinkState → LinkState) : (onLink l f s).ajn = s.ajn := rfl
@[simp] theorem onLink_vas (l : Link) (f : LinkState → LinkState) : (onLink l f s).vas = s.vas := rfl
@[simp] theorem onLink_rlc (l : Link) (f : LinkState → LinkState) : (onLink l f s).rlc = s.rlc := rfl
@[simp] theorem onLink_tks (l : Link) (f : LinkState → LinkState) : (onLink l f s).tks = s.tks := rfl
@[simp] theorem onLink_ply (l : Link) (f : LinkState → LinkState) : (onLink l f s).ply = s.ply := rfl
@[simp] theorem onLink_links (l : Link) (f : LinkState → LinkState) : (onLink l f s).links = s.links.set l (f (s.links.get l)) := rfl
@[simp] theorem onLink_roles (l : Link) (f : LinkState → LinkState) : (onLink l f s).roles = s.roles := rfl
@[simp] theorem onLink_faults (l : Link) (f : LinkState → LinkState) : (onLink l f s).faults = s.faults := rfl
@[simp] theorem onLink_cst (l : Link) (f : LinkState → LinkState) : (onLink l f s).cst = s.cst := rfl
@[simp] theorem onLink_freeCount (l : Link) (f : LinkState → LinkState) : (onLink l f s).freeCount = s.freeCount := rfl
@[simp] theorem onLink_pending (l : Link) (f : LinkState → LinkState) : (onLink l f s).pending = s.pending := rfl

/-! ## onEveryLink -/

@[simp] theorem onEveryLink_phase (f : LinkState → LinkState) : (onEveryLink f s).phase = s.phase := rfl
@[simp] theorem onEveryLink_clock (f : LinkState → LinkState) : (onEveryLink f s).clock = s.clock := rfl
@[simp] theorem onEveryLink_resetnLow (f : LinkState → LinkState) : (onEveryLink f s).resetnLow = s.resetnLow := rfl
@[simp] theorem onEveryLink_sysReset (f : LinkState → LinkState) : (onEveryLink f s).sysReset = s.sysReset := rfl
@[simp] theorem onEveryLink_sfe (f : LinkState → LinkState) : (onEveryLink f s).sfe = s.sfe := rfl
@[simp] theorem onEveryLink_keys (f : LinkState → LinkState) : (onEveryLink f s).keys = s.keys := rfl
@[simp] theorem onEveryLink_pdu (f : LinkState → LinkState) : (onEveryLink f s).pdu = s.pdu := rfl
@[simp] theorem onEveryLink_ajn (f : LinkState → LinkState) : (onEveryLink f s).ajn = s.ajn := rfl
@[simp] theorem onEveryLink_vas (f : LinkState → LinkState) : (onEveryLink f s).vas = s.vas := rfl
@[simp] theorem onEveryLink_rlc (f : LinkState → LinkState) : (onEveryLink f s).rlc = s.rlc := rfl
@[simp] theorem onEveryLink_tks (f : LinkState → LinkState) : (onEveryLink f s).tks = s.tks := rfl
@[simp] theorem onEveryLink_ply (f : LinkState → LinkState) : (onEveryLink f s).ply = s.ply := rfl
@[simp] theorem onEveryLink_links (f : LinkState → LinkState) : (onEveryLink f s).links = ⟨f s.links.a, f s.links.b, f s.links.c⟩ := rfl
@[simp] theorem onEveryLink_roles (f : LinkState → LinkState) : (onEveryLink f s).roles = s.roles := rfl
@[simp] theorem onEveryLink_faults (f : LinkState → LinkState) : (onEveryLink f s).faults = s.faults := rfl
@[simp] theorem onEveryLink_cst (f : LinkState → LinkState) : (onEveryLink f s).cst = s.cst := rfl
@[simp] theorem onEveryLink_freeCount (f : LinkState → LinkState) : (onEveryLink f s).freeCount = s.freeCount := rfl
@[simp] theorem onEveryLink_pending (f : LinkState → LinkState) : (onEveryLink f s).pending = s.pending := rfl

/-! ## raiseOn -/

@[simp] theorem raiseOn_phase (l : Link) (c : EventClass) : (raiseOn l c s).phase = s.phase := rfl
@[simp] theorem raiseOn_clock (l : Link) (c : EventClass) : (raiseOn l c s).clock = s.clock := rfl
@[simp] theorem raiseOn_resetnLow (l : Link) (c : EventClass) : (raiseOn l c s).resetnLow = s.resetnLow := rfl
@[simp] theorem raiseOn_sysReset (l : Link) (c : EventClass) : (raiseOn l c s).sysReset = s.sysReset := rfl
@[simp] theorem raiseOn_sfe (l : Link) (c : EventClass) : (raiseOn l c s).sfe = s.sfe := rfl
@[simp] theorem raiseOn_keys (l : Link) (c : EventClass) : (raiseOn l c s).keys = s.keys := rfl
@[simp] theorem raiseOn_pdu (l : Link) (c : EventClass) : (raiseOn l c s).pdu = s.pdu := rfl
@[simp] theorem raiseOn_ajn (l : Link) (c : EventClass) : (raiseOn l c s).ajn = s.ajn := rfl
@[simp] theorem raiseOn_vas (l : Link) (c : EventClass) : (raiseOn l c s).vas = s.vas := rfl
@[simp] theorem raiseOn_rlc (l : Link) (c : EventClass) : (raiseOn l c s).rlc = s.rlc := rfl
@[simp] theorem raiseOn_tks (l : Link) (c : EventClass) : (raiseOn l c s).tks = s.tks := rfl
@[simp] theorem raiseOn_ply (l : Link) (c : EventClass) : (raiseOn l c s).ply = s.ply := rfl
@[simp] theorem raiseOn_roles (l : Link) (c : EventClass) : (raiseOn l c s).roles = s.roles := rfl
@[simp] theorem raiseOn_faults (l : Link) (c : EventClass) : (raiseOn l c s).faults = s.faults := rfl
@[simp] theorem raiseOn_cst (l : Link) (c : EventClass) : (raiseOn l c s).cst = s.cst := rfl
@[simp] theorem raiseOn_freeCount (l : Link) (c : EventClass) : (raiseOn l c s).freeCount = s.freeCount := rfl
@[simp] theorem raiseOn_pending (l : Link) (c : EventClass) : (raiseOn l c s).pending = s.pending := rfl

/-! ## raiseAll -/

@[simp] theorem raiseAll_phase (c : EventClass) : (raiseAll c s).phase = s.phase := rfl
@[simp] theorem raiseAll_clock (c : EventClass) : (raiseAll c s).clock = s.clock := rfl
@[simp] theorem raiseAll_resetnLow (c : EventClass) : (raiseAll c s).resetnLow = s.resetnLow := rfl
@[simp] theorem raiseAll_sysReset (c : EventClass) : (raiseAll c s).sysReset = s.sysReset := rfl
@[simp] theorem raiseAll_sfe (c : EventClass) : (raiseAll c s).sfe = s.sfe := rfl
@[simp] theorem raiseAll_keys (c : EventClass) : (raiseAll c s).keys = s.keys := rfl
@[simp] theorem raiseAll_pdu (c : EventClass) : (raiseAll c s).pdu = s.pdu := rfl
@[simp] theorem raiseAll_ajn (c : EventClass) : (raiseAll c s).ajn = s.ajn := rfl
@[simp] theorem raiseAll_vas (c : EventClass) : (raiseAll c s).vas = s.vas := rfl
@[simp] theorem raiseAll_rlc (c : EventClass) : (raiseAll c s).rlc = s.rlc := rfl
@[simp] theorem raiseAll_tks (c : EventClass) : (raiseAll c s).tks = s.tks := rfl
@[simp] theorem raiseAll_ply (c : EventClass) : (raiseAll c s).ply = s.ply := rfl
@[simp] theorem raiseAll_roles (c : EventClass) : (raiseAll c s).roles = s.roles := rfl
@[simp] theorem raiseAll_faults (c : EventClass) : (raiseAll c s).faults = s.faults := rfl
@[simp] theorem raiseAll_cst (c : EventClass) : (raiseAll c s).cst = s.cst := rfl
@[simp] theorem raiseAll_freeCount (c : EventClass) : (raiseAll c s).freeCount = s.freeCount := rfl
@[simp] theorem raiseAll_pending (c : EventClass) : (raiseAll c s).pending = s.pending := rfl

/-! ## reportFault -/

@[simp] theorem reportFault_phase (k : FaultKind) : (reportFault k s).phase = s.phase := rfl
@[simp] theorem reportFault_clock (k : FaultKind) : (reportFault k s).clock = s.clock := rfl
@[simp] theorem reportFault_resetnLow (k : FaultKind) : (reportFault k s).resetnLow = s.resetnLow := rfl
@[simp] theorem reportFault_sysReset (k : FaultKind) : (reportFault k s).sysReset = s.sysReset := rfl
@[simp] theorem reportFault_sfe (k : FaultKind) : (reportFault k s).sfe = s.sfe := rfl
@[simp] theorem reportFault_keys (k : FaultKind) : (reportFault k s).keys = s.keys := rfl
@[simp] theorem reportFault_pdu (k : FaultKind) : (reportFault k s).pdu = s.pdu := rfl
@[simp] theorem reportFault_ajn (k : FaultKind) : (reportFault k s).ajn = s.ajn := rfl
@[simp] theorem reportFault_vas (k : FaultKind) : (reportFault k s).vas = s.vas := rfl
@[simp] theorem reportFault_rlc (k : FaultKind) : (reportFault k s).rlc = s.rlc := rfl
@[simp] theorem reportFault_tks (k : FaultKind) : (reportFault k s).tks = s.tks := rfl
@[simp] theorem reportFault_ply (k : FaultKind) : (reportFault k s).ply = s.ply := rfl
@[simp] theorem reportFault_links (k : FaultKind) : (reportFault k s).links = s.links := rfl
@[simp] theorem reportFault_roles (k : FaultKind) : (reportFault k s).roles = s.roles := rfl
@[simp] theorem reportFault_cst (k : FaultKind) : (reportFault k s).cst = s.cst := rfl
@[simp] theorem reportFault_freeCount (k : FaultKind) : (reportFault k s).freeCount = s.freeCount := rfl
@[simp] theorem reportFault_pending (k : FaultKind) : (reportFault k s).pending = s.pending := rfl

/-! ## appendEvent -/

@[simp] theorem appendEvent_phase (e : Event) : (appendEvent e s).phase = s.phase := rfl
@[simp] theorem appendEvent_clock (e : Event) : (appendEvent e s).clock = s.clock := rfl
@[simp] theorem appendEvent_resetnLow (e : Event) : (appendEvent e s).resetnLow = s.resetnLow := rfl
@[simp] theorem appendEvent_sysReset (e : Event) : (appendEvent e s).sysReset = s.sysReset := rfl
@[simp] theorem appendEvent_sfe (e : Event) : (appendEvent e s).sfe = s.sfe := rfl
@[simp] theorem appendEvent_keys (e : Event) : (appendEvent e s).keys = s.keys := rfl
@[simp] theorem appendEvent_pdu (e : Event) : (appendEvent e s).pdu = s.pdu := rfl
@[simp] theorem appendEvent_ajn (e : Event) : (appendEvent e s).ajn = s.ajn.push e := rfl
@[simp] theorem appendEvent_vas (e : Event) : (appendEvent e s).vas = s.vas := rfl
@[simp] theorem appendEvent_rlc (e : Event) : (appendEvent e s).rlc = s.rlc := rfl
@[simp] theorem appendEvent_tks (e : Event) : (appendEvent e s).tks = s.tks := rfl
@[simp] theorem appendEvent_ply (e : Event) : (appendEvent e s).ply = s.ply := rfl
@[simp] theorem appendEvent_roles (e : Event) : (appendEvent e s).roles = s.roles := rfl
@[simp] theorem appendEvent_faults (e : Event) : (appendEvent e s).faults = s.faults := rfl
@[simp] theorem appendEvent_cst (e : Event) : (appendEvent e s).cst = s.cst := rfl
@[simp] theorem appendEvent_freeCount (e : Event) : (appendEvent e s).freeCount = s.freeCount := rfl
@[simp] theorem appendEvent_pending (e : Event) : (appendEvent e s).pending = s.pending := rfl

/-! ## putReply -/

@[simp] theorem putReply_phase (l : Link) (k : Byte) (r : Reply) : (putReply l k r s).phase = s.phase := rfl
@[simp] theorem putReply_clock (l : Link) (k : Byte) (r : Reply) : (putReply l k r s).clock = s.clock := rfl
@[simp] theorem putReply_resetnLow (l : Link) (k : Byte) (r : Reply) : (putReply l k r s).resetnLow = s.resetnLow := rfl
@[simp] theorem putReply_sysReset (l : Link) (k : Byte) (r : Reply) : (putReply l k r s).sysReset = s.sysReset := rfl
@[simp] theorem putReply_sfe (l : Link) (k : Byte) (r : Reply) : (putReply l k r s).sfe = s.sfe := rfl
@[simp] theorem putReply_keys (l : Link) (k : Byte) (r : Reply) : (putReply l k r s).keys = s.keys := rfl
@[simp] theorem putReply_pdu (l : Link) (k : Byte) (r : Reply) : (putReply l k r s).pdu = s.pdu := rfl
@[simp] theorem putReply_ajn (l : Link) (k : Byte) (r : Reply) : (putReply l k r s).ajn = s.ajn := rfl
@[simp] theorem putReply_vas (l : Link) (k : Byte) (r : Reply) : (putReply l k r s).vas = s.vas := rfl
@[simp] theorem putReply_rlc (l : Link) (k : Byte) (r : Reply) : (putReply l k r s).rlc = s.rlc := rfl
@[simp] theorem putReply_tks (l : Link) (k : Byte) (r : Reply) : (putReply l k r s).tks = s.tks := rfl
@[simp] theorem putReply_ply (l : Link) (k : Byte) (r : Reply) : (putReply l k r s).ply = s.ply := rfl
@[simp] theorem putReply_roles (l : Link) (k : Byte) (r : Reply) : (putReply l k r s).roles = s.roles := rfl
@[simp] theorem putReply_faults (l : Link) (k : Byte) (r : Reply) : (putReply l k r s).faults = s.faults := rfl
@[simp] theorem putReply_cst (l : Link) (k : Byte) (r : Reply) : (putReply l k r s).cst = s.cst := rfl
@[simp] theorem putReply_freeCount (l : Link) (k : Byte) (r : Reply) : (putReply l k r s).freeCount = s.freeCount := rfl
@[simp] theorem putReply_pending (l : Link) (k : Byte) (r : Reply) : (putReply l k r s).pending = s.pending := rfl

/-! ## popRequest -/

@[simp] theorem popRequest_phase (l : Link) : (popRequest l s).phase = s.phase := rfl
@[simp] theorem popRequest_clock (l : Link) : (popRequest l s).clock = s.clock := rfl
@[simp] theorem popRequest_resetnLow (l : Link) : (popRequest l s).resetnLow = s.resetnLow := rfl
@[simp] theorem popRequest_sysReset (l : Link) : (popRequest l s).sysReset = s.sysReset := rfl
@[simp] theorem popRequest_sfe (l : Link) : (popRequest l s).sfe = s.sfe := rfl
@[simp] theorem popRequest_keys (l : Link) : (popRequest l s).keys = s.keys := rfl
@[simp] theorem popRequest_pdu (l : Link) : (popRequest l s).pdu = s.pdu := rfl
@[simp] theorem popRequest_ajn (l : Link) : (popRequest l s).ajn = s.ajn := rfl
@[simp] theorem popRequest_vas (l : Link) : (popRequest l s).vas = s.vas := rfl
@[simp] theorem popRequest_rlc (l : Link) : (popRequest l s).rlc = s.rlc := rfl
@[simp] theorem popRequest_tks (l : Link) : (popRequest l s).tks = s.tks := rfl
@[simp] theorem popRequest_ply (l : Link) : (popRequest l s).ply = s.ply := rfl
@[simp] theorem popRequest_roles (l : Link) : (popRequest l s).roles = s.roles := rfl
@[simp] theorem popRequest_faults (l : Link) : (popRequest l s).faults = s.faults := rfl
@[simp] theorem popRequest_cst (l : Link) : (popRequest l s).cst = s.cst := rfl
@[simp] theorem popRequest_freeCount (l : Link) : (popRequest l s).freeCount = s.freeCount := rfl
@[simp] theorem popRequest_pending (l : Link) : (popRequest l s).pending = s.pending := rfl

/-! ## onKey -/

@[simp] theorem onKey_phase (k : Key) (f : KeyRec → KeyRec) : (onKey k f s).phase = s.phase := rfl
@[simp] theorem onKey_clock (k : Key) (f : KeyRec → KeyRec) : (onKey k f s).clock = s.clock := rfl
@[simp] theorem onKey_resetnLow (k : Key) (f : KeyRec → KeyRec) : (onKey k f s).resetnLow = s.resetnLow := rfl
@[simp] theorem onKey_sysReset (k : Key) (f : KeyRec → KeyRec) : (onKey k f s).sysReset = s.sysReset := rfl
@[simp] theorem onKey_sfe (k : Key) (f : KeyRec → KeyRec) : (onKey k f s).sfe = s.sfe := rfl
@[simp] theorem onKey_keys (k : Key) (f : KeyRec → KeyRec) : (onKey k f s).keys = vmodify s.keys k f := rfl
@[simp] theorem onKey_pdu (k : Key) (f : KeyRec → KeyRec) : (onKey k f s).pdu = s.pdu := rfl
@[simp] theorem onKey_ajn (k : Key) (f : KeyRec → KeyRec) : (onKey k f s).ajn = s.ajn := rfl
@[simp] theorem onKey_vas (k : Key) (f : KeyRec → KeyRec) : (onKey k f s).vas = s.vas := rfl
@[simp] theorem onKey_rlc (k : Key) (f : KeyRec → KeyRec) : (onKey k f s).rlc = s.rlc := rfl
@[simp] theorem onKey_tks (k : Key) (f : KeyRec → KeyRec) : (onKey k f s).tks = s.tks := rfl
@[simp] theorem onKey_ply (k : Key) (f : KeyRec → KeyRec) : (onKey k f s).ply = s.ply := rfl
@[simp] theorem onKey_links (k : Key) (f : KeyRec → KeyRec) : (onKey k f s).links = s.links := rfl
@[simp] theorem onKey_roles (k : Key) (f : KeyRec → KeyRec) : (onKey k f s).roles = s.roles := rfl
@[simp] theorem onKey_faults (k : Key) (f : KeyRec → KeyRec) : (onKey k f s).faults = s.faults := rfl
@[simp] theorem onKey_cst (k : Key) (f : KeyRec → KeyRec) : (onKey k f s).cst = s.cst := rfl
@[simp] theorem onKey_freeCount (k : Key) (f : KeyRec → KeyRec) : (onKey k f s).freeCount = s.freeCount := rfl
@[simp] theorem onKey_pending (k : Key) (f : KeyRec → KeyRec) : (onKey k f s).pending = s.pending := rfl

/-! ## onPly -/

@[simp] theorem onPly_phase (f : Ply → Ply) : (onPly f s).phase = s.phase := rfl
@[simp] theorem onPly_clock (f : Ply → Ply) : (onPly f s).clock = s.clock := rfl
@[simp] theorem onPly_resetnLow (f : Ply → Ply) : (onPly f s).resetnLow = s.resetnLow := rfl
@[simp] theorem onPly_sysReset (f : Ply → Ply) : (onPly f s).sysReset = s.sysReset := rfl
@[simp] theorem onPly_sfe (f : Ply → Ply) : (onPly f s).sfe = s.sfe := rfl
@[simp] theorem onPly_keys (f : Ply → Ply) : (onPly f s).keys = s.keys := rfl
@[simp] theorem onPly_pdu (f : Ply → Ply) : (onPly f s).pdu = s.pdu := rfl
@[simp] theorem onPly_ajn (f : Ply → Ply) : (onPly f s).ajn = s.ajn := rfl
@[simp] theorem onPly_vas (f : Ply → Ply) : (onPly f s).vas = s.vas := rfl
@[simp] theorem onPly_rlc (f : Ply → Ply) : (onPly f s).rlc = s.rlc := rfl
@[simp] theorem onPly_tks (f : Ply → Ply) : (onPly f s).tks = s.tks := rfl
@[simp] theorem onPly_ply (f : Ply → Ply) : (onPly f s).ply = f s.ply := rfl
@[simp] theorem onPly_links (f : Ply → Ply) : (onPly f s).links = s.links := rfl
@[simp] theorem onPly_roles (f : Ply → Ply) : (onPly f s).roles = s.roles := rfl
@[simp] theorem onPly_faults (f : Ply → Ply) : (onPly f s).faults = s.faults := rfl
@[simp] theorem onPly_cst (f : Ply → Ply) : (onPly f s).cst = s.cst := rfl
@[simp] theorem onPly_freeCount (f : Ply → Ply) : (onPly f s).freeCount = s.freeCount := rfl
@[simp] theorem onPly_pending (f : Ply → Ply) : (onPly f s).pending = s.pending := rfl

/-! ## onRlc -/

@[simp] theorem onRlc_phase (f : Rlc → Rlc) : (onRlc f s).phase = s.phase := rfl
@[simp] theorem onRlc_clock (f : Rlc → Rlc) : (onRlc f s).clock = s.clock := rfl
@[simp] theorem onRlc_resetnLow (f : Rlc → Rlc) : (onRlc f s).resetnLow = s.resetnLow := rfl
@[simp] theorem onRlc_sysReset (f : Rlc → Rlc) : (onRlc f s).sysReset = s.sysReset := rfl
@[simp] theorem onRlc_sfe (f : Rlc → Rlc) : (onRlc f s).sfe = s.sfe := rfl
@[simp] theorem onRlc_keys (f : Rlc → Rlc) : (onRlc f s).keys = s.keys := rfl
@[simp] theorem onRlc_pdu (f : Rlc → Rlc) : (onRlc f s).pdu = s.pdu := rfl
@[simp] theorem onRlc_ajn (f : Rlc → Rlc) : (onRlc f s).ajn = s.ajn := rfl
@[simp] theorem onRlc_vas (f : Rlc → Rlc) : (onRlc f s).vas = s.vas := rfl
@[simp] theorem onRlc_rlc (f : Rlc → Rlc) : (onRlc f s).rlc = f s.rlc := rfl
@[simp] theorem onRlc_tks (f : Rlc → Rlc) : (onRlc f s).tks = s.tks := rfl
@[simp] theorem onRlc_ply (f : Rlc → Rlc) : (onRlc f s).ply = s.ply := rfl
@[simp] theorem onRlc_links (f : Rlc → Rlc) : (onRlc f s).links = s.links := rfl
@[simp] theorem onRlc_roles (f : Rlc → Rlc) : (onRlc f s).roles = s.roles := rfl
@[simp] theorem onRlc_faults (f : Rlc → Rlc) : (onRlc f s).faults = s.faults := rfl
@[simp] theorem onRlc_cst (f : Rlc → Rlc) : (onRlc f s).cst = s.cst := rfl
@[simp] theorem onRlc_freeCount (f : Rlc → Rlc) : (onRlc f s).freeCount = s.freeCount := rfl
@[simp] theorem onRlc_pending (f : Rlc → Rlc) : (onRlc f s).pending = s.pending := rfl

/-! ## onSfe -/

@[simp] theorem onSfe_phase (f : Sfe → Sfe) : (onSfe f s).phase = s.phase := rfl
@[simp] theorem onSfe_clock (f : Sfe → Sfe) : (onSfe f s).clock = s.clock := rfl
@[simp] theorem onSfe_resetnLow (f : Sfe → Sfe) : (onSfe f s).resetnLow = s.resetnLow := rfl
@[simp] theorem onSfe_sysReset (f : Sfe → Sfe) : (onSfe f s).sysReset = s.sysReset := rfl
@[simp] theorem onSfe_sfe (f : Sfe → Sfe) : (onSfe f s).sfe = f s.sfe := rfl
@[simp] theorem onSfe_keys (f : Sfe → Sfe) : (onSfe f s).keys = s.keys := rfl
@[simp] theorem onSfe_pdu (f : Sfe → Sfe) : (onSfe f s).pdu = s.pdu := rfl
@[simp] theorem onSfe_ajn (f : Sfe → Sfe) : (onSfe f s).ajn = s.ajn := rfl
@[simp] theorem onSfe_vas (f : Sfe → Sfe) : (onSfe f s).vas = s.vas := rfl
@[simp] theorem onSfe_rlc (f : Sfe → Sfe) : (onSfe f s).rlc = s.rlc := rfl
@[simp] theorem onSfe_tks (f : Sfe → Sfe) : (onSfe f s).tks = s.tks := rfl
@[simp] theorem onSfe_ply (f : Sfe → Sfe) : (onSfe f s).ply = s.ply := rfl
@[simp] theorem onSfe_links (f : Sfe → Sfe) : (onSfe f s).links = s.links := rfl
@[simp] theorem onSfe_roles (f : Sfe → Sfe) : (onSfe f s).roles = s.roles := rfl
@[simp] theorem onSfe_faults (f : Sfe → Sfe) : (onSfe f s).faults = s.faults := rfl
@[simp] theorem onSfe_cst (f : Sfe → Sfe) : (onSfe f s).cst = s.cst := rfl
@[simp] theorem onSfe_freeCount (f : Sfe → Sfe) : (onSfe f s).freeCount = s.freeCount := rfl
@[simp] theorem onSfe_pending (f : Sfe → Sfe) : (onSfe f s).pending = s.pending := rfl

/-! ## onVas -/

@[simp] theorem onVas_phase (f : Vas → Vas) : (onVas f s).phase = s.phase := rfl
@[simp] theorem onVas_clock (f : Vas → Vas) : (onVas f s).clock = s.clock := rfl
@[simp] theorem onVas_resetnLow (f : Vas → Vas) : (onVas f s).resetnLow = s.resetnLow := rfl
@[simp] theorem onVas_sysReset (f : Vas → Vas) : (onVas f s).sysReset = s.sysReset := rfl
@[simp] theorem onVas_sfe (f : Vas → Vas) : (onVas f s).sfe = s.sfe := rfl
@[simp] theorem onVas_keys (f : Vas → Vas) : (onVas f s).keys = s.keys := rfl
@[simp] theorem onVas_pdu (f : Vas → Vas) : (onVas f s).pdu = s.pdu := rfl
@[simp] theorem onVas_ajn (f : Vas → Vas) : (onVas f s).ajn = s.ajn := rfl
@[simp] theorem onVas_vas (f : Vas → Vas) : (onVas f s).vas = f s.vas := rfl
@[simp] theorem onVas_rlc (f : Vas → Vas) : (onVas f s).rlc = s.rlc := rfl
@[simp] theorem onVas_tks (f : Vas → Vas) : (onVas f s).tks = s.tks := rfl
@[simp] theorem onVas_ply (f : Vas → Vas) : (onVas f s).ply = s.ply := rfl
@[simp] theorem onVas_links (f : Vas → Vas) : (onVas f s).links = s.links := rfl
@[simp] theorem onVas_roles (f : Vas → Vas) : (onVas f s).roles = s.roles := rfl
@[simp] theorem onVas_faults (f : Vas → Vas) : (onVas f s).faults = s.faults := rfl
@[simp] theorem onVas_cst (f : Vas → Vas) : (onVas f s).cst = s.cst := rfl
@[simp] theorem onVas_freeCount (f : Vas → Vas) : (onVas f s).freeCount = s.freeCount := rfl
@[simp] theorem onVas_pending (f : Vas → Vas) : (onVas f s).pending = s.pending := rfl

/-! ## setSlot -/

@[simp] theorem setSlot_phase (n : Slot) (v : VoiceSlot) : (setSlot n v s).phase = s.phase := rfl
@[simp] theorem setSlot_clock (n : Slot) (v : VoiceSlot) : (setSlot n v s).clock = s.clock := rfl
@[simp] theorem setSlot_resetnLow (n : Slot) (v : VoiceSlot) : (setSlot n v s).resetnLow = s.resetnLow := rfl
@[simp] theorem setSlot_sysReset (n : Slot) (v : VoiceSlot) : (setSlot n v s).sysReset = s.sysReset := rfl
@[simp] theorem setSlot_sfe (n : Slot) (v : VoiceSlot) : (setSlot n v s).sfe = s.sfe := rfl
@[simp] theorem setSlot_keys (n : Slot) (v : VoiceSlot) : (setSlot n v s).keys = s.keys := rfl
@[simp] theorem setSlot_pdu (n : Slot) (v : VoiceSlot) : (setSlot n v s).pdu = s.pdu := rfl
@[simp] theorem setSlot_ajn (n : Slot) (v : VoiceSlot) : (setSlot n v s).ajn = s.ajn := rfl
@[simp] theorem setSlot_vas (n : Slot) (v : VoiceSlot) : (setSlot n v s).vas = { s.vas with slots := s.vas.slots.set n v } := rfl
@[simp] theorem setSlot_rlc (n : Slot) (v : VoiceSlot) : (setSlot n v s).rlc = s.rlc := rfl
@[simp] theorem setSlot_tks (n : Slot) (v : VoiceSlot) : (setSlot n v s).tks = s.tks := rfl
@[simp] theorem setSlot_ply (n : Slot) (v : VoiceSlot) : (setSlot n v s).ply = s.ply := rfl
@[simp] theorem setSlot_links (n : Slot) (v : VoiceSlot) : (setSlot n v s).links = s.links := rfl
@[simp] theorem setSlot_roles (n : Slot) (v : VoiceSlot) : (setSlot n v s).roles = s.roles := rfl
@[simp] theorem setSlot_faults (n : Slot) (v : VoiceSlot) : (setSlot n v s).faults = s.faults := rfl
@[simp] theorem setSlot_cst (n : Slot) (v : VoiceSlot) : (setSlot n v s).cst = s.cst := rfl
@[simp] theorem setSlot_freeCount (n : Slot) (v : VoiceSlot) : (setSlot n v s).freeCount = s.freeCount := rfl
@[simp] theorem setSlot_pending (n : Slot) (v : VoiceSlot) : (setSlot n v s).pending = s.pending := rfl

/-! ## onTks -/

@[simp] theorem onTks_phase (f : Tks → Tks) : (onTks f s).phase = s.phase := rfl
@[simp] theorem onTks_clock (f : Tks → Tks) : (onTks f s).clock = s.clock := rfl
@[simp] theorem onTks_resetnLow (f : Tks → Tks) : (onTks f s).resetnLow = s.resetnLow := rfl
@[simp] theorem onTks_sysReset (f : Tks → Tks) : (onTks f s).sysReset = s.sysReset := rfl
@[simp] theorem onTks_sfe (f : Tks → Tks) : (onTks f s).sfe = s.sfe := rfl
@[simp] theorem onTks_keys (f : Tks → Tks) : (onTks f s).keys = s.keys := rfl
@[simp] theorem onTks_pdu (f : Tks → Tks) : (onTks f s).pdu = s.pdu := rfl
@[simp] theorem onTks_ajn (f : Tks → Tks) : (onTks f s).ajn = s.ajn := rfl
@[simp] theorem onTks_vas (f : Tks → Tks) : (onTks f s).vas = s.vas := rfl
@[simp] theorem onTks_rlc (f : Tks → Tks) : (onTks f s).rlc = s.rlc := rfl
@[simp] theorem onTks_tks (f : Tks → Tks) : (onTks f s).tks = f s.tks := rfl
@[simp] theorem onTks_ply (f : Tks → Tks) : (onTks f s).ply = s.ply := rfl
@[simp] theorem onTks_links (f : Tks → Tks) : (onTks f s).links = s.links := rfl
@[simp] theorem onTks_roles (f : Tks → Tks) : (onTks f s).roles = s.roles := rfl
@[simp] theorem onTks_faults (f : Tks → Tks) : (onTks f s).faults = s.faults := rfl
@[simp] theorem onTks_cst (f : Tks → Tks) : (onTks f s).cst = s.cst := rfl
@[simp] theorem onTks_freeCount (f : Tks → Tks) : (onTks f s).freeCount = s.freeCount := rfl
@[simp] theorem onTks_pending (f : Tks → Tks) : (onTks f s).pending = s.pending := rfl

/-! ## onTake -/

@[simp] theorem onTake_phase (t : TakeNo) (f : TakeEntry → TakeEntry) : (onTake t f s).phase = s.phase := rfl
@[simp] theorem onTake_clock (t : TakeNo) (f : TakeEntry → TakeEntry) : (onTake t f s).clock = s.clock := rfl
@[simp] theorem onTake_resetnLow (t : TakeNo) (f : TakeEntry → TakeEntry) : (onTake t f s).resetnLow = s.resetnLow := rfl
@[simp] theorem onTake_sysReset (t : TakeNo) (f : TakeEntry → TakeEntry) : (onTake t f s).sysReset = s.sysReset := rfl
@[simp] theorem onTake_sfe (t : TakeNo) (f : TakeEntry → TakeEntry) : (onTake t f s).sfe = s.sfe := rfl
@[simp] theorem onTake_keys (t : TakeNo) (f : TakeEntry → TakeEntry) : (onTake t f s).keys = s.keys := rfl
@[simp] theorem onTake_pdu (t : TakeNo) (f : TakeEntry → TakeEntry) : (onTake t f s).pdu = s.pdu := rfl
@[simp] theorem onTake_ajn (t : TakeNo) (f : TakeEntry → TakeEntry) : (onTake t f s).ajn = s.ajn := rfl
@[simp] theorem onTake_vas (t : TakeNo) (f : TakeEntry → TakeEntry) : (onTake t f s).vas = s.vas := rfl
@[simp] theorem onTake_rlc (t : TakeNo) (f : TakeEntry → TakeEntry) : (onTake t f s).rlc = s.rlc := rfl
@[simp] theorem onTake_tks (t : TakeNo) (f : TakeEntry → TakeEntry) : (onTake t f s).tks = { s.tks with dir := vmodify s.tks.dir t f } := rfl
@[simp] theorem onTake_ply (t : TakeNo) (f : TakeEntry → TakeEntry) : (onTake t f s).ply = s.ply := rfl
@[simp] theorem onTake_links (t : TakeNo) (f : TakeEntry → TakeEntry) : (onTake t f s).links = s.links := rfl
@[simp] theorem onTake_roles (t : TakeNo) (f : TakeEntry → TakeEntry) : (onTake t f s).roles = s.roles := rfl
@[simp] theorem onTake_faults (t : TakeNo) (f : TakeEntry → TakeEntry) : (onTake t f s).faults = s.faults := rfl
@[simp] theorem onTake_cst (t : TakeNo) (f : TakeEntry → TakeEntry) : (onTake t f s).cst = s.cst := rfl
@[simp] theorem onTake_freeCount (t : TakeNo) (f : TakeEntry → TakeEntry) : (onTake t f s).freeCount = s.freeCount := rfl
@[simp] theorem onTake_pending (t : TakeNo) (f : TakeEntry → TakeEntry) : (onTake t f s).pending = s.pending := rfl

/-! ## onPdu -/

@[simp] theorem onPdu_phase (f : Pdu → Pdu) : (onPdu f s).phase = s.phase := rfl
@[simp] theorem onPdu_clock (f : Pdu → Pdu) : (onPdu f s).clock = s.clock := rfl
@[simp] theorem onPdu_resetnLow (f : Pdu → Pdu) : (onPdu f s).resetnLow = s.resetnLow := rfl
@[simp] theorem onPdu_sysReset (f : Pdu → Pdu) : (onPdu f s).sysReset = s.sysReset := rfl
@[simp] theorem onPdu_sfe (f : Pdu → Pdu) : (onPdu f s).sfe = s.sfe := rfl
@[simp] theorem onPdu_keys (f : Pdu → Pdu) : (onPdu f s).keys = s.keys := rfl
@[simp] theorem onPdu_pdu (f : Pdu → Pdu) : (onPdu f s).pdu = f s.pdu := rfl
@[simp] theorem onPdu_ajn (f : Pdu → Pdu) : (onPdu f s).ajn = s.ajn := rfl
@[simp] theorem onPdu_vas (f : Pdu → Pdu) : (onPdu f s).vas = s.vas := rfl
@[simp] theorem onPdu_rlc (f : Pdu → Pdu) : (onPdu f s).rlc = s.rlc := rfl
@[simp] theorem onPdu_tks (f : Pdu → Pdu) : (onPdu f s).tks = s.tks := rfl
@[simp] theorem onPdu_ply (f : Pdu → Pdu) : (onPdu f s).ply = s.ply := rfl
@[simp] theorem onPdu_links (f : Pdu → Pdu) : (onPdu f s).links = s.links := rfl
@[simp] theorem onPdu_roles (f : Pdu → Pdu) : (onPdu f s).roles = s.roles := rfl
@[simp] theorem onPdu_faults (f : Pdu → Pdu) : (onPdu f s).faults = s.faults := rfl
@[simp] theorem onPdu_cst (f : Pdu → Pdu) : (onPdu f s).cst = s.cst := rfl
@[simp] theorem onPdu_freeCount (f : Pdu → Pdu) : (onPdu f s).freeCount = s.freeCount := rfl
@[simp] theorem onPdu_pending (f : Pdu → Pdu) : (onPdu f s).pending = s.pending := rfl

/-! ## Stored images -/

@[simp] theorem Image.written_contents {α : Type} (copy : α) : (Image.written copy).contents = copy := rfl
@[simp] theorem Image.written_check {α : Type} (copy : α) : (Image.written copy).check = Config.imageCheck copy := rfl

/-- What a commit writes passes its check (R183, R188). -/
@[simp] theorem Image.passes_written {α : Type} (copy : α) : (Image.written copy).passes = true := by
  simp [Image.passes, Image.written]

/-! ## Frames being sent, and ports after a reset -/

@[simp] theorem Sending.cutOff_start (now : Clock) (sd : Sending) : (sd.cutOff now).start = sd.start := rfl
@[simp] theorem Sending.cutOff_bytes (now : Clock) (sd : Sending) :
    (sd.cutOff now).bytes = sd.bytes.take (elapsed now sd.start / 5 + 1) := rfl
@[simp] theorem LinkState.afterReset_sending (now : Clock) (ls : LinkState) :
    (ls.afterReset now).sending = ls.sending.map (Sending.cutOff now) := rfl
@[simp] theorem LinkState.afterReset_lineLow (now : Clock) (ls : LinkState) : (ls.afterReset now).lineLow = ls.lineLow := rfl
@[simp] theorem LinkState.afterReset_rxBuf (now : Clock) (ls : LinkState) : (ls.afterReset now).rxBuf = [] := rfl
@[simp] theorem LinkState.afterReset_tx (now : Clock) (ls : LinkState) : (ls.afterReset now).tx = [] := rfl

/-! ## onCst -/

@[simp] theorem onCst_phase (f : Cst → Cst) : (onCst f s).phase = s.phase := rfl
@[simp] theorem onCst_clock (f : Cst → Cst) : (onCst f s).clock = s.clock := rfl
@[simp] theorem onCst_resetnLow (f : Cst → Cst) : (onCst f s).resetnLow = s.resetnLow := rfl
@[simp] theorem onCst_sysReset (f : Cst → Cst) : (onCst f s).sysReset = s.sysReset := rfl
@[simp] theorem onCst_sfe (f : Cst → Cst) : (onCst f s).sfe = s.sfe := rfl
@[simp] theorem onCst_keys (f : Cst → Cst) : (onCst f s).keys = s.keys := rfl
@[simp] theorem onCst_pdu (f : Cst → Cst) : (onCst f s).pdu = s.pdu := rfl
@[simp] theorem onCst_ajn (f : Cst → Cst) : (onCst f s).ajn = s.ajn := rfl
@[simp] theorem onCst_vas (f : Cst → Cst) : (onCst f s).vas = s.vas := rfl
@[simp] theorem onCst_rlc (f : Cst → Cst) : (onCst f s).rlc = s.rlc := rfl
@[simp] theorem onCst_tks (f : Cst → Cst) : (onCst f s).tks = s.tks := rfl
@[simp] theorem onCst_ply (f : Cst → Cst) : (onCst f s).ply = s.ply := rfl
@[simp] theorem onCst_links (f : Cst → Cst) : (onCst f s).links = s.links := rfl
@[simp] theorem onCst_roles (f : Cst → Cst) : (onCst f s).roles = s.roles := rfl
@[simp] theorem onCst_faults (f : Cst → Cst) : (onCst f s).faults = s.faults := rfl
@[simp] theorem onCst_cst (f : Cst → Cst) : (onCst f s).cst = f s.cst := rfl
@[simp] theorem onCst_freeCount (f : Cst → Cst) : (onCst f s).freeCount = s.freeCount := rfl
@[simp] theorem onCst_pending (f : Cst → Cst) : (onCst f s).pending = s.pending := rfl

/-! ## toneTeardown -/

@[simp] theorem toneTeardown_phase : (toneTeardown s).phase = s.phase := by simp only [toneTeardown, onVas_phase]
@[simp] theorem toneTeardown_clock : (toneTeardown s).clock = s.clock := by simp only [toneTeardown, onVas_clock]
@[simp] theorem toneTeardown_resetnLow : (toneTeardown s).resetnLow = s.resetnLow := by simp only [toneTeardown, onVas_resetnLow]
@[simp] theorem toneTeardown_sysReset : (toneTeardown s).sysReset = s.sysReset := by simp only [toneTeardown, onVas_sysReset]
@[simp] theorem toneTeardown_sfe : (toneTeardown s).sfe = s.sfe := by simp only [toneTeardown, onVas_sfe]
@[simp] theorem toneTeardown_keys : (toneTeardown s).keys = s.keys := by simp only [toneTeardown, onVas_keys]
@[simp] theorem toneTeardown_pdu : (toneTeardown s).pdu = s.pdu := by simp only [toneTeardown, onVas_pdu]
@[simp] theorem toneTeardown_ajn : (toneTeardown s).ajn = s.ajn := by simp only [toneTeardown, onVas_ajn]
@[simp] theorem toneTeardown_rlc : (toneTeardown s).rlc = s.rlc := by simp only [toneTeardown, onVas_rlc]
@[simp] theorem toneTeardown_tks : (toneTeardown s).tks = s.tks := by simp only [toneTeardown, onVas_tks]
@[simp] theorem toneTeardown_ply : (toneTeardown s).ply = s.ply := by simp only [toneTeardown, onVas_ply]
@[simp] theorem toneTeardown_links : (toneTeardown s).links = s.links := by simp only [toneTeardown, onVas_links]
@[simp] theorem toneTeardown_roles : (toneTeardown s).roles = s.roles := by simp only [toneTeardown, onVas_roles]
@[simp] theorem toneTeardown_faults : (toneTeardown s).faults = s.faults := by simp only [toneTeardown, onVas_faults]
@[simp] theorem toneTeardown_cst : (toneTeardown s).cst = s.cst := by simp only [toneTeardown, onVas_cst]
@[simp] theorem toneTeardown_freeCount : (toneTeardown s).freeCount = s.freeCount := by simp only [toneTeardown, onVas_freeCount]
@[simp] theorem toneTeardown_pending : (toneTeardown s).pending = s.pending := by simp only [toneTeardown, onVas_pending]

/-! ## startLeg -/

@[simp] theorem startLeg_phase (e : Side) (c : Bool) : (startLeg e c s).phase = s.phase := rfl
@[simp] theorem startLeg_clock (e : Side) (c : Bool) : (startLeg e c s).clock = s.clock := rfl
@[simp] theorem startLeg_resetnLow (e : Side) (c : Bool) : (startLeg e c s).resetnLow = s.resetnLow := rfl
@[simp] theorem startLeg_sysReset (e : Side) (c : Bool) : (startLeg e c s).sysReset = s.sysReset := rfl
@[simp] theorem startLeg_sfe (e : Side) (c : Bool) : (startLeg e c s).sfe = s.sfe := rfl
@[simp] theorem startLeg_keys (e : Side) (c : Bool) : (startLeg e c s).keys = s.keys := rfl
@[simp] theorem startLeg_pdu (e : Side) (c : Bool) : (startLeg e c s).pdu = s.pdu := rfl
@[simp] theorem startLeg_ajn (e : Side) (c : Bool) : (startLeg e c s).ajn = s.ajn := rfl
@[simp] theorem startLeg_vas (e : Side) (c : Bool) : (startLeg e c s).vas = s.vas := rfl
@[simp] theorem startLeg_tks (e : Side) (c : Bool) : (startLeg e c s).tks = s.tks := rfl
@[simp] theorem startLeg_ply (e : Side) (c : Bool) : (startLeg e c s).ply = s.ply := rfl
@[simp] theorem startLeg_links (e : Side) (c : Bool) : (startLeg e c s).links = s.links := rfl
@[simp] theorem startLeg_roles (e : Side) (c : Bool) : (startLeg e c s).roles = s.roles := rfl
@[simp] theorem startLeg_faults (e : Side) (c : Bool) : (startLeg e c s).faults = s.faults := rfl
@[simp] theorem startLeg_cst (e : Side) (c : Bool) : (startLeg e c s).cst = s.cst := rfl
@[simp] theorem startLeg_freeCount (e : Side) (c : Bool) : (startLeg e c s).freeCount = s.freeCount := rfl
@[simp] theorem startLeg_pending (e : Side) (c : Bool) : (startLeg e c s).pending = s.pending := rfl

/-! ## cutDrive -/

@[simp] theorem cutDrive_phase : (cutDrive s).phase = s.phase := rfl
@[simp] theorem cutDrive_clock : (cutDrive s).clock = s.clock := rfl
@[simp] theorem cutDrive_resetnLow : (cutDrive s).resetnLow = s.resetnLow := rfl
@[simp] theorem cutDrive_sysReset : (cutDrive s).sysReset = s.sysReset := rfl
@[simp] theorem cutDrive_sfe : (cutDrive s).sfe = s.sfe := rfl
@[simp] theorem cutDrive_keys : (cutDrive s).keys = s.keys := rfl
@[simp] theorem cutDrive_pdu : (cutDrive s).pdu = s.pdu := rfl
@[simp] theorem cutDrive_ajn : (cutDrive s).ajn = s.ajn := rfl
@[simp] theorem cutDrive_vas : (cutDrive s).vas = s.vas := rfl
@[simp] theorem cutDrive_rlc : (cutDrive s).rlc = { s.rlc with leg := none } := rfl
@[simp] theorem cutDrive_tks : (cutDrive s).tks = s.tks := rfl
@[simp] theorem cutDrive_ply : (cutDrive s).ply = s.ply := rfl
@[simp] theorem cutDrive_links : (cutDrive s).links = s.links := rfl
@[simp] theorem cutDrive_roles : (cutDrive s).roles = s.roles := rfl
@[simp] theorem cutDrive_faults : (cutDrive s).faults = s.faults := rfl
@[simp] theorem cutDrive_cst : (cutDrive s).cst = s.cst := rfl
@[simp] theorem cutDrive_freeCount : (cutDrive s).freeCount = s.freeCount := rfl
@[simp] theorem cutDrive_pending : (cutDrive s).pending = s.pending := rfl

end Sys2Proof.Machine
end

