-- ==== Sys2Proof/Laws/Frames.lean ====
section
/-! SUPPORT. What each shared operation can touch: a few relations between states, and one lemma an operation. Everything a relation does not name is the same after as before. -/

namespace Sys2Proof.Machine

variable {s t u : State}

/-! ## The relations -/

/-- At most links differ. -/
def LinksOnly (s t : State) : Prop := ∃ links, t = { s with links := links }

/-- At most links and the fault record differ. -/
def ReportOnly (s t : State) : Prop := ∃ links faults, t = { s with links := links, faults := faults }

/-- At most the rail controller, the journal, links and the fault record differ. -/
def RailOnly (s t : State) : Prop :=
  ∃ rlc ajn links faults, t = { s with rlc := rlc, ajn := ajn, links := links, faults := faults }

/-- At most the voice assigner, links and the fault record differ. -/
def VoiceOnly (s t : State) : Prop := ∃ vas links faults, t = { s with vas := vas, links := links, faults := faults }

/-- At most the take store, links and the fault record differ. -/
def TakeOnly (s t : State) : Prop := ∃ tks links faults, t = { s with tks := tks, links := links, faults := faults }

/-- At most the player, the voice assigner, the journal, links and the fault record differ. -/
def PlayOnly (s t : State) : Prop :=
  ∃ ply vas ajn links faults, t = { s with ply := ply, vas := vas, ajn := ajn, links := links, faults := faults }

/-- At most what a live event and the record it comes from can change differs. -/
def ActionOnly (s t : State) : Prop :=
  ∃ keys pdu ajn vas tks ply links faults,
    t = { s with keys := keys, pdu := pdu, ajn := ajn, vas := vas, tks := tks, ply := ply, links := links, faults := faults }

/-- At most what a conversion or a walk's end can change differs. -/
def SenseOnly (s t : State) : Prop :=
  ∃ sfe keys pdu ajn vas rlc tks ply links faults,
    t = { s with
      sfe := sfe, keys := keys, pdu := pdu, ajn := ajn, vas := vas, rlc := rlc, tks := tks, ply := ply, links := links,
      faults := faults }

theorem LinksOnly.refl : LinksOnly s s := ⟨_, rfl⟩
theorem ReportOnly.refl : ReportOnly s s := ⟨_, _, rfl⟩
theorem RailOnly.refl : RailOnly s s := ⟨_, _, _, _, rfl⟩
theorem VoiceOnly.refl : VoiceOnly s s := ⟨_, _, _, rfl⟩
theorem TakeOnly.refl : TakeOnly s s := ⟨_, _, _, rfl⟩
theorem PlayOnly.refl : PlayOnly s s := ⟨_, _, _, _, _, rfl⟩
theorem ActionOnly.refl : ActionOnly s s := ⟨_, _, _, _, _, _, _, _, rfl⟩
theorem SenseOnly.refl : SenseOnly s s := ⟨_, _, _, _, _, _, _, _, _, _, rfl⟩

theorem LinksOnly.trans (h : LinksOnly s t) (g : LinksOnly t u) : LinksOnly s u := by
  obtain ⟨_, rfl⟩ := h; obtain ⟨_, rfl⟩ := g; exact ⟨_, rfl⟩
theorem ReportOnly.trans (h : ReportOnly s t) (g : ReportOnly t u) : ReportOnly s u := by
  obtain ⟨_, _, rfl⟩ := h; obtain ⟨_, _, rfl⟩ := g; exact ⟨_, _, rfl⟩
theorem RailOnly.trans (h : RailOnly s t) (g : RailOnly t u) : RailOnly s u := by
  obtain ⟨_, _, _, _, rfl⟩ := h; obtain ⟨_, _, _, _, rfl⟩ := g; exact ⟨_, _, _, _, rfl⟩
theorem VoiceOnly.trans (h : VoiceOnly s t) (g : VoiceOnly t u) : VoiceOnly s u := by
  obtain ⟨_, _, _, rfl⟩ := h; obtain ⟨_, _, _, rfl⟩ := g; exact ⟨_, _, _, rfl⟩
theorem TakeOnly.trans (h : TakeOnly s t) (g : TakeOnly t u) : TakeOnly s u := by
  obtain ⟨_, _, _, rfl⟩ := h; obtain ⟨_, _, _, rfl⟩ := g; exact ⟨_, _, _, rfl⟩
theorem PlayOnly.trans (h : PlayOnly s t) (g : PlayOnly t u) : PlayOnly s u := by
  obtain ⟨_, _, _, _, _, rfl⟩ := h; obtain ⟨_, _, _, _, _, rfl⟩ := g; exact ⟨_, _, _, _, _, rfl⟩
theorem ActionOnly.trans (h : ActionOnly s t) (g : ActionOnly t u) : ActionOnly s u := by
  obtain ⟨_, _, _, _, _, _, _, _, rfl⟩ := h; obtain ⟨_, _, _, _, _, _, _, _, rfl⟩ := g
  exact ⟨_, _, _, _, _, _, _, _, rfl⟩
theorem SenseOnly.trans (h : SenseOnly s t) (g : SenseOnly t u) : SenseOnly s u := by
  obtain ⟨_, _, _, _, _, _, _, _, _, _, rfl⟩ := h; obtain ⟨_, _, _, _, _, _, _, _, _, _, rfl⟩ := g
  exact ⟨_, _, _, _, _, _, _, _, _, _, rfl⟩

theorem LinksOnly.report (h : LinksOnly s t) : ReportOnly s t := by obtain ⟨_, rfl⟩ := h; exact ⟨_, _, rfl⟩
theorem ReportOnly.rail (h : ReportOnly s t) : RailOnly s t := by obtain ⟨_, _, rfl⟩ := h; exact ⟨_, _, _, _, rfl⟩
theorem ReportOnly.voice (h : ReportOnly s t) : VoiceOnly s t := by obtain ⟨_, _, rfl⟩ := h; exact ⟨_, _, _, rfl⟩
theorem ReportOnly.take (h : ReportOnly s t) : TakeOnly s t := by obtain ⟨_, _, rfl⟩ := h; exact ⟨_, _, _, rfl⟩
theorem VoiceOnly.play (h : VoiceOnly s t) : PlayOnly s t := by
  obtain ⟨_, _, _, rfl⟩ := h; exact ⟨_, _, _, _, _, rfl⟩
theorem TakeOnly.action (h : TakeOnly s t) : ActionOnly s t := by
  obtain ⟨_, _, _, rfl⟩ := h; exact ⟨_, _, _, _, _, _, _, _, rfl⟩
theorem PlayOnly.action (h : PlayOnly s t) : ActionOnly s t := by
  obtain ⟨_, _, _, _, _, rfl⟩ := h; exact ⟨_, _, _, _, _, _, _, _, rfl⟩
theorem RailOnly.sense (h : RailOnly s t) : SenseOnly s t := by
  obtain ⟨_, _, _, _, rfl⟩ := h; exact ⟨_, _, _, _, _, _, _, _, _, _, rfl⟩
theorem ActionOnly.sense (h : ActionOnly s t) : SenseOnly s t := by
  obtain ⟨_, _, _, _, _, _, _, _, rfl⟩ := h; exact ⟨_, _, _, _, _, _, _, _, _, _, rfl⟩

/-- A fold of an operation touches no more than the operation. -/
theorem foldl_rel {α : Type} {R : State → State → Prop} (refl : ∀ s, R s s) (trans : ∀ {a b c}, R a b → R b c → R a c)
    {f : State → α → State} (step : ∀ s x, R s (f s x)) (xs : List α) (s : State) : R s (xs.foldl f s) := by
  induction xs generalizing s with
  | nil => exact refl s
  | cons x xs ih => exact trans (step s x) (ih (f s x))

/-! ## Notices, the fault record, the journal -/

theorem onLink_only (l : Link) (f : LinkState → LinkState) : LinksOnly s (onLink l f s) := ⟨_, rfl⟩
theorem onEveryLink_only (f : LinkState → LinkState) : LinksOnly s (onEveryLink f s) := ⟨_, rfl⟩
theorem raiseAll_only (c : EventClass) : LinksOnly s (raiseAll c s) := ⟨_, rfl⟩
theorem raiseOn_only (l : Link) (c : EventClass) : LinksOnly s (raiseOn l c s) := ⟨_, rfl⟩
theorem putReply_only (l : Link) (k : Byte) (r : Reply) : LinksOnly s (putReply l k r s) := ⟨_, rfl⟩
theorem popRequest_only (l : Link) : LinksOnly s (popRequest l s) := ⟨_, rfl⟩
theorem reportFault_only (k : FaultKind) : ReportOnly s (reportFault k s) := ⟨_, _, rfl⟩
theorem appendEvent_rail (e : Event) : RailOnly s (appendEvent e s) := ⟨_, _, _, _, rfl⟩
theorem appendEvent_play (e : Event) : PlayOnly s (appendEvent e s) := ⟨_, _, _, _, _, rfl⟩

/-! ## The rail -/

theorem onRlc_only (f : Rlc → Rlc) : RailOnly s (onRlc f s) := ⟨_, _, _, _, rfl⟩
theorem startLeg_only (e : Side) (c : Bool) : RailOnly s (startLeg e c s) := ⟨_, _, _, _, rfl⟩
theorem cutDrive_only : RailOnly s (cutDrive s) := ⟨_, _, _, _, rfl⟩

theorem railEnter_only (st : RailState) : RailOnly s (railEnter st s) := by
  have h : RailOnly s (raiseAll .railState (appendEvent { time := s.clock, kind := .rail, source := .live, key := none, value := st.code } (onRlc (fun r => { r with state := st }) s))) :=
    ((onRlc_only _).trans (appendEvent_rail _)).trans (raiseAll_only _).report.rail
  simp only [railEnter]
  split
  · exact h.trans (raiseAll_only _).report.rail
  · exact h

theorem startMove_only (e : Side) (c : Bool) : RailOnly s (startMove e c s) := (railEnter_only _).trans (startLeg_only _ _)

theorem enterWaiting_only (e : Side) (b : Option Bool) : RailOnly s (enterWaiting e b s) := railEnter_only _

theorem startHoming_only : RailOnly s (startHoming s) := (railEnter_only _).trans (startLeg_only _ _)

theorem quietMove_only : RailOnly s (quietMove s) := by
  simp only [quietMove]
  split
  · split
    · exact startHoming_only
    · exact .refl
  · split
    · exact startMove_only _ _
    · exact .refl
  · exact .refl

theorem endTest_only (e : Side) : RailOnly s (endTest e s) := by
  simp only [endTest]
  split
  · exact .refl
  · split
    · exact startMove_only _ _
    · exact enterWaiting_only _ _

theorem arrive_only (e : Side) (n : Option Nat) : RailOnly s (arrive e n s) :=
  ((onRlc_only _).trans (railEnter_only _)).trans (endTest_only _)

theorem railFault_only (k : FaultKind) : RailOnly s (railFault k s) :=
  (cutDrive_only.trans (reportFault_only k).rail).trans (railEnter_only _)

theorem obstruct_only (e : Side) : RailOnly s (obstruct e s) := by
  simp only [obstruct]
  split
  · exact (onRlc_only _).trans (railFault_only _)
  · exact ((onRlc_only _).trans (railEnter_only _)).trans (startLeg_only _ _)

theorem retreatEnd_only (b : Bool) (i : BackoffInfo) : RailOnly s (retreatEnd b i s) := by
  simp only [retreatEnd]
  split
  · split
    · exact cutDrive_only.trans (arrive_only _ _)
    · exact cutDrive_only.trans (startMove_only _ _)
  · exact cutDrive_only.trans (onRlc_only _)

theorem stallLeg_only (lg : Leg) : RailOnly s (stallLeg lg s) := by
  simp only [stallLeg]
  split
  · exact cutDrive_only.trans (arrive_only _ _)
  · split
    · exact cutDrive_only.trans (arrive_only _ _)
    · exact cutDrive_only.trans (obstruct_only _)
  · split
    · exact cutDrive_only.trans (arrive_only _ _)
    · exact cutDrive_only.trans (obstruct_only _)
  · split
    · exact cutDrive_only.trans (retreatEnd_only _ _)
    · exact cutDrive_only
  · exact cutDrive_only

theorem targetChanged_only : RailOnly s (targetChanged s) := by
  simp only [targetChanged]
  split
  · exact .refl
  · exact .refl
  · exact .refl
  · exact endTest_only _
  · exact endTest_only _
  · split
    · exact cutDrive_only.trans (startMove_only _ _)
    · exact .refl
  · split
    · exact cutDrive_only.trans (startMove_only _ _)
    · exact .refl
  · split
    · split
      · exact startMove_only _ _
      · exact railEnter_only _
    · exact .refl
  · split
    · exact .refl
    · split
      · split
        · exact arrive_only _ _
        · exact startMove_only _ _
      · exact .refl

theorem setDemand_only (d : Demand) : RailOnly s (setDemand d s) := by
  simp only [setDemand]
  split
  · exact onRlc_only _
  · exact (onRlc_only _).trans targetChanged_only

theorem deriveLever_only : RailOnly s (deriveLever s) := setDemand_only _

/-! ## The voice assigner -/

theorem onVas_only (f : Vas → Vas) : VoiceOnly s (onVas f s) := ⟨_, _, _, rfl⟩
theorem setSlot_only (n : Slot) (v : VoiceSlot) : VoiceOnly s (setSlot n v s) := ⟨_, _, _, rfl⟩
theorem toneTeardown_only : VoiceOnly s (toneTeardown s) := onVas_only _

theorem queueOrder_only (o : VoiceOrder) : VoiceOnly s (queueOrder o s) := by
  simp only [queueOrder]
  split
  · exact (onVas_only _).trans (raiseAll_only _).report.voice
  · exact onVas_only _

theorem dampOrder_only (n : Slot) (x : Nat) : VoiceOnly s (dampOrder n x s) := by
  simp only [dampOrder]
  split
  · exact (onVas_only _).trans (setSlot_only _ _)
  · split
    · exact (setSlot_only _ _).trans (queueOrder_only _)
    · exact setSlot_only _ _

theorem recomputeSlot_only (n : Slot) : VoiceOnly s (recomputeSlot n s) := by
  simp only [recomputeSlot]
  split
  · exact .refl
  · split
    · exact (setSlot_only _ _).trans (dampOrder_only _ _)
    · exact setSlot_only _ _

theorem recomputeWhere_only (p : Voice → Bool) : VoiceOnly s (recomputeWhere p s) := by
  refine foldl_rel (R := VoiceOnly) (fun _ => .refl) .trans (fun s n => ?_) _ _
  split
  · split
    · exact recomputeSlot_only _
    · exact .refl
  · exact .refl

theorem assignSlot_only (n : Slot) (li : Fin 4) (k : Key) (src : Source) (v : Nat) (a b : Bool) :
    VoiceOnly s (assignSlot n li k src v a b s) :=
  (((setSlot_only _ _).trans (onVas_only _)).trans (queueOrder_only _)).trans (recomputeSlot_only _)

theorem refuseVoice_only : ReportOnly s (refuseVoice s) := ⟨_, _, rfl⟩

theorem strikeLayer_only (k : Key) (src : Source) (v : Nat) (used : List Slot) (li : Fin 4) :
    VoiceOnly s (strikeLayer k src v (s, used) li).1 := by
  simp only [strikeLayer]
  split
  · split
    · exact refuseVoice_only.voice
    · split
      · exact assignSlot_only _ _ _ _ _ _ _
      · split
        · exact assignSlot_only _ _ _ _ _ _ _
        · split
          · exact VoiceOnly.trans ⟨_, _, _, rfl⟩ (assignSlot_only _ _ _ _ _ _ _)
          · exact .refl
  · exact .refl

theorem voiceStrike_only (k : Key) (src : Source) (v : Nat) : VoiceOnly s (voiceStrike k src v s) := by
  have h : ∀ (ls : List (Fin 4)) (acc : State × List Slot), VoiceOnly acc.1 (ls.foldl (strikeLayer k src v) acc).1 := by
    intro ls
    induction ls with
    | nil => exact fun _ => .refl
    | cons l ls ih => exact fun acc => (strikeLayer_only k src v acc.2 l).trans (ih _)
  simp only [voiceStrike]
  split
  · exact h _ (s, [])
  · exact .refl

theorem voiceEvent_only (e : Event) : VoiceOnly s (voiceEvent e s) := by
  simp only [voiceEvent]
  split
  · split
    · exact voiceStrike_only _ _ _
    · exact .refl
  · exact .refl

theorem softOrder_only (src : Source) : VoiceOnly s (softOrder src s) := by
  simp only [softOrder]
  split
  · exact (onVas_only _).trans (queueOrder_only _)
  · exact onVas_only _

theorem softChanged_only (src : Source) : VoiceOnly s (softChanged src s) := by
  simp only [softChanged]
  split
  · exact softOrder_only _
  · exact .refl

theorem softClaimed_only (src : Source) : VoiceOnly s (softClaimed src s) := by
  simp only [softClaimed]
  split
  · exact softOrder_only _
  · exact .refl

/-! ## The take store -/

theorem onTks_only (f : Tks → Tks) : TakeOnly s (onTks f s) := ⟨_, _, _, rfl⟩
theorem onTake_only (t : TakeNo) (f : TakeEntry → TakeEntry) : TakeOnly s (onTake t f s) := ⟨_, _, _, rfl⟩

theorem allocateBlock_only (t : TakeNo) : TakeOnly s (allocateBlock t s) := by
  simp only [allocateBlock]
  split
  · exact .refl
  · split
    · exact (onTks_only _).trans (onTks_only _)
    · exact (onTks_only _).trans (onTake_only _ _)

theorem emptyTake_only (t : TakeNo) : TakeOnly s (emptyTake t s) := (onTks_only _).trans (onTake_only _ _)

theorem appendRecord_only (t : TakeNo) (r : TakeRec) : TakeOnly s (appendRecord t s r) := by
  have h1 : TakeOnly s (if 256 * (takeChain s t).length ≤ (s.take t).count then allocateBlock t s else s) := by
    split
    · exact allocateBlock_only t
    · exact .refl
  have h2 : ∀ (u : State) (n : Nat), TakeOnly u (match recordAddr u t n with
      | some a => onTks (fun k => { k with mem := TakeMem.write k.mem a r }) u
      | none => u) := by
    intro u n
    split
    · exact onTks_only _
    · exact .refl
  exact (h1.trans (h2 _ _)).trans (onTake_only _ _)

theorem appendRecords_only (t : TakeNo) (rs : List TakeRec) : TakeOnly s (appendRecords t rs s) :=
  foldl_rel (R := TakeOnly) (f := appendRecord t) (fun _ => .refl) .trans (fun _ r => appendRecord_only t r) rs s

theorem truncateTake_only (t : TakeNo) : TakeOnly s (truncateTake t s) :=
  (((onTake_only _ _).trans (onTks_only _)).trans (reportFault_only _).take).trans (raiseAll_only _).report.take

theorem writeRecord_only (t : TakeNo) (n : Nat) (k : TakeKind) (key : Key) (v : Nat) :
    TakeOnly s (writeRecord t n k key v s) := by
  simp only [writeRecord]
  split
  · exact appendRecords_only _ _
  · exact truncateTake_only _

theorem recordLive_only (t : TakeNo) (r : RecInfo) (e : Event) : TakeOnly s (recordLive t r e s) := by
  simp only [recordLive]
  split
  · exact .refl
  · exact (onTks_only _).trans (writeRecord_only _ _ _ _ _)

theorem startTake_only (t : TakeNo) (n : Clock) : TakeOnly s (startTake t n s) :=
  (onTks_only _).trans (appendRecords_only _ _)

theorem recorderEvent_only (e : Event) : TakeOnly s (recorderEvent e s) := by
  simp only [recorderEvent]
  split
  · split
    · exact .refl
    · split
      · split
        · exact (startTake_only _ _).trans ((recordLive_only _ _ _).trans (raiseAll_only _).report.take)
        · exact startTake_only _ _
      · exact .refl
    · exact recordLive_only _ _ _
  · exact .refl

/-- The recorder does nothing with an event of source PLAYBACK (R129). -/
theorem recorderEvent_playback (e : Event) (h : e.source = .playback) : recorderEvent e s = s := by
  simp [recorderEvent, h]

/-! ## The player -/

theorem onPly_only (f : Ply → Ply) : PlayOnly s (onPly f s) := ⟨_, _, _, _, _, rfl⟩
theorem onSession_only (f : Session → Session) : PlayOnly s (onSession f s) := onPly_only _
theorem enterPlaying_only : PlayOnly s (enterPlaying s) := onSession_only _
theorem playStateRaised_only : PlayOnly s (playStateRaised s) := (raiseAll_only _).report.voice.play

theorem playbackEvent_only (k : EventKind) (key : Option Nat) (v : Nat) (g : Bool) :
    PlayOnly s (playbackEvent k key v g s) := by
  simp only [playbackEvent]
  rw [recorderEvent_playback _ rfl]
  exact (appendEvent_play _).trans (voiceEvent_only _).play

theorem playMark_only (m : Mark) (t : TakeNo) : PlayOnly s (playMark m t s) := playbackEvent_only _ _ _ _

theorem setPlayKeys_only (S : KeySet) : PlayOnly s (setPlayKeys S s) := by
  simp only [setPlayKeys]
  split
  · exact onPly_only _
  · exact (onPly_only _).trans (recomputeWhere_only _).play

theorem setPlaySost_only (b : Bool) (S : KeySet) : PlayOnly s (setPlaySost b S s) := by
  simp only [setPlaySost]
  split
  · exact onPly_only _
  · exact (onPly_only _).trans (recomputeWhere_only _).play

theorem setPlayDamper_only (x : Nat) : PlayOnly s (setPlayDamper x s) := by
  simp only [setPlayDamper]
  split
  · exact onPly_only _
  · exact (onPly_only _).trans (recomputeWhere_only _).play

theorem setPlaySoft_only (x : Nat) : PlayOnly s (setPlaySoft x s) := by
  simp only [setPlaySoft]
  split
  · exact onPly_only _
  · exact (onPly_only _).trans (softChanged_only _).play

theorem playRecord_only (r : TakeRec) : PlayOnly s (playRecord r s) := by
  simp only [playRecord]
  split
  · split
    · exact playbackEvent_only _ _ _ _
    · exact (setPlayKeys_only _).trans (playbackEvent_only _ _ _ _)
  · split
    · split
      · exact setPlayKeys_only _
      · exact (setPlayKeys_only _).trans (playbackEvent_only _ _ _ _)
    · exact (setPlayKeys_only _).trans (playbackEvent_only _ _ _ _)
  · exact (setPlayDamper_only _).trans (playbackEvent_only _ _ _ _)
  · exact (setPlaySoft_only _).trans (playbackEvent_only _ _ _ _)
  · split
    · split
      · exact playbackEvent_only _ _ _ _
      · exact (setPlaySost_only _ _).trans (playbackEvent_only _ _ _ _)
    · split
      · exact (setPlaySost_only _ _).trans (playbackEvent_only _ _ _ _)
      · exact playbackEvent_only _ _ _ _
  · exact .refl

theorem advanceCursor_only : PlayOnly s (advanceCursor s) := by
  simp only [advanceCursor]
  split
  · split
    · exact (onSession_only _).trans (onPly_only _)
    · exact onSession_only _
  · exact onSession_only _

theorem collectChord_only (n : Nat) (rs : List (TakeRec × Nat)) : PlayOnly s (collectChord n rs s) := by
  simp only [collectChord]
  split
  · exact .refl
  · exact ((onPly_only _).trans (playMark_only _ _)).trans playStateRaised_only

theorem playFrom_only (rs : List (TakeRec × Nat)) : PlayOnly s (playFrom rs s) := by
  induction rs generalizing s with
  | nil => exact .refl
  | cons r rs ih =>
    obtain ⟨r, n⟩ := r
    simp only [playFrom]
    split
    · exact .refl
    · split
      · split
        · exact collectChord_only _ _
        · exact ((playRecord_only _).trans advanceCursor_only).trans ih
      · exact .refl

theorem playDue_only : PlayOnly s (playDue s) := by
  simp only [playDue]
  split
  · exact playFrom_only _
  · exact .refl

theorem endPlayback_only (m : Mark) : PlayOnly s (endPlayback m s) := by
  simp only [endPlayback]
  split
  · exact .refl
  · exact ((((((setPlayKeys_only _).trans (setPlaySost_only _ _)).trans (setPlayDamper_only _)).trans
      (setPlaySoft_only _)).trans (onPly_only _)).trans (playMark_only _ _)).trans ((onPly_only _).trans playStateRaised_only)

theorem endIfPast_only : PlayOnly s (endIfPast s) := by
  simp only [endIfPast]
  split
  · split
    · exact endPlayback_only _
    · exact .refl
  · exact .refl

theorem playDueThenEnd_only : PlayOnly s (playDueThenEnd s) := playDue_only.trans endIfPast_only

theorem loopJump_only (lp : Loop) : PlayOnly s (loopJump lp s) := by
  simp only [loopJump]
  split
  · exact .refl
  · rename_i ss _
    have hw : ∀ (w : Bool) (r : State), PlayOnly s r → PlayOnly s (if w = true then playStateRaised r else r) := by
      intro w r hr
      split
      · exact hr.trans playStateRaised_only
      · exact hr
    have hd : ∀ r : State, PlayOnly s r → PlayOnly s (if r.ply.isPlaying = true then playDue r else r) := by
      intro r hr
      split
      · exact hr.trans playDue_only
      · exact hr
    exact hd _ (hw _ _ (((((((setPlayKeys_only _).trans (setPlaySost_only _ _)).trans (setPlayDamper_only _)).trans
      (onPly_only _)).trans (setPlayDamper_only _)).trans ((setPlaySost_only _ _).trans (setPlaySoft_only _))).trans
      (playMark_only _ _)))

theorem endWait_only (m : Mark) (t : TakeNo) : PlayOnly s (endWait m t s) :=
  (((playMark_only _ _).trans enterPlaying_only).trans playStateRaised_only).trans playDueThenEnd_only

theorem playerEvent_only (e : Event) : PlayOnly s (playerEvent e s) := by
  simp only [playerEvent]
  split
  · split
    · split
      · split
        · exact (onPly_only _).trans (endWait_only _ _)
        · exact onPly_only _
      · exact .refl
    · exact .refl
  · exact .refl

theorem pedalEvent_only (e : Event) : ActionOnly s (pedalEvent e s) :=
  ((appendEvent_play _).trans (voiceEvent_only _).play).action.trans (recorderEvent_only _).action

theorem trackerEvent_only (e : Event) : ActionOnly s (trackerEvent e s) :=
  (pedalEvent_only e).trans (playerEvent_only _).action

/-! ## Keys -/

theorem onKey_only (k : Key) (f : KeyRec → KeyRec) : ActionOnly s (onKey k f s) := ⟨_, _, _, _, _, _, _, _, rfl⟩

theorem setKeyLift_only (k : Key) (x : Nat) : ActionOnly s (setKeyLift k x s) := by
  simp only [setKeyLift]
  split
  · exact .refl
  · exact (onKey_only _ _).trans (recomputeWhere_only _).play.action

theorem deriveKey_only (k : Key) (d : Nat) : ActionOnly s (deriveKey k d s) := (onKey_only _ _).trans (setKeyLift_only _ _)

theorem keySampleNormal_only (k : Key) (n : Clock) (d : Nat) : ActionOnly s (keySampleNormal k n d s) := by
  simp only [keySampleNormal]
  split
  · split
    · exact (((onKey_only _ _).trans (setKeyLift_only _ _)).trans (onKey_only _ _)).trans
        ((onKey_only _ _).trans (trackerEvent_only _))
    · exact ((onKey_only _ _).trans (setKeyLift_only _ _)).trans (onKey_only _ _)
  · exact ((onKey_only _ _).trans (setKeyLift_only _ _)).trans (onKey_only _ _)

theorem keyDepthSample_only (k : Key) (n : Clock) (b : Bool) (d : Nat) : ActionOnly s (keyDepthSample k n b d s) := by
  simp only [keyDepthSample]
  split
  · split
    · exact onKey_only _ _
    · exact deriveKey_only _ _
  · split
    · exact deriveKey_only _ _
    · exact keySampleNormal_only _ _ _

theorem makeStrike_only (k : Key) (n : Clock) (b : Side) (i : Nat) : ActionOnly s (makeStrike k n b i s) :=
  (onKey_only _ _).trans (trackerEvent_only _)

theorem hammerSampleNormal_only (k : Key) (n : Clock) (h : Nat) : ActionOnly s (hammerSampleNormal k n h s) := by
  have g : ∀ (b : Bool) (r : State), ActionOnly s r →
      ActionOnly s (if b then { r with faults := { r.faults with missed := satInc r.faults.missed } } else r) := by
    intro b r hr
    split
    · exact hr.trans ⟨_, _, _, _, _, _, _, _, rfl⟩
    · exact hr
  simp only [hammerSampleNormal]
  split
  · exact (g _ _ (onKey_only _ _)).trans (makeStrike_only _ _ _ _)
  · exact g _ _ (onKey_only _ _)

theorem hammerSample_only (k : Key) (n : Clock) (b : Bool) (h : Nat) : ActionOnly s (hammerSample k n b h s) := by
  simp only [hammerSample]
  split
  · exact onKey_only _ _
  · exact hammerSampleNormal_only _ _ _

theorem keyChannelFailed_only (b : Bool) (k : Key) (n : Clock) : SenseOnly s (keyChannelFailed b k n s) := by
  have g1 : ∀ r : State, SenseOnly s r →
      SenseOnly s (if (r.key k).sounding then
        onKey k (fun r => { r with sounding := false }) (trackerEvent (keyEvent .release k 1 { failed := true } n) r) else r) := by
    intro r hr
    split
    · exact hr.trans ((trackerEvent_only _).trans (onKey_only _ _)).sense
    · exact hr
  have g2 : ∀ r : State, SenseOnly s r → SenseOnly s (if b then onKey k (fun r => { r with hammerTime := none }) r else r) := by
    intro r hr
    split
    · exact hr.trans (onKey_only _ _).sense
    · exact hr
  simp only [keyChannelFailed]
  exact ((g2 _ ((g1 _ ((onKey_only _ _).sense.trans quietMove_only.sense)).trans
    ((onKey_only _ _).trans (setKeyLift_only _ _)).sense)).trans
    (trackerEvent_only _).sense).trans (raiseAll_only _).report.voice.play.action.sense

theorem keyChannelRecovered_only (b : Bool) (k : Key) (n : Clock) : SenseOnly s (keyChannelRecovered b k n s) := by
  have g : ∀ r : State, SenseOnly s r → SenseOnly s (if (r.key k).depthFailed || (r.key k).hammerFailed then r
      else trackerEvent (keyEvent .keyRecover k 0 {} n) r) := by
    intro r hr
    split
    · exact hr
    · exact hr.trans (trackerEvent_only _).sense
  exact g _ ((onKey_only _ _).sense.trans quietMove_only.sense)

/-! ## Pedals -/

theorem onPdu_only (f : Pdu → Pdu) : ActionOnly s (onPdu f s) := ⟨_, _, _, _, _, _, _, _, rfl⟩

theorem setPedalLift_only (p : Pedal) (x : Nat) : ActionOnly s (setPedalLift p x s) := by
  simp only [setPedalLift]
  split
  · exact onPdu_only _
  · split
    · exact (onPdu_only _).trans (recomputeWhere_only _).play.action
    · exact (onPdu_only _).trans (softChanged_only _).play.action
    · exact onPdu_only _

theorem reportPedal_only (p : Pedal) (x : Nat) (n : Clock) : ActionOnly s (reportPedal p x n s) :=
  (onPdu_only _).trans (pedalEvent_only _)

theorem setSostSet_only (S : KeySet) : ActionOnly s (setSostSet S s) := by
  simp only [setSostSet]
  split
  · exact onPdu_only _
  · exact (onPdu_only _).trans (recomputeWhere_only _).play.action

theorem sostenutoOn_only (n : Clock) : ActionOnly s (sostenutoOn n s) :=
  ((onPdu_only _).trans (setSostSet_only _)).trans (pedalEvent_only _)

theorem sostenutoOff_only (n : Clock) : ActionOnly s (sostenutoOff n s) :=
  ((onPdu_only _).trans (setSostSet_only _)).trans (pedalEvent_only _)

theorem sostenutoTest_only (n : Clock) (d : Nat) : ActionOnly s (sostenutoTest n d s) := by
  simp only [sostenutoTest]
  split
  · split
    · exact sostenutoOff_only _
    · exact .refl
  · split
    · exact sostenutoOn_only _
    · exact .refl

theorem pedalSample_only (p : Pedal) (n : Clock) (b : Bool) (d : Nat) : ActionOnly s (pedalSample p n b d s) := by
  have h1 : ActionOnly s (setPedalDepth p d s) := onPdu_only _
  simp only [pedalSample]
  split
  · split
    · exact h1
    · exact h1.trans (sostenutoTest_only _ _)
  · split
    · exact (h1.trans (setPedalLift_only _ _)).trans (onPdu_only _)
    · split
      · exact (h1.trans (setPedalLift_only _ _)).trans (reportPedal_only _ _ _)
      · exact h1.trans (setPedalLift_only _ _)

theorem pedalChannelFailed_only (p : Pedal) (n : Clock) : ActionOnly s (pedalChannelFailed p n s) := by
  have h : ∀ r : State, ActionOnly s r → ActionOnly s (raiseAll .pedalFail (reportFault .pedalFail r)) := fun r hr =>
    hr.trans ((reportFault_only _).trans (raiseAll_only _).report).voice.play.action
  simp only [pedalChannelFailed]
  refine h _ ?_
  split
  · split
    · exact (onPdu_only _).trans (sostenutoOff_only _)
    · exact onPdu_only _
  · split
    · exact (onPdu_only _).trans ((setPedalLift_only _ _).trans (reportPedal_only _ _ _))
    · exact (onPdu_only _).trans (setPedalLift_only _ _)

theorem pedalChannelRecovered_only (p : Pedal) : ActionOnly s (pedalChannelRecovered p s) := onPdu_only _

/-! ## Sensing -/

theorem onSfe_only (f : Sfe → Sfe) : SenseOnly s (onSfe f s) := ⟨_, _, _, _, _, _, _, _, _, _, rfl⟩

theorem reportFault_sense (k : FaultKind) : SenseOnly s (reportFault k s) := (reportFault_only k).voice.play.action.sense

/-- What a conversion does in its three parts: a failure, a recovery, a sample passed on. -/
theorem convert_parts {a b c : Bool} {f g h : State → State} (hf : ∀ s, SenseOnly s (f s)) (hg : ∀ s, SenseOnly s (g s))
    (hh : ∀ s, SenseOnly s (h s)) (s : State) :
    SenseOnly s (if c = true then h (if b = true then g (if a = true then f s else s) else (if a = true then f s else s))
      else (if b = true then g (if a = true then f s else s) else (if a = true then f s else s))) := by
  have h1 : SenseOnly s (if a = true then f s else s) := by
    split
    · exact hf s
    · exact .refl
  have h2 : SenseOnly s (if b = true then g (if a = true then f s else s) else (if a = true then f s else s)) := by
    split
    · exact h1.trans (hg _)
    · exact h1
  split
  · exact h2.trans (hh _)
  · exact h2

theorem convertKey_only (k : Key) (n : Clock) (raw : Nat) : SenseOnly s (convertKey k n raw s) :=
  (onSfe_only _).trans (convert_parts
    (fun _ => (reportFault_sense _).trans (keyChannelFailed_only _ _ _))
    (fun _ => keyChannelRecovered_only _ _ _) (fun _ => (keyDepthSample_only _ _ _ _).sense) _)

theorem convertHammer_only (k : Key) (n : Clock) (raw : Nat) : SenseOnly s (convertHammer k n raw s) :=
  (onSfe_only _).trans (convert_parts
    (fun _ => (reportFault_sense _).trans (keyChannelFailed_only _ _ _))
    (fun _ => keyChannelRecovered_only _ _ _) (fun _ => (hammerSample_only _ _ _ _).sense.trans quietMove_only.sense) _)

theorem convertPedal_only (p : Pedal) (n : Clock) (raw : Nat) : SenseOnly s (convertPedal p n raw s) :=
  (onSfe_only _).trans (convert_parts
    (fun _ => (reportFault_sense _).trans (pedalChannelFailed_only _ _).sense)
    (fun _ => (pedalChannelRecovered_only _).sense) (fun _ => (pedalSample_only _ _ _ _).sense) _)

theorem convertResult_only (g : Group) (n : Clock) (r : AinResult) : SenseOnly s (convertResult g n s r) := by
  simp only [convertResult]
  split
  · exact convertKey_only _ _ _
  · exact convertHammer_only _ _ _
  · split
    · exact convertPedal_only _ _ _
    · exact .refl

theorem seeSensing_only : RailOnly s (seeSensing s) := by
  simp only [seeSensing]
  split
  · exact .refl
  · exact (onRlc_only _).trans quietMove_only

theorem frameEnd_only : SenseOnly s (frameEnd s) := by
  have h : SenseOnly s (onEveryLink (depthTick s) { s with faults := { s.faults with
      skipped := skipCount s.links.c (skipCount s.links.b (skipCount s.links.a s.faults.skipped)) } }) :=
    ⟨_, _, _, _, _, _, _, _, _, _, rfl⟩
  exact h.trans seeSensing_only.sense

theorem beginEntry_only (p : WalkPos) : SenseOnly s (beginEntry p s) := by
  simp only [beginEntry]
  split <;> exact onSfe_only _

theorem startFrame_only : SenseOnly s (startFrame s) := (onSfe_only _).trans (beginEntry_only _)

theorem frameOverrun_only : SenseOnly s (frameOverrun s) := ⟨_, _, _, _, _, _, _, _, _, _, rfl⟩

theorem endWalk_only (b : Bool) : SenseOnly s (endWalk b s) := by
  have h1 : SenseOnly s (if b then reportFault .listLoop s else s) := by
    split
    · exact reportFault_sense _
    · exact .refl
  have h2 : ∀ r : State, SenseOnly s r → SenseOnly s (if endsLate r then startFrame (frameOverrun r) else r) := by
    intro r hr
    split
    · exact hr.trans (frameOverrun_only.trans startFrame_only)
    · exact hr
  exact h2 _ ((h1.trans frameEnd_only).trans (onSfe_only _))

theorem nextEntry_only (p : WalkPos) : SenseOnly s (nextEntry p s) := by
  simp only [nextEntry]
  split
  · exact endWalk_only _
  · split
    · exact endWalk_only _
    · exact beginEntry_only _

/-! ## What the rail's operations make of the rail -/

@[simp] theorem railEnter_rlc (st : RailState) : (railEnter st s).rlc = { s.rlc with state := st } := by
  unfold railEnter
  dsimp only
  split <;> rfl

@[simp] theorem railEnter_ajn (st : RailState) : (railEnter st s).ajn =
    s.ajn.push { time := s.clock, kind := .rail, source := .live, key := none, value := st.code } := by
  unfold railEnter
  dsimp only
  split <;> rfl

@[simp] theorem railEnter_clock (st : RailState) : (railEnter st s).clock = s.clock := by
  unfold railEnter
  dsimp only
  split <;> rfl

@[simp] theorem railEnter_keys (st : RailState) : (railEnter st s).keys = s.keys := by
  unfold railEnter
  dsimp only
  split <;> rfl

@[simp] theorem railEnter_cst (st : RailState) : (railEnter st s).cst = s.cst := by
  unfold railEnter
  dsimp only
  split <;> rfl

/-- A move enters its state with a leg of its own (R113, R116, R118). -/
theorem startMove_rlc (e : Side) (c : Bool) :
    (startMove e c s).rlc = { s.rlc with state := movingState e, leg := some (newLeg e c s) } := by
  simp [startMove, startLeg, onRlc, newLeg]

/-- At an end the rail stays, moves, or waits (R113). -/
theorem endTest_rlc (e : Side) : (endTest e s).rlc =
    if target s = e then s.rlc
    else if quietTest s then { s.rlc with state := movingState e.other, leg := some (newLeg e.other true s) }
    else { s.rlc with
           state := .waiting { side := e, start := s.clock, held := false, retreatStalled := none, stopped := false } } := by
  unfold endTest
  split
  · rfl
  · split
    · exact startMove_rlc _ _
    · simp [enterWaiting]

/-! ## A microsecond passing -/

theorem finishSending_eq (l : Link) : finishSending l s =
    { s with
      links := s.links.set l ((s.link l).freed s.clock)
      sysReset := if s.sysReset = .awaitingReply l ∧ (s.link l).replied s.clock = true then
        .arrived s.cst.factory.commit.isSome s.cst.user.commit.isSome else s.sysReset } := by
  unfold finishSending
  split <;> rfl

/-- Everything that one microsecond does: the clock, a wait's count, the transmitters, a system reset's arrival. -/
theorem tick_eq : tick s =
    { s with
      clock := s.clock + 1
      rlc := { s.rlc with state := s.rlc.state.stopCount (s.clock + 1) }
      links := ⟨s.links.a.freed (s.clock + 1), s.links.b.freed (s.clock + 1), s.links.c.freed (s.clock + 1)⟩
      sysReset :=
        match s.sysReset with
        | .awaitingReply l =>
          if (s.link l).replied (s.clock + 1) = true then .arrived s.cst.factory.commit.isSome s.cst.user.commit.isSome
          else .awaitingReply l
        | r => r } := by
  simp only [tick, finishSending_eq, onRlc]
  obtain ⟨_, _, _, sr, _, _, _, _, _, _, _, _, ⟨_, _, _⟩, _, _, _, _, _⟩ := s
  simp only [State.link, PerLink.get, PerLink.set, State.mk.injEq, true_and, and_true]
  cases sr with
  | none => simp
  | arrived f u => simp
  | awaitingReply m => cases m <;> simp <;> split <;> simp_all

end Sys2Proof.Machine
end

