-- ==== Sys2Proof/Laws/Memory.lean ====
section
/-! SUPPORT. The laws of the take memory: a read after a write, and the canonical form kept by every operation on it. -/

namespace Sys2Proof.Machine

variable {m : TakeMem} {a b : Nat} {r : TakeRec}

/-- A place reads back what was written to it. -/
@[simp] theorem TakeMem.read_write_same : (m.write a r).read a = some r := by
  induction m with
  | nil => simp [TakeMem.write, TakeMem.read]
  | cons x rest ih =>
    obtain ⟨a', r'⟩ := x
    simp only [TakeMem.write]
    split
    · simp [TakeMem.read]
    · split
      · simp [TakeMem.read]
      · simp [TakeMem.read, *]

/-- A write leaves every other place alone. -/
theorem TakeMem.read_write_ne (h : b ≠ a) : (m.write a r).read b = m.read b := by
  induction m with
  | nil => simp [TakeMem.write, TakeMem.read, h]
  | cons x rest ih =>
    obtain ⟨a', r'⟩ := x
    simp only [TakeMem.write]
    split
    · simp [TakeMem.read, h]
    · split
      · rename_i e
        subst e
        simp [TakeMem.read, h]
      · simp only [TakeMem.read, ih]

/-- The addresses listed after a write are those before it and the one written. -/
theorem TakeMem.mem_write {c : Nat × TakeRec} (h : c ∈ m.write a r) : c = (a, r) ∨ c ∈ m := by
  induction m with
  | nil => simpa [TakeMem.write] using h
  | cons x rest ih =>
    obtain ⟨a', r'⟩ := x
    simp only [TakeMem.write] at h
    split at h
    · simpa using h
    · split at h
      · rcases List.mem_cons.mp h with h | h
        · exact .inl h
        · exact .inr (List.mem_cons_of_mem _ h)
      · rcases List.mem_cons.mp h with h | h
        · exact .inr (h ▸ List.mem_cons_self ..)
        · exact (ih h).imp_right (List.mem_cons_of_mem _)

/-- A write keeps the addresses rising. -/
theorem TakeMem.write_rising (h : (m.map (·.1)).Pairwise (· < ·)) : ((m.write a r).map (·.1)).Pairwise (· < ·) := by
  induction m with
  | nil => simp [TakeMem.write]
  | cons x rest ih =>
    obtain ⟨a', r'⟩ := x
    simp only [List.map_cons, List.pairwise_cons, List.mem_map, forall_exists_index, and_imp,
      forall_apply_eq_imp_iff₂] at h
    simp only [TakeMem.write]
    split
    · rename_i hlt
      simp only [List.map_cons, List.pairwise_cons, List.mem_cons, List.mem_map, forall_eq_or_imp, forall_exists_index,
        and_imp, forall_apply_eq_imp_iff₂]
      exact ⟨⟨hlt, fun c hc => hlt.trans (h.1 c hc)⟩, h.1, h.2⟩
    · split
      · rename_i e
        subst e
        simpa using h
      · simp only [List.map_cons, List.pairwise_cons, List.mem_map, forall_exists_index, and_imp,
          forall_apply_eq_imp_iff₂]
        refine ⟨fun c hc => ?_, ih h.2⟩
        rcases TakeMem.mem_write hc with e | hc
        · subst e; simp only; omega
        · exact h.1 c hc

/-- A write inside the 64 blocks of 256 places keeps the canonical form. -/
theorem TakeMem.write_wf (h : m.wf = true) (ha : a < 16384) : (m.write a r).wf = true := by
  simp only [TakeMem.wf, Bool.and_eq_true, decide_eq_true_eq, List.all_eq_true] at h ⊢
  refine ⟨TakeMem.write_rising h.1, fun c hc => ?_⟩
  rcases TakeMem.mem_write hc with e | hc
  · exact e ▸ ha
  · exact h.2 c hc

/-- A record address lies inside the 64 blocks of 256 places. -/
theorem recordAddr_lt {s : State} {t : TakeNo} {i : Nat} (h : recordAddr s t i = some a) : a < 16384 := by
  simp only [recordAddr, Option.map_eq_some_iff] at h
  obtain ⟨b, -, rfl⟩ := h
  simp only [takeAddr]
  omega

/-- Allocating a block leaves the take memory alone. -/
@[simp] theorem allocateBlock_mem (t : TakeNo) (s : State) : (allocateBlock t s).tks.mem = s.tks.mem := by
  simp only [allocateBlock]
  split
  · rfl
  · split <;> rfl

/-- Emptying a take leaves the take memory alone. -/
@[simp] theorem emptyTake_mem (t : TakeNo) (s : State) : (emptyTake t s).tks.mem = s.tks.mem := by
  simp only [emptyTake, onTake, onTks]

/-- Appending a record keeps the canonical form. -/
theorem appendRecord_wf (t : TakeNo) (s : State) (x : TakeRec) (h : s.tks.mem.wf = true) :
    (appendRecord t s x).tks.mem.wf = true := by
  have h1 : ∀ s1 : State, s1.tks.mem = s.tks.mem → ∀ o : Option Nat, (∀ a, o = some a → a < 16384) →
      (match o with
        | some a => onTks (fun k => { k with mem := TakeMem.write k.mem a x }) s1
        | none => s1).tks.mem.wf = true := by
    intro s1 e o ho
    cases o with
    | none => simpa [e] using h
    | some a => exact TakeMem.write_wf (e ▸ h) (ho a rfl)
  refine h1 _ ?_ _ fun a ha => recordAddr_lt ha
  split
  · exact allocateBlock_mem t s
  · rfl

/-- Appending records keeps the canonical form. -/
theorem appendRecords_wf (t : TakeNo) (rs : List TakeRec) (s : State) (h : s.tks.mem.wf = true) :
    (appendRecords t rs s).tks.mem.wf = true := by
  induction rs generalizing s with
  | nil => exact h
  | cons x rest ih => exact ih _ (appendRecord_wf t s x h)

/-- The take memory after a power-on reset has the canonical form. -/
theorem reset_mem_wf : State.reset.tks.mem.wf = true := rfl

end Sys2Proof.Machine
end

