-- ==== Sys2Proof/Laws/Requests.lean ====
section
/-! SUPPORT. What taking a request can do: one lemma for a request that is taken and one for a request that is not. -/

namespace Sys2Proof.Machine

variable {s : State}

/-- A request at the head of the buffer leaves it, has its effect, and is answered (R164). -/
theorem serve_taken {l : Link} {k : Byte} {args : List Byte} (effect : List Byte → State → State × Reply)
    (h : headRequest l s = some (k, args)) :
    serve l k effect s = putReply l k (effect args (popRequest l s)).2 (effect args (popRequest l s)).1 := by
  simp [serve, h]

/-- Where no request of the kind can be taken nothing happens (log 2). -/
theorem serve_not_taken {l : Link} {k : Byte} (effect : List Byte → State → State × Reply)
    (h : ∀ args, headRequest l s ≠ some (k, args)) : serve l k effect s = s := by
  simp only [serve]
  split
  · rename_i k' args hk
    split
    · rename_i e
      exact absurd (e ▸ hk) (h args)
    · rfl
  · rfl

/-- A payload long enough for its fields goes on to the request's effect (R164). -/
theorem needs_enough {n : Nat} {args : List Byte} (go : State × Reply) (h : n ≤ args.length) :
    needs n args s go = go := by
  simp [needs, Nat.not_lt.mpr h]

/-- As `needs_enough`, for a player request (R146). -/
theorem playerNeeds_enough {n : Nat} {args : List Byte} (go : State × Reply) (h : n ≤ args.length) :
    playerNeeds n args s go = go := by
  simp [playerNeeds, Nat.not_lt.mpr h]

/-- Taking a request drops the head of the buffer and leaves the rest of the port (R164). -/
theorem popRequest_link (l : Link) :
    (popRequest l s).link l = { s.link l with rxBuf := (s.link l).rxBuf.drop 1 } := by
  cases l <;> rfl

/-- The payload limit is not touched by taking a request. -/
@[simp] theorem popRequest_limit (l m : Link) : ((popRequest l s).link m).limit = (s.link m).limit := by
  cases l <;> cases m <;> rfl

/-- The streams are not touched by taking a request. -/
@[simp] theorem popRequest_stream (l m : Link) : ((popRequest l s).link m).stream = (s.link m).stream := by
  cases l <;> cases m <;> rfl

/-- The notice tables are not touched by taking a request. -/
@[simp] theorem popRequest_notice (l m : Link) : ((popRequest l s).link m).notice = (s.link m).notice := by
  cases l <;> cases m <;> rfl

/-- The transmit queues are not touched by taking a request. -/
@[simp] theorem popRequest_tx (l m : Link) : ((popRequest l s).link m).tx = (s.link m).tx := by
  cases l <;> cases m <;> rfl

/-- A reply joins the tail of its link's transmit queue (R164, R165). -/
theorem putReply_link (l : Link) (k : Byte) (r : Reply) :
    (putReply l k r s).link l = { s.link l with tx := (s.link l).tx ++ [.reply (replyPayload (s.link l).limit k r)] } := by
  cases l <;> rfl

/-- A reply leaves the other links alone. -/
theorem putReply_link_ne {l m : Link} (k : Byte) (r : Reply) (h : m ≠ l) : (putReply l k r s).link m = s.link m :=
  State.link_onLink_ne _ h

/-- The front end, keys and all other blocks as a popped request leaves them: it changes links alone. -/
theorem popRequest_eq (l : Link) : popRequest l s = { s with links := (popRequest l s).links } := rfl

end Sys2Proof.Machine
end

