-- ==== Sys2Proof/WellFormed.lean ====
section
/-! DEFINITION. Which commands are well formed. -/

namespace Sys2Proof

/-- One result for each of the eight inputs (R1: all eight are converted with every group). -/
def ainComplete (rs : List AinResult) : Bool :=
  rs.length == 8 && decide (rs.map (·.ain)).Nodup

/-- Every raw value is a 12-bit converter value (R2: 0 to 4095). -/
def rawInRange (rs : List AinResult) : Bool := rs.all fun r => r.raw ≤ 4095

/-- A command the outside can send: only CONVERSION_END carries something to check. -/
def Instr.wellFormed : Instr → Bool
  | .powerOnReset => true
  | .resetnLow => true
  | .systemResetEffect => true
  | .receiveByte _ _ _ => true
  | .interByteGapTimeout _ => true
  | .lineBreak _ => true
  | .transmitFrameStart _ => true
  | .pendingNoticeQueued _ => true
  | .voiceOrderDrain => true
  | .unknownRequest _ => true
  | .hello _ => true
  | .setLink _ => true
  | .claimRole _ => true
  | .readKeys _ => true
  | .setWindow _ => true
  | .readWindow _ => true
  | .depthStream _ => true
  | .setScanList _ => true
  | .openJournal _ => true
  | .readJournal _ => true
  | .closeJournal _ => true
  | .setLayers _ => true
  | .readVoices _ => true
  | .voiceEnded _ => true
  | .railDemand _ => true
  | .railRecover _ => true
  | .readRail _ => true
  | .takeRecord _ => true
  | .takeStop _ => true
  | .takeLoad _ => true
  | .writeTakeRecords _ => true
  | .loadEnd _ => true
  | .takeKeep _ => true
  | .takeUnkeep _ => true
  | .takeErase _ => true
  | .readTakeDirectory _ => true
  | .readTakeRecords _ => true
  | .takePlay _ => true
  | .stop _ => true
  | .pause _ => true
  | .resume _ => true
  | .setTempo _ => true
  | .setLoop _ => true
  | .clearLoop _ => true
  | .setGuide _ => true
  | .calRead _ => true
  | .calWrite _ => true
  | .calCommit _ => true
  | .calDefaults _ => true
  | .commitComplete _ _ => true
  | .noticeSet _ => true
  | .noticeMask _ => true
  | .readFaults _ => true
  | .clearFaults _ => true
  | .systemReset _ => true
  | .frameStart => true
  | .settleEnd => true
  | .conversionEnd rs => ainComplete rs && rawInRange rs
  | .recorderSecondStep => true
  | .millisecondStep => true
  | .silentInputChange _ => true
  | .leverDebounceExpiry => true
  | .railHomingStart => true
  | .railQuietMoveStart => true
  | .railCurrentChange _ => true
  | .inrushBlankingEnd => true
  | .stall => true
  | .maximumTravelTimeout => true
  | .backoffTimeEnd => true
  | .retryDelayEnd => true
  | .railHeld => true
  | .resetnHigh => true
  | .lineReturnsHigh _ => true
  | .powerLoss => true
  | .regionsLoaded => true

end Sys2Proof
end

