-- ==== Sys2Proof/Tests/Slice0.lean ====
section
/-! SUPPORT. The model's own tests: ill-formed commands, worked examples of the spec, and for every statement with
hypotheses a concrete state and operands that meet them. -/

namespace Sys2Proof.Tests

open Sys2Proof Sys2Proof.Machine

set_option Elab.async false

/-! ## Helpers -/

/-- The part at work, everything else as after a power-on reset. -/
def run : State := { State.reset with phase := .running }

/-- `s` with one complete frame in link `l`'s receive buffer. -/
def asked (l : Link) (k : Byte) (args : List Byte) (s : State) : State := onLink l (fun ls => { ls with rxBuf := [k :: args] }) s

/-- The clock set. -/
def atTime (t : Nat) (s : State) : State := { s with clock := BitVec.ofNat 32 t }

/-- A command put in the queue. -/
def queued (i : Instr) (s : State) : State := { s with pending := [i] }

/-- An outcome is a next state. -/
def goesOn : Host.Outcome State Fault Refusal → Bool
  | .next _ => true
  | _ => false

/-- The next state of an outcome; the reset state where there is none. -/
def after : Host.Outcome State Fault Refusal → State
  | .next t => t
  | _ => State.reset

theorem next_after {o : Host.Outcome State Fault Refusal} (h : goesOn o = true) : o = .next (after o) := by
  cases o with
  | next t => rfl
  | fault r => cases h
  | refused r => cases h

/-- The request `k args` is the one link `l` can take. -/
abbrev Heads (l : Link) (k : Byte) (args : List Byte) (s : State) : Prop := headRequest l s = some (k, args)

/-- A role given. -/
def holding (tone panel : Option Link) (s : State) : State := { s with roles := { tone := tone, panel := panel } }

/-- Key `k` changed. -/
abbrev keyed (k : Key) (r : KeyRec) (s : State) : State := onKey k (fun _ => r) s

/-- Take `n` CLOSED with these records. -/
def closedTake (n : TakeNo) (rs : List TakeRec) (s : State) : State :=
  onTake n (fun e => { e with state := .closed }) (appendRecords n rs (onTake n (fun e => { e with state := .loading }) s))

/-- A strike and a release of key 40, at 10 ms and 30 ms. -/
def tune : List TakeRec := [{ kind := .strike, key := 40, value := 650, delta := 10 }, { kind := .release, key := 40, value := 100, delta := 20 }]

/-- The rail in a state, with a leg or none. -/
def railed (st : RailState) (leg : Option Leg) (s : State) : State := onRlc (fun r => { r with state := st, leg := leg }) s

/-- Sensing seen, so that the resting action is quiet. -/
def quiet (s : State) : State := onRlc (fun r => { r with sensingSeen := true }) s

/-- LEVER in the demand set. -/
def demanded (s : State) : State := onRlc (fun r => { r with demand := { r.demand with lever := true } }) s

/-- The player on take 0 of `tune`, in a mode. -/
def playing (m : PlayMode) (s : State) : State :=
  onPly (fun p => { p with session := some { take := 0, cursor := 0, position := 0, mode := m } }) (closedTake 0 tune s)

/-- A key's and a layer's plain values for the tests. -/
def aVoice : Voice :=
  { damped := false, key := 40, source := .live, layer := 0, follows := true, level := 650, applied := 255, lastSent := 255
    startOrder := 0 }

/-! ## Well-formed commands -/

/-- The results of a whole group. -/
def whole (raw : Nat) : List AinResult := (List.finRange 8).map fun j => ⟨j, raw⟩

theorem test_wellFormed_complete : (Instr.conversionEnd (whole 4095)).wellFormed = true := by decide +kernel
theorem test_illFormed_missing_input : (Instr.conversionEnd ((whole 100).drop 1)).wellFormed = false := by decide +kernel
theorem test_illFormed_input_twice : (Instr.conversionEnd (⟨1, 100⟩ :: (whole 100).drop 1)).wellFormed = false := by decide +kernel
theorem test_illFormed_raw_13_bits : (Instr.conversionEnd (whole 4096)).wellFormed = false := by decide +kernel

/-- The table gives no row any bits. -/
theorem test_no_word_spells_a_command : decodeTableWord 8 0x01 = none ∧ decodeTableWord 0 0 = none := by decide +kernel

/-! ## Worked examples of the spec -/

/-- 09, the HELLO request in its envelope. -/
theorem test_hello_envelope : envelope [kHello] = [0xC3, 0x01, 0x01, 0x12] := by decide +kernel

/-- 01, Normalising, worked: rest 620, full 3480. -/
theorem test_normalise_worked :
    normalise 620 3480 500 = 0 ∧ normalise 620 3480 620 = 0 ∧ normalise 620 3480 2000 = 493
      ∧ normalise 620 3480 3480 = 1023 ∧ normalise 620 3480 3600 = 1023 := by decide +kernel

/-- 02, The strike, worked, and Both gates on one pair, worked: levels. -/
theorem test_strike_levels_worked :
    strikeLevel defaultCurve 1075 1100 212 = 1019 ∧ strikeLevel defaultCurve 1024 900 58 = 1023 := by decide +kernel

/-- 02, Release and lift, worked. -/
theorem test_release_and_lift_worked :
    releaseLevel defaultUser.profile 1200 = 1023 ∧ releaseLevel defaultUser.profile 50000 = 32
      ∧ keyLiftOf defaultUser.profile 300 = 127 := by decide +kernel

/-- 03, Half-pedalling, worked. -/
theorem test_half_pedal_worked :
    [120, 150, 160, 170, 400, 690, 700].map (liftOf 100 700) = [8, 21, 25, 29, 127, 250, 255] := by decide +kernel

/-- 05, R82: a strike through a trim of 60 and of 150. -/
theorem test_voice_levels_worked : voiceLevel 650 60 = 390 ∧ voiceLevel 1000 150 = 1023 := by decide +kernel

/-- 05, R95: orders one frame carries. -/
theorem test_orders_per_frame : [Limit.b16, .b32, .b64].map ordersPerFrame = [1, 3, 7] := by decide +kernel

/-- 07, R128: a gap of 5,000 ms is a PAUSE of value 2 and delta 904. -/
theorem test_pause_of_5000 :
    recordsForGap 5000 .strike 40 650 =
      [{ kind := .pause, key := 0, value := 2, delta := 904 }, { kind := .strike, key := 40, value := 650, delta := 0 }] := by
  decide +kernel

/-- 08, R148: tempo 75 leaves the accumulator at 75, 50, 25 and 0. -/
theorem test_tempo_75 :
    ((List.range 4).foldl (fun (a : Ply × List Nat) _ => (advancePlayer 0 a.1, a.2 ++ [(advancePlayer 0 a.1).acc]))
      ({ tempo := 75 }, [])).2 = [75, 50, 25, 0] := by decide +kernel

/-- 02, The strike, worked: the pair of samples on which gate 2 is crossed, BLOCKED bank 400, 700, 1100 µm, trim 1075. -/
def struck : State :=
  hammerSample 39 10360 false 850
    (keyed 39 { height := 690, hammerTime := some 10240, hammer := .armed .blockedEnd 10035 }
      (onCst (fun c => (c.store 39 (.gates ⟨⟨480, 800, 2000⟩, ⟨400, 700, 1100⟩⟩)).store 39 (.trim 1075)) (railed .blocked none run)))

theorem test_strike_worked :
    struck.ajn.ring =
        [{ seq := 0
           event := { time := 10360, kind := .strike, source := .live, key := some 39, value := 1019, flags := { bank := some .blockedEnd } } }]
      ∧ struck.key 39 = { state := .down, height := 850, hammerTime := some 10360, hammer := .spent, sounding := true } := by
  decide +kernel

/-- 02, The strike, worked, and Both gates on one pair, worked: crossing times. -/
theorem test_crossings_worked :
    crossing 150000 400 (some 10000) 350 10120 520 = some 10035 ∧ crossing 150000 700 (some 10240) 690 10360 850 = some 10247
      ∧ crossing 150000 420 (some 52000) 300 52130 900 = some 52026
      ∧ crossing 150000 690 (some 52000) 300 52130 900 = some 52084 := by decide +kernel

/-- 03, Sostenuto, worked: the capture takes 36, 40 and 43, not 55. -/
theorem test_sostenuto_worked :
    let s := keyed 36 { state := .down } (keyed 40 { state := .down } (keyed 43 { state := .rising 0 false } run))
    let t := pedalSample .sostenuto 120666 false 540 s
    t.ajn.ring.map (fun e => (e.event.kind, e.event.key, e.event.value)) = [(.sostenuto, some 3, 1)]
      ∧ t.pdu.sostSet.has 43 = true ∧ t.pdu.sostSet.has 55 = false := by decide +kernel

/-- 10, Coalescing, worked: two overruns while the frame waits make no second frame. -/
theorem test_coalescing_worked :
    let ls : LinkState :=
      { tx := [], notice := { enable := true, grant := 2, entries := (Vector.replicate 8 {}).set 0 { classes := 3, tag := 70 } } }
    let t := LinkState.raise .journalOverrun (LinkState.raise .journalOverrun ls)
    t.tx = [.notice 0] ∧ (t.entry 0).acc = 2 ∧ (t.entry 0).queued = true := by decide +kernel

/-- The default walk has 56 entries, the last with the end flag (R3). -/
theorem test_default_list :
    ((List.finRange 64).countP fun i => !(defaultScan.entries[i]).last) = 55 ∧ (defaultScan.entries[(55 : Fin 64)]).last = true
      ∧ (defaultScan.entries[(44 : Fin 64)]).group = .p := by decide +kernel

/-- 10, R175: a class raised on a disabled link does nothing. -/
theorem test_disabled_link_raises_nothing : LinkState.raise .railState {} = {} := by decide +kernel

/-- 07, R127 and R174: the take memory keeps its form and reads back what was written. -/
theorem test_take_read_back : takeRecords (closedTake 3 tune run) 3 = tune ∧ (closedTake 3 tune run).tks.mem.wf = true := by
  decide +kernel

/-- R142 and R174: READ TAKE RECORDS sends the first record of `tune` in four bytes. -/
theorem test_take_record_bytes : le32 (TakeRec.word { kind := .strike, key := 40, value := 650, delta := 10 }) = [0x80, 0x52, 0x54, 0x01] := by
  decide +kernel

/-! ## Witnesses: the queue and the part on its own -/

theorem test_witness_emptyQueueIdles :
    (∃ s : State, s.pending = [] ∧ s.phase = .off) ∧ (∃ s : State, s.pending = [] ∧ s.phase = .heldInReset)
      ∧ (∃ s i, s.pending = [] ∧ s.phase = .loading ∧ dueCommand s = some i)
      ∧ (∃ s i, s.pending = [] ∧ s.phase = .running ∧ dueCommand s = some i)
      ∧ (∃ s : State, s.pending = [] ∧ s.phase = .loading ∧ dueCommand s = none ∧ awaitsOutside s = false) :=
  ⟨⟨{ State.reset with phase := .off }, by decide +kernel⟩, ⟨{ State.reset with phase := .heldInReset }, by decide +kernel⟩,
    ⟨atTime 2000 State.reset, .regionsLoaded, by decide +kernel⟩, ⟨asked .b kHello [] run, .hello .b, by decide +kernel⟩,
    ⟨atTime 1999 State.reset, by decide +kernel⟩⟩

/-- Link B sending a frame since time 0. -/
def sendingSince0 (bytes : List Byte) (s : State) : State := onLink .b (fun ls => { ls with sending := some { bytes := bytes, start := 0 } }) s

/-- A system reset that awaits its reply on link B. -/
def awaitingB (s : State) : State := { s with sysReset := .awaitingReply .b }

/-- The SYSTEM RESET reply that B sends is complete at the next microsecond. -/
def resetReplyOut : State := atTime 24 (awaitingB (sendingSince0 (envelope [kSystemReset ||| 0x80, 0]) run))

theorem test_witness_microsecond :
    (∃ s : State, s.pending = [] ∧ s.phase = .running ∧ dueCommand s = none ∧ awaitsOutside s = true)
      ∧ (∃ (s : State) (w : WaitInfo), s.pending = [] ∧ s.phase = .running ∧ dueCommand s = none ∧ awaitsOutside s = false
          ∧ s.rlc.state = .waiting w ∧ elapsed (s.clock + 1) w.start = 65534000)
      ∧ (∃ (s : State) (l : Link) (sd : Sending), s.pending = [] ∧ s.phase = .running ∧ dueCommand s = none ∧ awaitsOutside s = false
          ∧ s.sysReset = .awaitingReply l ∧ (s.link l).sending = some sd ∧ 5 * sd.bytes.length = elapsed (s.clock + 1) sd.start
          ∧ sd.bytes = envelope [kSystemReset ||| 0x80, 0])
      ∧ (∃ (s : State) (l : Link) (sd : Sending), s.pending = [] ∧ s.phase = .running ∧ dueCommand s = none ∧ awaitsOutside s = false
          ∧ (s.link l).sending = some sd ∧ 5 * sd.bytes.length = elapsed (s.clock + 1) sd.start + 1)
      ∧ (∃ (s : State) (l : Link) (sd : Sending), s.pending = [] ∧ s.phase = .running ∧ dueCommand s = none ∧ awaitsOutside s = false
          ∧ s.sysReset = .awaitingReply l ∧ (s.link l).sending = some sd ∧ 5 * sd.bytes.length = elapsed (s.clock + 1) sd.start
          ∧ sd.bytes ≠ envelope [kSystemReset ||| 0x80, 0]) :=
  ⟨⟨onCst (fun k => { k with user := { k.user with commit := some { copy := k.user.working, start := 0 } } }) (atTime 40000 run), by decide +kernel⟩,
    ⟨atTime 65533999 (railed (.waiting ⟨.openEnd, 0, true, none, false⟩) none run), ⟨.openEnd, 0, true, none, false⟩, by decide +kernel⟩,
    ⟨resetReplyOut, .b, ⟨envelope [kSystemReset ||| 0x80, 0], 0⟩, by decide +kernel⟩,
    ⟨atTime 23 (sendingSince0 (envelope [kSystemReset ||| 0x80, 0]) run), .b, ⟨envelope [kSystemReset ||| 0x80, 0], 0⟩, by decide +kernel⟩,
    ⟨atTime 19 (awaitingB (sendingSince0 (envelope [kHello]) run)), .b, ⟨envelope [kHello], 0⟩, by decide +kernel⟩⟩

/-- 09, R165, R173: the reply's five bytes take 25 µs, and the system reset then arrives. -/
theorem test_reset_reply_sent : (after (step resetReplyOut)).sysReset = .arrived false false := by decide +kernel

/-! ## Witnesses: the invariants, each in a state other than the reset state that a step leaves -/

/-- Link A with two frames received, a reply and seven notices waiting, and a HELLO to serve next. -/
def fullLink : State :=
  queued (.receiveByte .a 0xC3 false)
    (onLink .a (fun ls =>
      { ls with rxBuf := [[kHello], [kHello]], tx := .reply [] :: (List.range 7).map fun _ => .depth [] }) run)

theorem test_witness_linksBounded : ∃ s t, LinksBounded s ∧ step s = .next t :=
  ⟨fullLink, _, fun l => by cases l <;> (unfold LinkState.bounded; decide +kernel), next_after (by decide +kernel)⟩

/-- Link B with entry 0's frame queued, about to be sent. -/
def oneNotice : State :=
  queued (.transmitFrameStart .b)
    (onLink .b (fun ls =>
      LinkState.raise .railState
        { ls with notice := { ls.notice with enable := true, entries := ls.notice.entries.set 0 { classes := 4, tag := 70 } } }) run)

theorem test_witness_noticesAgree : ∃ s t, NoticesAgree s ∧ (s.link .b).tx = [.notice 0] ∧ step s = .next t :=
  ⟨oneNotice, _, fun l => by cases l <;> (unfold LinkState.noticesAgree; decide +kernel), by decide +kernel,
    next_after (by decide +kernel)⟩

/-- One event held and an open stream on link C that has not read it, about to be closed. -/
def oneEvent : State :=
  queued (.closeJournal .c)
    (asked .c kCloseJournal []
      (onLink .c (fun ls => { ls with stream := some { cursor := 0, threshold := 256 } })
        (appendEvent { time := 5, kind := .damper, source := .live, key := none, value := 255 } run)))

theorem oneEvent_sound : JournalSound oneEvent := by
  refine ⟨by unfold Ajn.consecutive; decide +kernel, fun l => ?_⟩
  show ∀ st ∈ (oneEvent.link l).stream, _
  cases l <;> decide +kernel

theorem test_witness_journalSound : ∃ s t, JournalSound s ∧ s.ajn.ring.length = 1 ∧ step s = .next t :=
  ⟨oneEvent, _, oneEvent_sound, by decide +kernel, next_after (by decide +kernel)⟩

/-- No link holds TONE and slot 9 has run through a generation; a READ VOICES to serve. -/
def toneless : State := queued (.readVoices .a) (asked .a kReadVoices [0, 128] (setSlot 9 { gen := 200 } run))

theorem test_witness_voicesSound :
    (∃ s t, VoicesSound s ∧ s.roles.tone = none ∧ step s = .next t)
      ∧ (∃ s t, VoicesSound s ∧ s.roles.tone = some .b ∧ s.vas.queue.length = 48 ∧ step s = .next t) :=
  ⟨⟨toneless, _, by unfold VoicesSound; decide +kernel, by decide +kernel, next_after (by decide +kernel)⟩,
    ⟨queued .voiceOrderDrain (holding (some .b) none (onVas (fun va => { va with queue := List.replicate 48 (.soft .live 5) }) run)), _,
      by unfold VoicesSound; decide +kernel, by decide +kernel, by decide +kernel, next_after (by decide +kernel)⟩⟩

/-- A leg toward an end, past its blanking, its run begun at `t`. -/
def legRun (toward : Side) (check : Bool) (t : Nat) : Leg :=
  { newLeg toward check run with blanked := true, run := some (BitVec.ofNat 32 t) }

theorem test_witness_driveMatchesState :
    ∃ s t, DriveMatchesState s ∧ s.rlc.leg.isSome = true ∧ step s = .next t :=
  ⟨queued .stall (demanded (railed .closing (some (legRun .blockedEnd true 149800)) (atTime 150000 run))), _,
    by unfold DriveMatchesState; decide +kernel, by decide +kernel, next_after (by decide +kernel)⟩

/-- Take 2 RECORDING in IMMEDIATE mode, its three snapshot records written. -/
def recording : State := after (exec (.takeRecord .a) (asked .a kTakeRecord [2, 1, 7, 0] run))

/-- Take 2 RECORDING with a strike behind its snapshot. -/
def recorded : State := recorderEvent { time := 0, kind := .strike, source := .live, key := some 40, value := 650 } recording

theorem takesSound_of {s : State}
    (h1 : ∀ t u, ((s.take t).state = .recording ∨ (s.take t).state = .loading) →
      ((s.take u).state = .recording ∨ (s.take u).state = .loading) → t = u)
    (h2 : (∀ t, s.tks.recorder.names = some t → (s.take t).state = .recording)
      ∧ ∀ t, s.tks.recorder = .armed t → (s.take t).count = 0 ∧ takeChain s t ≠ [])
    (h3 : ∀ ss ∈ s.ply.session, (s.take ss.take).state = .closed)
    (h4 : ∀ t, (takeChain s t).Nodup ∧ (∀ b ∈ takeChain s t, s.tks.blocks[b] ≠ .free)
      ∧ (∀ b, (takeChain s t).getLast? = some b → s.tks.blocks[b] = .last))
    (h5 : ∀ t, (s.take t).count ≤ 256 * (takeChain s t).length ∧ 256 * ((takeChain s t).length - 1) ≤ (s.take t).count
      ∧ (takeRecords s t).length = (s.take t).count ∧ ((s.take t).state = .empty → s.take t = {}))
    (h6 : ∀ t u, ∀ b ∈ takeChain s t, b ∈ takeChain s u → t = u)
    (h7 : ∀ b : Block, s.tks.blocks[b] ≠ .free → ∃ t, b ∈ takeChain s t) : TakesSound s :=
  ⟨h1, h2.1, h2.2, h3, fun t => ⟨(h4 t).1, (h4 t).2.1, (h4 t).2.2, h5 t⟩, h6, h7⟩

/-- The recorder's take 2 and the player's take 0, with a STOP to serve. -/
def twoTakes : State := queued (.takeStop .b) (asked .b kTakeStop [] (playing .waiting recorded))

theorem twoTakes_sound : TakesSound twoTakes :=
  takesSound_of (by decide +kernel) (by decide +kernel) (by decide +kernel) (by decide +kernel) (by decide +kernel)
    (by decide +kernel) (by decide +kernel)

theorem test_witness_takesSound :
    ∃ s t, TakesSound s ∧ s.tks.recorder.names = some 2 ∧ s.ply.session.isSome = true ∧ step s = .next t :=
  ⟨twoTakes, _, twoTakes_sound, by decide +kernel, by decide +kernel, next_after (by decide +kernel)⟩

theorem test_witness_takeMemorySound : ∃ s t, TakeMemorySound s ∧ s.tks.mem ≠ [] ∧ step s = .next t :=
  ⟨queued (.takeStop .b) (asked .b kTakeStop [] recorded), _, by unfold TakeMemorySound; decide +kernel, by decide +kernel,
    next_after (by decide +kernel)⟩

/-- The player WAITING for key 40, with a STOP to serve. -/
def waitingFor40 : State :=
  queued (.stop .a) (asked .a kStop [] (onPly (fun p => { p with expected := KeySet.empty.add 40 }) (playing .waiting run)))

theorem waitingFor40_waits : ExpectedWhileWaiting waitingFor40 := by
  have h : waitingFor40.ply.session = some { take := 0, cursor := 0, position := 0, mode := .waiting } := by decide +kernel
  have e : waitingFor40.ply.expected ≠ KeySet.empty := by decide +kernel
  simp [ExpectedWhileWaiting, Ply.waitsOrPausedWait, h, e]

theorem test_witness_expectedWhileWaiting : ∃ s t, ExpectedWhileWaiting s ∧ s.ply.expected.has 40 = true ∧ step s = .next t :=
  ⟨waitingFor40, _, waitingFor40_waits, by decide +kernel, next_after (by decide +kernel)⟩

theorem test_witness_sostenutoSetsEmptyWhileOff :
    ∃ s t, SostenutoSetsEmptyWhileOff s ∧ s.pdu.sostOn = true ∧ s.pdu.sostSet ≠ KeySet.empty ∧ step s = .next t :=
  ⟨queued (.readKeys .a) (asked .a kReadKeys [0, 1] (onPdu (fun u => { u with sostOn := true, sostSet := KeySet.empty.add 36 }) run)), _,
    by unfold SostenutoSetsEmptyWhileOff; decide +kernel, by decide +kernel, by decide +kernel, next_after (by decide +kernel)⟩

theorem test_witness_heldOutKeysQuiet :
    ∃ s t, HeldOutKeysQuiet s ∧ (s.key 12).heldOut = true ∧ (s.key 12).hammerFailed = true ∧ step s = .next t :=
  ⟨queued (.readKeys .a) (asked .a kReadKeys [12, 1] (keyed 12 { heldOut := true, hammerFailed := true } run)), _,
    by unfold HeldOutKeysQuiet KeyRec.quietWhenHeldOut; decide +kernel, by decide +kernel, by decide +kernel,
    next_after (by decide +kernel)⟩

/-! ## Witnesses: requests in general -/

theorem test_witness_refusedRequest :
    (∃ i l k args s, requestCommand l k = some i ∧ Heads l k args s)
      ∧ (∃ i l k args s, requestCommand l k = some i ∧ Heads l k args s ∧ (s.tks.recorder = .idle ∧ i = .takeStop l)) :=
  ⟨⟨.hello .b, .b, kHello, [], asked .b kHello [] run, by decide +kernel⟩,
    ⟨.takeStop .b, .b, kTakeStop, [], asked .b kTakeStop [] run, by decide +kernel⟩⟩

theorem test_witness_requestsAnsweredOrLeft :
    (∃ l k args s, requestCommand l k = none ∧ Heads l k args s)
      ∧ (∃ i l k s, requestCommand l k = some i ∧ ∀ args, headRequest l s ≠ some (k, args)) := by
  refine ⟨⟨.b, 0x7F, [1], asked .b 0x7F [1] run, by decide +kernel⟩, ⟨.hello .b, .b, kHello, run, by decide +kernel, ?_⟩⟩
  have h : headRequest .b run = none := by decide +kernel
  simp [h]

theorem test_witness_hello_closeJournal_readRail :
    (∃ l args s, Heads l kHello args s) ∧ (∃ l args s, Heads l kCloseJournal args s ∧ (s.link l).stream ≠ none)
      ∧ (∃ l args s, Heads l kCloseJournal args s ∧ (s.link l).stream = none) ∧ (∃ l args s, Heads l kReadRail args s) :=
  ⟨⟨.c, [], asked .c kHello [] run, by decide +kernel⟩, ⟨.c, [], oneEvent, by decide +kernel⟩,
    ⟨.a, [], asked .a kCloseJournal [] run, by decide +kernel⟩, ⟨.a, [], asked .a kReadRail [] run, by decide +kernel⟩⟩

theorem test_witness_readRail_clauses :
    (∃ s : State, s.rlc.leg = none) ∧ (∃ (s : State) (lg : Leg), s.rlc.leg = some lg)
      ∧ (∃ (s : State) (w : WaitInfo), s.rlc.state = .waiting w ∧ w.stopped = false)
      ∧ (∃ (s : State) (w : WaitInfo), s.rlc.state = .waiting w ∧ w.stopped = true) ∧ (∃ s : State, s.rlc.lastTravelMs = none)
      ∧ (∃ (s : State) (ms : Nat), s.rlc.lastTravelMs = some ms) :=
  ⟨⟨run, rfl⟩, ⟨railed .closing (some (legRun .blockedEnd true 0)) run, _, rfl⟩,
    ⟨railed (.waiting ⟨.openEnd, 0, false, none, false⟩) none run, _, rfl, rfl⟩,
    ⟨railed (.waiting ⟨.openEnd, 0, true, none, true⟩) none run, _, rfl, rfl⟩, ⟨run, rfl⟩,
    ⟨onRlc (fun r => { r with lastTravelMs := some 310 }) run, _, rfl⟩⟩

theorem test_witness_reads :
    (∃ l args s, Heads l kReadKeys args s ∧ 2 ≤ args.length ∧ byteAt args 0 = 90)
      ∧ (∃ l args s, Heads l kReadWindow args s ∧ 1 ≤ args.length ∧ byteAt args 0 = 15)
      ∧ (∃ l args s, Heads l kReadVoices args s ∧ 2 ≤ args.length ∧ byteAt args 0 = 127)
      ∧ (∃ l args s, Heads l kReadTakeDirectory args s ∧ 1 ≤ args.length ∧ byteAt args 0 = 7)
      ∧ (∃ (t : TakeNo) (l : Link) (args : List Byte) (s : State), Heads l kReadTakeRecords args s ∧ 4 ≤ args.length
          ∧ byteAt args 0 = t.val ∧ (s.take t).state ≠ .empty)
      ∧ (∃ l args s r it, Heads l kCalRead args s ∧ 4 ≤ args.length ∧ regionOf (byteAt args 0) = some r
          ∧ CalItem.ofCode r (byteAt args 1) = some it ∧ byteAt args 2 < it.size)
      ∧ (∃ l args s, Heads l kReadFaults args s ∧ 1 ≤ args.length ∧ byteAt args 0 = 4) :=
  ⟨⟨.a, [90, 1], asked .a kReadKeys [90, 1] run, by decide +kernel⟩, ⟨.a, [15], asked .a kReadWindow [15] run, by decide +kernel⟩,
    ⟨.a, [127, 1], asked .a kReadVoices [127, 1] run, by decide +kernel⟩,
    ⟨.a, [7], asked .a kReadTakeDirectory [7] run, by decide +kernel⟩,
    ⟨7, .a, [7, 0, 0, 2], asked .a kReadTakeRecords [7, 0, 0, 2] (closedTake 7 tune run), by decide +kernel⟩,
    ⟨.a, [1, 0, 87, 1], asked .a kCalRead [1, 0, 87, 1] run, .user, .trim, by decide +kernel⟩,
    ⟨.a, [4], asked .a kReadFaults [4] run, by decide +kernel⟩⟩

/-! ## Witnesses: link requests, journal, voices -/

theorem test_witness_setLink :
    (∀ p ∈ ([(16, 1), (32, 2), (64, 4), (64, 8)] : List (Byte × Byte)),
        ∃ l args s, Heads l kSetLink args s ∧ 2 ≤ args.length ∧ byteAt args 0 = p.1.toNat ∧ byteAt args 1 = p.2.toNat)
      ∧ (∃ i : Fin 8, 1 ≤ i.val) ∧ (∃ i : Fin 8, i.val < 1) :=
  ⟨fun p _ => ⟨.b, [p.1, p.2], asked .b kSetLink [p.1, p.2] run, rfl, Nat.le_refl 2, rfl, rfl⟩, ⟨1, by decide⟩, ⟨0, by decide⟩⟩

theorem test_witness_claimRole :
    (∃ l args s, Heads l kClaimRole args s ∧ 1 ≤ args.length ∧ byteAt args 0 = 1 ∧ s.roles.panel = none)
      ∧ (∃ l args s, Heads l kClaimRole args s ∧ 1 ≤ args.length ∧ byteAt args 0 = 0 ∧ s.roles.tone = none
          ∧ s.pdu.soft.lift = s.vas.softLive.sent ∧ s.ply.soft = s.vas.softPlay.sent)
      ∧ (∃ l args s, Heads l kClaimRole args s ∧ 1 ≤ args.length ∧ byteAt args 0 = 0 ∧ s.roles.tone = none
          ∧ s.pdu.soft.lift ≠ s.vas.softLive.sent ∧ s.ply.soft = s.vas.softPlay.sent ∧ s.vas.queue = [])
      ∧ (∃ l args s l', Heads l kClaimRole args s ∧ 1 ≤ args.length ∧ l' ≠ l ∧ byteAt args 0 = 0 ∧ s.roles.tone = some l')
      ∧ (∃ l args s l', Heads l kClaimRole args s ∧ 1 ≤ args.length ∧ l' ≠ l ∧ byteAt args 0 = 1 ∧ s.roles.panel = some l')
      ∧ (∃ l args s, Heads l kClaimRole args s ∧ 1 ≤ args.length ∧ byteAt args 0 = 0 ∧ s.roles.tone = some l)
      ∧ (∃ l args s, Heads l kClaimRole args s ∧ 1 ≤ args.length ∧ byteAt args 0 = 1 ∧ s.roles.panel = some l) :=
  ⟨⟨.b, [1], asked .b kClaimRole [1] run, by decide +kernel⟩, ⟨.b, [0], asked .b kClaimRole [0] run, by decide +kernel⟩,
    ⟨.b, [0], asked .b kClaimRole [0] (onPdu (fun u => { u with soft := { lift := 1 } }) run), by decide +kernel⟩,
    ⟨.c, [0], asked .c kClaimRole [0] (holding (some .a) (some .b) run), .a, by decide +kernel⟩,
    ⟨.c, [1], asked .c kClaimRole [1] (holding (some .a) (some .b) run), .b, by decide +kernel⟩,
    ⟨.a, [0], asked .a kClaimRole [0] (holding (some .a) (some .b) run), by decide +kernel⟩,
    ⟨.b, [1], asked .b kClaimRole [1] (holding (some .a) (some .b) run), by decide +kernel⟩⟩

theorem test_witness_windowsStreamsScanLists :
    (∃ l args s, Heads l kSetWindow args s ∧ 2 ≤ args.length ∧ byteAt args 0 = 0 ∧ byteAt args 1 = 81)
      ∧ (∃ l args s, Heads l kSetWindow args s ∧ 2 ≤ args.length ∧ byteAt args 0 = 1 ∧ byteAt args 1 = 80)
      ∧ (∃ l args s, Heads l kDepthStream args s ∧ 1 ≤ args.length ∧ byteAt args 0 = 0)
      ∧ (∃ l args s, Heads l kDepthStream args s ∧ 1 ≤ args.length ∧ (s.link l).limit = .b64 ∧ byteAt args 0 = 65)
      ∧ (∃ l args s, Heads l kDepthStream args s ∧ 1 ≤ args.length ∧ byteAt args 0 ≠ 0 ∧ (s.link l).limit ≠ .b64)
      ∧ (∃ (l : Link) (args : List Byte) (s : State) (first : Fin 64) (es : List ScanEntry), Heads l kSetScanList args s
          ∧ 1 ≤ byteAt args 1 ∧ byteAt args 1 ≤ 24 ∧ byteAt args 0 + byteAt args 1 ≤ 64 ∧ 4 + 2 * byteAt args 1 ≤ args.length
          ∧ byteAt args 2 = first.val ∧ scanEntriesAt args 4 (byteAt args 1) = some es ∧ bitOf args 3 0 = true) :=
  ⟨⟨.c, [0, 81], asked .c kSetWindow [0, 81] run, by decide +kernel⟩, ⟨.c, [1, 80], asked .c kSetWindow [1, 80] run, by decide +kernel⟩,
    ⟨.c, [0], asked .c kDepthStream [0] run, by decide +kernel⟩,
    ⟨.c, [65], asked .c kDepthStream [65] (onLink .c (fun ls => { ls with limit := .b64 }) run), by decide +kernel⟩,
    ⟨.c, [1], asked .c kDepthStream [1] (onLink .c (fun ls => { ls with limit := .b32 }) run), by decide +kernel⟩,
    ⟨.a, [63, 1, 63, 1, 12, 0x80], asked .a kSetScanList [63, 1, 63, 1, 12, 0x80] run, 63, [{ group := .p, next := 0, last := true }],
      by decide +kernel⟩⟩

theorem test_witness_journalStream :
    (∃ l args s, Heads l kOpenJournal args s ∧ 3 ≤ args.length ∧ byteAt args 0 = 0)
      ∧ (∃ l args s, Heads l kOpenJournal args s ∧ 3 ≤ args.length ∧ byteAt args 0 = 1)
      ∧ (∃ l args s st, Heads l kReadJournal args s ∧ 1 ≤ args.length ∧ (s.link l).stream = some st ∧ 0 < unread s.ajn.next st.cursor)
      ∧ (∃ l args s, Heads l kReadJournal args s ∧ 1 ≤ args.length ∧ (s.link l).stream = none) :=
  ⟨⟨.b, [0, 0, 0], asked .b kOpenJournal [0, 0, 0] oneEvent, by decide +kernel⟩,
    ⟨.b, [1, 1, 1], asked .b kOpenJournal [1, 1, 1] oneEvent, by decide +kernel⟩,
    ⟨.c, [10], asked .c kReadJournal [10] oneEvent, { cursor := 0, threshold := 256 }, by decide +kernel⟩,
    ⟨.b, [10], asked .b kReadJournal [10] oneEvent, by decide +kernel⟩⟩

theorem test_witness_streamReads :
    ∃ l st s, JournalSound s ∧ (s.link l).stream = some st ∧ (s.ajn.eventsFrom st.cursor).length = 1 :=
  ⟨.c, { cursor := 0, threshold := 256 }, oneEvent, oneEvent_sound, by decide +kernel⟩

/-- A full ring whose oldest event, 6,888, link C has not read, and link B up with the journal (04, worked). -/
def fullRing : State :=
  onLink .b (fun ls => { ls with stream := some { cursor := 7400, threshold := 3 } })
    (onLink .c (fun ls => { ls with stream := some { cursor := 6888, threshold := 4 } })
      { run with
        ajn :=
          { next := 7400
            ring := (List.range 512).map fun i =>
              { seq := BitVec.ofNat 32 (6888 + i), event := { time := 0, kind := .soft, source := .live, key := none, value := 0 } } } })

theorem test_witness_append :
    (∃ s : State, s.ajn.ring.length < 512) ∧ (∃ (s : State) (l : Link) (st : Machine.Stream),
          s.ajn.ring.length = 512 ∧ (s.link l).stream = some st ∧ st.cursor = s.ajn.oldest)
      ∧ (∃ (s : State) (l : Link) (st : Machine.Stream), s.ajn.ring.length = 512 ∧ (s.link l).stream = some st ∧ st.cursor ≠ s.ajn.oldest) :=
  ⟨⟨oneEvent, by decide +kernel⟩, ⟨fullRing, .c, { cursor := 6888, threshold := 4 }, by decide +kernel⟩,
    ⟨fullRing, .b, { cursor := 7400, threshold := 3 }, by decide +kernel⟩⟩

/-- 04, A stream that falls behind, worked: C loses one event, B none. -/
theorem test_overwrite_worked :
    let t := appendEvent { time := 0, kind := .soft, source := .live, key := none, value := 0 } fullRing
    (t.link .c).stream = some { cursor := 6889, threshold := 4 } ∧ (t.link .c).lost = 1 ∧ (t.link .b).lost = 0
      ∧ unread t.ajn.next 6889 = 512 := by decide +kernel

/-- The four default layers as SET LAYERS carries them. -/
def layerArgs : List Byte := (List.range 4).flatMap fun i => (defaultLayer i).bytes

theorem test_witness_setLayers :
    ∃ l args y0 y1 y2 y3 s, Heads l kSetLayers args s ∧ 20 ≤ args.length ∧ layerAt args 0 = some y0 ∧ layerAt args 5 = some y1
      ∧ layerAt args 10 = some y2 ∧ layerAt args 15 = some y3 :=
  ⟨.a, layerArgs, defaultLayer 0, defaultLayer 1, defaultLayer 2, defaultLayer 3, asked .a kSetLayers layerArgs run, by decide +kernel⟩

/-- Link A holds TONE and slot 5 sounds key 40 at generation 7. -/
def sounding : State := setSlot 5 { gen := 7, voice := some aVoice } (holding (some .a) (some .a) run)

theorem test_witness_voiceEnded :
    (∃ (l : Link) (n : Slot) (g : Byte) (s : State) (v : Voice), Heads l kVoiceEnded [byteOf n.val, g] s ∧ s.roles.tone = some l
        ∧ (s.slot n).voice = some v ∧ (s.slot n).gen = g)
      ∧ (∃ (l : Link) (n : Slot) (g : Byte) (s : State), Heads l kVoiceEnded [byteOf n.val, g] s ∧ s.roles.tone = some l
        ∧ (s.slot n).voice = none ∧ (s.slot n).gen = g)
      ∧ (∃ (l : Link) (n : Slot) (g : Byte) (s : State), Heads l kVoiceEnded [byteOf n.val, g] s ∧ s.roles.tone = some l
        ∧ (s.slot n).voice ≠ none ∧ (s.slot n).gen ≠ g)
      ∧ (∃ (l : Link) (args : List Byte) (s t : State), Heads l kVoiceEnded args s ∧ exec (.voiceEnded l) s = .next t
          ∧ t.slot 5 ≠ s.slot 5) :=
  ⟨⟨.a, 5, 7, asked .a kVoiceEnded [5, 7] sounding, aVoice, by decide +kernel⟩,
    ⟨.a, 127, 0, asked .a kVoiceEnded [127, 0] sounding, by decide +kernel⟩,
    ⟨.a, 5, 6, asked .a kVoiceEnded [5, 6] sounding, by decide +kernel⟩,
    ⟨.a, [5, 7], asked .a kVoiceEnded [5, 7] sounding, _, by decide +kernel, next_after (by decide +kernel), by decide +kernel⟩⟩

theorem test_witness_drain :
    ∃ l s, (s : State).phase = .running ∧ s.roles.tone = some l ∧ s.vas.queue ≠ [] ∧ (s.link l).ordersWaiting = false
      ∧ (s.link l).placeFree = true :=
  ⟨.a, queueOrder (.soft .live 9) sounding, by decide +kernel⟩

/-- Slot 5 with a voice of key 40 of a source. -/
def voiced (src : Source) : State := setSlot 5 { gen := 7, voice := some { aVoice with source := src } } run

theorem test_witness_recomputed :
    (∃ (s : State) (n : Slot) (v : Voice), (s.slot n).voice = some v ∧ v.source = .live ∧ 255 ≠ (s.key v.key).lift
        ∧ 255 ≠ s.pdu.damper.lift ∧ (KeySet.empty.add v.key) ≠ s.pdu.sostSet
        ∧ s.pdu.sostSet.has v.key ≠ (KeySet.empty.add v.key).has v.key)
      ∧ (∃ (s : State) (n : Slot) (v : Voice), (s.slot n).voice = some v ∧ v.source = .playback ∧ 255 ≠ s.ply.damper
        ∧ (KeySet.empty.add v.key) ≠ s.ply.keys ∧ s.ply.keys.has v.key ≠ (KeySet.empty.add v.key).has v.key
        ∧ (KeySet.empty.add v.key) ≠ s.ply.sostSet ∧ s.ply.sostSet.has v.key ≠ (KeySet.empty.add v.key).has v.key) :=
  ⟨⟨voiced .live, 5, aVoice, by decide +kernel⟩, ⟨voiced .playback, 5, { aVoice with source := .playback }, by decide +kernel⟩⟩

/-! ## Witnesses: the rail -/

theorem test_witness_railRequests :
    (∃ l args s, Heads l kRailDemand args s ∧ 1 ≤ args.length ∧ byteAt args 0 ≤ 1
        ∧ (s.rlc.demand.setLink l (byteAt args 0 == 1)).any = s.rlc.demand.any)
      ∧ (∃ l args s, Heads l kRailDemand args s ∧ 1 ≤ args.length ∧ byteAt args 0 = 0 ∧ s.rlc.demand.any = true
          ∧ (s.rlc.demand.setLink l false).any = false ∧ s.rlc.state = .closing)
      ∧ (∃ l args s, Heads l kRailDemand args s ∧ 1 ≤ args.length ∧ byteAt args 0 = 1 ∧ s.rlc.demand.any = false
          ∧ s.rlc.state = .openState ∧ quietTest s = true)
      ∧ (∃ l args s, Heads l kRailDemand args s ∧ 1 ≤ args.length ∧ byteAt args 0 = 1 ∧ s.rlc.demand.any = false
          ∧ s.rlc.state = .openState ∧ quietTest s = false)
      ∧ (∃ l args s, Heads l kRailRecover args s ∧ s.rlc.state = .fault ∧ quietTest s = false)
      ∧ (∃ l args s, Heads l kRailRecover args s ∧ s.rlc.state = .fault ∧ quietTest s = true)
      ∧ (∃ l args s, Heads l kRailRecover args s ∧ s.rlc.state ≠ .fault) :=
  ⟨⟨.a, [1], asked .a kRailDemand [1] (demanded run), by decide +kernel⟩,
    ⟨.a, [0], asked .a kRailDemand [0] (onRlc (fun r => { r with demand := { a := true } }) (railed .closing (some (legRun .blockedEnd true 0)) run)),
      by decide +kernel⟩,
    ⟨.a, [1], asked .a kRailDemand [1] (quiet (railed .openState none run)), by decide +kernel⟩,
    ⟨.a, [1], asked .a kRailDemand [1] (keyed 87 { height := 200 } (quiet (railed .openState none run))), by decide +kernel⟩,
    ⟨.c, [], asked .c kRailRecover [] (railed .fault none run), by decide +kernel⟩,
    ⟨.c, [], asked .c kRailRecover [] (quiet (railed .fault none run)), by decide +kernel⟩,
    ⟨.c, [], asked .c kRailRecover [] run, by decide +kernel⟩⟩

/-- Link A asks for ON or OFF as the only member of the demand set. -/
def askRail (on : Bool) (s : State) : State :=
  asked .a kRailDemand [if on then 1 else 0] (onRlc (fun r => { r with demand := { a := !on } }) s)

/-- That request changes the target. -/
abbrev Turns (on : Bool) (s : State) : Prop :=
  ∃ args, Heads .a kRailDemand args s ∧ 1 ≤ args.length ∧ byteAt args 0 = (if on then 1 else 0) ∧ s.rlc.demand.any = !on
    ∧ (s.rlc.demand.setLink .a on).any = on

theorem turns_askRail (on : Bool) (st : RailState) (leg : Option Leg) : Turns on (askRail on (railed st leg run)) := by
  cases on
  · exact ⟨[0], rfl, Nat.le_refl 1, rfl, rfl, rfl⟩
  · exact ⟨[1], rfl, Nat.le_refl 1, rfl, rfl, rfl⟩

theorem test_witness_targetChanges :
    (∀ (on : Bool) (st : RailState), st = .unknown ∨ st = .homing ∨ st = .fault ∨ st = .openState ∨ st = .blocked ∨ st = .closing
          ∨ st = .opening → ∃ s : State, s.rlc.state = st ∧ Turns on s)
      ∧ (∃ s : State, s.rlc.state = .blocked ∧ quietTest s = true ∧ Turns false s)
      ∧ (∃ s : State, s.rlc.state = .blocked ∧ quietTest s = false ∧ Turns false s)
      ∧ (∀ (on : Bool) (w : WaitInfo), ∃ s : State, s.rlc.state = .waiting w ∧ Turns on s)
      ∧ (∀ (on : Bool) (b : BackoffInfo), ∃ s : State, s.rlc.state = .backoff b ∧ Turns on s) :=
  ⟨fun on st _ => ⟨askRail on (railed st none run), by cases on <;> rfl, turns_askRail on st none⟩,
    ⟨askRail false (quiet (railed .blocked none run)), rfl, by decide +kernel, [0], rfl, Nat.le_refl 1, rfl, rfl, rfl⟩,
    ⟨askRail false (railed .blocked none run), rfl, by decide +kernel, turns_askRail false .blocked none⟩,
    fun on w => ⟨askRail on (railed (.waiting w) none run), by cases on <;> rfl, turns_askRail on (.waiting w) none⟩,
    fun on b => ⟨askRail on (railed (.backoff b) none run), by cases on <;> rfl, turns_askRail on (.backoff b) none⟩⟩

/-- 06, R109, R111, R120: RAIL RECOVER with a quiet action homes at once. -/
theorem test_recover_homes :
    (after (exec (.railRecover .c) (asked .c kRailRecover [] (quiet (railed .fault none run))))).rlc.state = .homing := by decide +kernel

theorem test_witness_railInputs :
    (∃ (level : Bool) (s : State), level ≠ s.rlc.silentLow)
      ∧ (∃ s : State, s.phase = .running ∧ s.rlc.silentLow ≠ s.rlc.leverLow ∧ 20000 ≤ elapsed s.clock s.rlc.silentSince)
      ∧ (∃ s : State, ∀ lg, s.rlc.leg = some lg → lg.blanked = false)
      ∧ (∃ (s : State) (lg : Leg), s.rlc.leg = some lg ∧ lg.blanked = true ∧ (lg.params.threshold + 1) * 12 < 1201 ∧ lg.run = none)
      ∧ (∃ (s : State) (lg : Leg) (t0 : Clock), s.rlc.leg = some lg ∧ lg.blanked = true ∧ (lg.params.threshold + 1) * 12 < 1201
          ∧ lg.run = some t0)
      ∧ (∃ (s : State) (lg : Leg), s.rlc.leg = some lg ∧ lg.blanked = true ∧ 1200 ≤ (lg.params.threshold + 1) * 12)
      ∧ (∃ (s : State) (lg : Leg), s.rlc.leg = some lg ∧ s.phase = .running ∧ lg.blanked = false
          ∧ lg.params.blankingMs * 1000 ≤ elapsed s.clock lg.start) :=
  ⟨⟨true, run, by decide +kernel⟩, ⟨atTime 20000 (onRlc (fun r => { r with silentLow := true }) run), by decide +kernel⟩,
    ⟨run, fun _ h => nomatch h⟩,
    ⟨railed .closing (some { legRun .blockedEnd true 0 with run := none }) run, { legRun .blockedEnd true 0 with run := none },
      by decide +kernel⟩,
    ⟨railed .closing (some (legRun .blockedEnd true 0)) run, legRun .blockedEnd true 0, 0, by decide +kernel⟩,
    ⟨railed .closing (some (legRun .blockedEnd true 0)) run, legRun .blockedEnd true 0, by decide +kernel⟩,
    ⟨atTime 60000 (railed .closing (some (newLeg .blockedEnd true run)) run), newLeg .blockedEnd true run, by decide +kernel⟩⟩

/-- 06, R105: the thresholds of the codes 0, 99 and 255, in milliamperes. -/
theorem test_current_thresholds :
    [0, 99, 255].map (fun c => Leg.thresholdMa { newLeg .openEnd false run with params := { run.cst.user.working.rail with threshold := c } })
      = [12, 1200, 3072] := by decide +kernel

theorem test_witness_quietAction :
    (∃ s : State, s.phase = .running ∧ quietTest s = true ∧ s.rlc.state = .unknown)
      ∧ (∀ side : Side, side = .openEnd ∨ side = .blockedEnd →
          ∃ (s : State) (w : WaitInfo), s.phase = .running ∧ quietTest s = true ∧ s.rlc.state = .waiting w ∧ w.side = side) := by
  refine ⟨⟨keyed 0 { height := 199 } (quiet run), by decide +kernel⟩, fun side h => ?_⟩
  rcases h with rfl | rfl
  · exact ⟨quiet (railed (.waiting ⟨.openEnd, 0, false, none, false⟩) none run), _, by decide +kernel, by decide +kernel, rfl, rfl⟩
  · exact ⟨quiet (railed (.waiting ⟨.blockedEnd, 0, true, none, false⟩) none run), _, by decide +kernel, by decide +kernel, rfl, rfl⟩

/-- A rail in a leg toward an end at a clock reading, its filter run of 200 µs just complete. -/
def stalling (st : RailState) (toward : Side) (check : Bool) (obstructions now : Nat) : State :=
  onRlc (fun r => { r with obstructions := obstructions }) (railed st (some (legRun toward check (now - 200))) (atTime now run))

/-- What every clause of the stall statement asks. -/
abbrev Stalls (lg : Leg) (t0 : Clock) (s : State) : Prop :=
  s.phase = .running ∧ s.rlc.leg = some lg ∧ lg.run = some t0 ∧ lg.params.filterUs ≤ elapsed s.clock t0

theorem test_witness_stall_arrivals :
    (∃ lg t0 s, Stalls lg t0 s ∧ s.rlc.state = movingState .blockedEnd ∧ lg.toward = .blockedEnd ∧ lg.minCheck = true
        ∧ lg.params.minTravelMs * 1000 ≤ elapsed s.clock lg.start ∧ target s = .blockedEnd)
      ∧ (∃ lg t0 s, Stalls lg t0 s ∧ s.rlc.state = movingState .openEnd ∧ lg.toward = .openEnd ∧ lg.minCheck = false
        ∧ target s = .openEnd)
      ∧ (∃ lg t0 s, Stalls lg t0 s ∧ s.rlc.state = .homing ∧ lg.toward = .openEnd ∧ target s = .openEnd) :=
  ⟨⟨legRun .blockedEnd true 149800, 149800, demanded (stalling .closing .blockedEnd true 2 150000), by decide +kernel⟩,
    ⟨legRun .openEnd false 69800, 69800, stalling .opening .openEnd false 0 70000, by decide +kernel⟩,
    ⟨legRun .openEnd false 69800, 69800, stalling .homing .openEnd false 0 70000, by decide +kernel⟩⟩

theorem test_witness_stall_obstructions :
    (∃ lg t0 s, Stalls lg t0 s ∧ s.rlc.state = movingState .blockedEnd ∧ lg.toward = .blockedEnd ∧ lg.minCheck = true
        ∧ elapsed s.clock lg.start < lg.params.minTravelMs * 1000 ∧ s.rlc.obstructions + 1 < s.cst.user.working.rail.attempts)
      ∧ (∃ lg t0 s, Stalls lg t0 s ∧ s.rlc.state = movingState .openEnd ∧ lg.toward = .openEnd ∧ lg.minCheck = true
        ∧ elapsed s.clock lg.start < lg.params.minTravelMs * 1000 ∧ s.cst.user.working.rail.attempts ≤ s.rlc.obstructions + 1)
      ∧ (∃ lg t0 s b ms, Stalls lg t0 s ∧ s.rlc.state = .backoff b ∧ b.phase = .retreat ms ∧ target s ≠ b.origin) :=
  ⟨⟨legRun .blockedEnd true 149799, 149799, stalling .closing .blockedEnd true 1 149999, by decide +kernel⟩,
    ⟨legRun .openEnd true 149799, 149799, stalling .opening .openEnd true 2 149999, by decide +kernel⟩,
    ⟨legRun .openEnd false 69800, 69800, demanded (stalling (.backoff ⟨.retreat 200, .openEnd, 0⟩) .openEnd false 1 70000),
      ⟨.retreat 200, .openEnd, 0⟩, 200, by decide +kernel⟩⟩

theorem test_witness_railTimes :
    (∃ (s : State) (lg : Leg), s.phase = .running ∧ s.rlc.leg = some lg ∧ s.rlc.state = .homing
        ∧ lg.params.maxTravelMs * 1000 ≤ elapsed s.clock lg.start)
      ∧ (∃ (s : State) (b : BackoffInfo) (ms : Nat), s.phase = .running ∧ s.rlc.state = .backoff b ∧ b.phase = .retreat ms
          ∧ ms * 1000 ≤ elapsed s.clock b.start ∧ target s ≠ b.origin)
      ∧ (∃ (s : State) (b : BackoffInfo) (ms : Nat), s.phase = .running ∧ s.rlc.state = .backoff b ∧ b.phase = .retreat ms
          ∧ ms * 1000 ≤ elapsed s.clock b.start ∧ target s = b.origin)
      ∧ (∃ (s : State) (b : BackoffInfo) (ms : Nat) (f : Bool), s.phase = .running ∧ s.rlc.state = .backoff b
          ∧ b.phase = .delay ms f ∧ ms * 1000 ≤ elapsed s.clock b.start ∧ quietTest s = true)
      ∧ (∃ (s : State) (b : BackoffInfo) (ms : Nat) (f : Bool), s.phase = .running ∧ s.rlc.state = .backoff b
          ∧ b.phase = .delay ms f ∧ ms * 1000 ≤ elapsed s.clock b.start ∧ quietTest s = false)
      ∧ (∃ (s : State) (w : WaitInfo), s.phase = .running ∧ s.rlc.state = .waiting w ∧ w.held = false
          ∧ 2000000 ≤ elapsed s.clock w.start) :=
  ⟨⟨atTime 1500000 (railed .homing (some (legRun .openEnd false 0)) run), legRun .openEnd false 0, by decide +kernel⟩,
    ⟨atTime 200000 (demanded (railed (.backoff ⟨.retreat 200, .openEnd, 0⟩) (some (legRun .openEnd false 0)) run)),
      ⟨.retreat 200, .openEnd, 0⟩, 200, by decide +kernel⟩,
    ⟨atTime 200000 (railed (.backoff ⟨.retreat 200, .openEnd, 0⟩) (some (legRun .openEnd false 0)) run),
      ⟨.retreat 200, .openEnd, 0⟩, 200, by decide +kernel⟩,
    ⟨atTime 500000 (demanded (quiet (railed (.backoff ⟨.delay 500 false, .openEnd, 0⟩) none run))),
      ⟨.delay 500 false, .openEnd, 0⟩, 500, false, by decide +kernel⟩,
    ⟨atTime 500000 (demanded (railed (.backoff ⟨.delay 500 true, .openEnd, 0⟩) none run)),
      ⟨.delay 500 true, .openEnd, 0⟩, 500, true, by decide +kernel⟩,
    ⟨atTime 2000000 (railed (.waiting ⟨.openEnd, 0, false, none, false⟩) none run), ⟨.openEnd, 0, false, none, false⟩, by decide +kernel⟩⟩

/-! ## Witnesses: takes -/

theorem test_witness_takeRecord :
    (∀ mode : Byte, mode = 0 ∨ mode = 1 →
        ∃ (l : Link) (args : List Byte) (n : TakeNo) (b : Block) (s : State), Heads l kTakeRecord args s ∧ 4 ≤ args.length
          ∧ byteAt args 0 = n.val ∧ s.take n = {} ∧ (∀ u, (s.take u).state ≠ .recording ∧ (s.take u).state ≠ .loading)
          ∧ lowestFree s = some b ∧ byteAt args 1 = mode.toNat)
      ∧ (∃ (n : TakeNo) (r : RecInfo) (s : State), s.phase = .running ∧ s.tks.recorder = .recording n r
          ∧ elapsed s.clock (r.mark + 1000000) < 2147483648) := by
  refine ⟨fun mode _ => ⟨.a, [2, mode, 7, 0], 2, 1, asked .a kTakeRecord [2, mode, 7, 0] (closedTake 0 tune run), rfl, Nat.le_refl 4,
    rfl, ?_, ?_, ?_, rfl⟩, ⟨2, { start := 0, position := 0, mark := 0, struck := KeySet.empty }, atTime 1000000 recording, ?_⟩⟩
  · show (closedTake 0 tune run).take 2 = {}
    decide +kernel
  · show ∀ u, ((closedTake 0 tune run).take u).state ≠ .recording ∧ ((closedTake 0 tune run).take u).state ≠ .loading
    decide +kernel
  · show lowestFree (closedTake 0 tune run) = some 1
    decide +kernel
  · decide +kernel

/-- Take 5 LOADING, nothing written. -/
def loading : State := after (exec (.takeLoad .a) (asked .a kTakeLoad [5, 7, 0] run))

/-- Two records of `tune` as WRITE TAKE RECORDS carries them for take 5. -/
def tuneArgs : List Byte := 5 :: tune.flatMap fun r => le32 r.word

theorem test_witness_stopAndLoadEnd :
    (∃ (l : Link) (args : List Byte) (n : TakeNo) (s : State), Heads l kTakeStop args s ∧ s.tks.recorder.names = some n
        ∧ (s.take n).count = 4)
      ∧ (∃ (l : Link) (args : List Byte) (n : TakeNo) (s : State) (b : Block), Heads l kTakeStop args s
          ∧ s.tks.recorder.names = some n ∧ (s.take n).count = 3 ∧ (s.take n).firstBlock = some b ∧ s.tks.blocks[b] = .last)
      ∧ (∃ (l : Link) (args : List Byte) (n : TakeNo) (s : State), Heads l kLoadEnd args s ∧ 1 ≤ args.length
          ∧ byteAt args 0 = n.val ∧ (s.take n).state = .loading ∧ (s.take n).count = 1)
      ∧ (∃ (l : Link) (args : List Byte) (n : TakeNo) (s : State), Heads l kLoadEnd args s ∧ 1 ≤ args.length
          ∧ byteAt args 0 = n.val ∧ (s.take n).state = .loading ∧ (s.take n).count = 0 ∧ (s.take n).firstBlock = none) :=
  ⟨⟨.b, [], 2, asked .b kTakeStop [] recorded, by decide +kernel⟩, ⟨.b, [], 2, asked .b kTakeStop [] recording, 0, by decide +kernel⟩,
    ⟨.b, [5], 5, asked .b kLoadEnd [5] (appendRecords 5 (tune.take 1) loading), by decide +kernel⟩,
    ⟨.b, [5], 5, asked .b kLoadEnd [5] loading, by decide +kernel⟩⟩

theorem test_witness_loading :
    (∃ (l : Link) (args : List Byte) (n : TakeNo) (s : State), Heads l kTakeLoad args s ∧ 3 ≤ args.length ∧ byteAt args 0 = n.val
        ∧ s.take n = {} ∧ ∀ u, (s.take u).state ≠ .recording ∧ (s.take u).state ≠ .loading)
      ∧ (∃ (l : Link) (args : List Byte) (n : TakeNo) (s : State) (rs : List TakeRec), Heads l kWriteTakeRecords args s
          ∧ 1 ≤ args.length ∧ byteAt args 0 = n.val ∧ (s.take n).state = .loading
          ∧ takeRecsAt args 1 ((args.length - 1) / 4) = some rs
          ∧ (s.take n).duration + (rs.map TakeRec.ms).sum ≤ 4294967295 ∧ rs.length ≤ takeRoom s n ∧ rs = tune) :=
  ⟨⟨.a, [5, 7, 0], 5, asked .a kTakeLoad [5, 7, 0] run, by decide +kernel⟩,
    ⟨.b, tuneArgs, 5, asked .b kWriteTakeRecords tuneArgs loading, tune, by decide +kernel⟩⟩

theorem test_witness_keepAndErase :
    (∃ (l : Link) (args : List Byte) (n : TakeNo) (s : State), 1 ≤ args.length ∧ byteAt args 0 = n.val ∧ Heads l kTakeKeep args s
        ∧ s.roles.panel = some l ∧ (s.take n).state ≠ .empty ∧ (s.take n).kept = false)
      ∧ (∃ (l : Link) (args : List Byte) (n : TakeNo) (s : State), 1 ≤ args.length ∧ byteAt args 0 = n.val ∧ Heads l kTakeKeep args s
        ∧ s.roles.panel = some l ∧ (s.take n).state ≠ .empty ∧ (s.take n).kept = true)
      ∧ (∃ (l : Link) (args : List Byte) (n : TakeNo) (s : State), 1 ≤ args.length ∧ byteAt args 0 = n.val ∧ Heads l kTakeUnkeep args s
        ∧ s.roles.panel = some l ∧ (s.take n).state ≠ .empty ∧ (s.take n).kept = true)
      ∧ (∃ (l : Link) (args : List Byte) (n : TakeNo) (s : State), 1 ≤ args.length ∧ byteAt args 0 = n.val ∧ Heads l kTakeErase args s
        ∧ (s.take n).state = .closed ∧ (s.take n).kept = false ∧ ∀ ss ∈ s.ply.session, ss.take ≠ n)
      ∧ (∃ (l : Link) (args : List Byte) (n : TakeNo) (s : State), 1 ≤ args.length ∧ byteAt args 0 = n.val ∧ Heads l kTakeErase args s
        ∧ (s.take n).state = .closed ∧ (s.take n).kept = true ∧ ∀ ss ∈ s.ply.session, ss.take ≠ n)
      ∧ (∃ (l : Link) (args : List Byte) (n : TakeNo) (s : State), 1 ≤ args.length ∧ byteAt args 0 = n.val ∧ Heads l kTakeErase args s
        ∧ s.take n = {} ∧ ∀ ss ∈ s.ply.session, ss.take ≠ n) :=
  ⟨⟨.a, [7], 7, asked .a kTakeKeep [7] (holding none (some .a) (closedTake 7 tune run)), by decide +kernel⟩,
    ⟨.a, [7], 7, asked .a kTakeKeep [7] (onTake 7 (fun e => { e with kept := true }) (holding none (some .a) (closedTake 7 tune run))),
      by decide +kernel⟩,
    ⟨.a, [7], 7, asked .a kTakeUnkeep [7] (onTake 7 (fun e => { e with kept := true }) (holding none (some .a) (closedTake 7 tune run))),
      by decide +kernel⟩,
    ⟨.a, [7], 7, asked .a kTakeErase [7] (closedTake 7 tune (playing .waiting run)), by decide +kernel⟩,
    ⟨.a, [7], 7, asked .a kTakeErase [7] (onTake 7 (fun e => { e with kept := true }) (closedTake 7 tune (playing .waiting run))),
      by decide +kernel⟩,
    ⟨.a, [7], 7, asked .a kTakeErase [7] (playing .waiting run), by decide +kernel⟩⟩

theorem test_witness_pauseRecords :
    (∃ (gap : Nat) (kind : TakeKind), kind ≠ .pause ∧ gap = 2047) ∧ (∃ (gap : Nat) (kind : TakeKind), kind ≠ .pause ∧ 2047 < gap ∧ gap = 2097151)
      ∧ (recordsForGap 2097151 .soft 0 9).map TakeRec.delta = [2047, 0] ∧ (recordsForGap 2097152 .soft 0 9).map TakeRec.delta = [2047, 1] :=
  ⟨⟨2047, .soft, by decide⟩, ⟨2097151, .soft, by decide⟩, by decide +kernel, by decide +kernel⟩

/-! ## Witnesses: the player -/

theorem test_witness_takePlay :
    (∃ (l : Link) (args : List Byte) (n : TakeNo) (s : State) (r : TakeRec) (rest : List TakeRec), Heads l kTakePlay args s
        ∧ 7 ≤ args.length ∧ byteAt args 0 = n.val ∧ (s.take n).state = .closed ∧ bitOf args 1 1 = false ∧ s.ply.session = none
        ∧ takeRecords s n = r :: rest ∧ 0 < r.ms ∧ (s.take n).count ≠ 0 ∧ s.ply.damper = 0 ∧ s.ply.soft = 0
        ∧ s.ply.sostOn = false ∧ s.ply.sostSet = KeySet.empty ∧ bitOf args 1 0 = true ∧ byteAt args 2 = 201)
      ∧ (∃ (l : Link) (args : List Byte) (n : TakeNo) (s : State), Heads l kTakePlay args s ∧ 7 ≤ args.length
        ∧ byteAt args 0 = n.val ∧ (s.take n).state = .closed ∧ bitOf args 1 1 = true ∧ word32At args 3 = (s.take n).duration + 1) :=
  ⟨⟨.a, [3, 1, 201, 0, 0, 0, 0], 3, asked .a kTakePlay [3, 1, 201, 0, 0, 0, 0] (closedTake 3 tune run), { kind := .strike, key := 40, value := 650, delta := 10 },
      [{ kind := .release, key := 40, value := 100, delta := 20 }], by decide +kernel⟩,
    ⟨.a, [3, 2, 0, 31, 0, 0, 0], 3, asked .a kTakePlay [3, 2, 0, 31, 0, 0, 0] (closedTake 3 tune run), by decide +kernel⟩⟩

theorem test_witness_stopPauseResume :
    (∃ (l : Link) (args : List Byte) (ss : Session) (s : State), s.ply.session = some ss ∧ Heads l kStop args s)
      ∧ (∃ (l : Link) (args : List Byte) (ss : Session) (s : State) (n : Clock), s.ply.session = some ss ∧ Heads l kPause args s
        ∧ ss.mode = .playing n)
      ∧ (∃ (l : Link) (args : List Byte) (ss : Session) (s : State), s.ply.session = some ss ∧ Heads l kPause args s
        ∧ ss.mode = .waiting)
      ∧ (∀ m : Bool, ∃ (l : Link) (args : List Byte) (ss : Session) (s : State), s.ply.session = some ss ∧ Heads l kResume args s
        ∧ ss.mode = .paused m) :=
  ⟨⟨.a, [], ⟨0, 0, 0, .playing 1000⟩, asked .a kStop [] (playing (.playing 1000) run), by decide +kernel⟩,
    ⟨.a, [], ⟨0, 0, 0, .playing 1000⟩, asked .a kPause [] (playing (.playing 1000) run), 1000, by decide +kernel⟩,
    ⟨.a, [], ⟨0, 0, 0, .waiting⟩, asked .a kPause [] (playing .waiting run), by decide +kernel⟩,
    fun m => ⟨.a, [], ⟨0, 0, 0, .paused m⟩, asked .a kResume [] (playing (.paused m) run), by cases m <;> decide +kernel⟩⟩

theorem test_witness_playerSettings :
    (∃ l args s, Heads l kSetTempo args s ∧ 1 ≤ args.length ∧ byteAt args 0 = 24) ∧ (∃ l args s, Heads l kClearLoop args s)
      ∧ (∃ (l : Link) (args : List Byte) (s : State) (ss : Session), Heads l kSetLoop args s ∧ 8 ≤ args.length
        ∧ s.ply.session = some ss ∧ word32At args 0 < word32At args 4 ∧ word32At args 4 = (s.take ss.take).duration
        ∧ ss.position ≤ word32At args 4)
      ∧ (∃ (l : Link) (args : List Byte) (s : State) (mode : GuideMode) (low high : Key), Heads l kSetGuide args s ∧ 4 ≤ args.length
        ∧ byteAt args 0 = mode.code ∧ byteAt args 1 = low.val ∧ byteAt args 2 = high.val ∧ low ≤ high ∧ s.ply.expected = KeySet.empty)
      ∧ (∃ (l : Link) (args : List Byte) (s : State) (mode : GuideMode) (low high : Key) (ss : Session), Heads l kSetGuide args s
        ∧ 4 ≤ args.length ∧ byteAt args 0 = mode.code ∧ byteAt args 1 = low.val ∧ byteAt args 2 = high.val ∧ low ≤ high
        ∧ s.ply.session = some ss ∧ ss.mode = .paused true ∧ s.ply.expected ≠ KeySet.empty) :=
  ⟨⟨.a, [24], asked .a kSetTempo [24] run, by decide +kernel⟩, ⟨.a, [], asked .a kClearLoop [] run, by decide +kernel⟩,
    ⟨.a, [29, 0, 0, 0, 30, 0, 0, 0], asked .a kSetLoop [29, 0, 0, 0, 30, 0, 0, 0] (playing .waiting run), ⟨0, 0, 0, .waiting⟩, by decide +kernel⟩,
    ⟨.a, [2, 87, 87, 101], asked .a kSetGuide [2, 87, 87, 101] run, .wait, 87, 87, by decide +kernel⟩,
    ⟨.a, [1, 0, 87, 30], asked .a kSetGuide [1, 0, 87, 30] (onPly (fun p => { p with expected := KeySet.empty.add 40 }) (playing (.paused true) run)),
      .mute, 0, 87, ⟨0, 0, 0, .paused true⟩, by decide +kernel⟩⟩

theorem test_witness_millisecondStep :
    ∃ (ss : Session) (n : Clock) (r : TakeRec) (x : Nat) (rest : List (TakeRec × Nat)) (s : State), s.phase = .running
      ∧ s.ply.session = some ss ∧ ss.mode = .playing n ∧ elapsed s.clock n < 2147483648 ∧ s.ply.loop = none
      ∧ (timedRecords s ss.take).drop ss.cursor = (r, x) :: rest ∧ ss.position + (s.ply.acc + s.ply.tempo) / 100 < x
      ∧ ss.cursor < (s.take ss.take).count :=
  ⟨⟨0, 0, 0, .playing 1000⟩, 1000, { kind := .strike, key := 40, value := 650, delta := 10 }, 10,
    [({ kind := .release, key := 40, value := 100, delta := 20 }, 30)], atTime 1000 (playing (.playing 1000) run), by decide +kernel⟩

/-! ## Witnesses: the calibration store -/

/-- The part with a commit of each region in flight. -/
def committing : State :=
  onCst (fun k => { k with
    factory := { k.factory with commit := some { copy := k.factory.working, start := 0 }, modified := true }
    user := { k.user with commit := some { copy := k.user.working, start := 0 } } }) (holding none (some .a) run)

/-- The part with its factory region protected. -/
def guardedPart : State := onCst (fun k => { k with committedOption := { k.committedOption with protect := true } }) (holding none (some .a) run)

theorem test_witness_calWrite :
    (∃ l args r first es s, Heads l kCalWrite args s ∧ fromCalLink s l = true ∧ calWriteArgs args = some (r, first, es)
        ∧ isProtected s r = false ∧ s.cst.inFlight r = false ∧ (∀ x ∈ es, x.ordered = true) ∧ es ≠ []
        ∧ (s.cst.storeAll first es).factory.working.option.leverDemand = s.cst.factory.working.option.leverDemand
        ∧ perKeyChanged s.cst (s.cst.storeAll first es) 87 = true)
      ∧ (∃ l args r first es s, Heads l kCalWrite args s ∧ fromCalLink s l = true ∧ calWriteArgs args = some (r, first, es)
        ∧ isProtected s r = false ∧ s.cst.inFlight r = false ∧ (∀ x ∈ es, x.ordered = true) ∧ es = []) :=
  ⟨⟨.a, [1, 0, 87, 1, 0xFF, 0x02], .user, 87, [.trim 768], asked .a kCalWrite [1, 0, 87, 1, 0xFF, 0x02] (holding none (some .a) run), by decide +kernel⟩,
    ⟨.a, [1, 0, 87, 0], .user, 87, [], asked .a kCalWrite [1, 0, 87, 0] (holding none (some .a) run), by decide +kernel⟩⟩

theorem test_witness_calDefaults :
    (∃ l args s, Heads l kCalDefaults args s ∧ fromCalLink s l = false)
      ∧ (∃ l args s, Heads l kCalDefaults args s ∧ fromCalLink s l = true ∧ byteAt args 0 = 2)
      ∧ (∃ l args s, Heads l kCalDefaults args s ∧ fromCalLink s l = true ∧ 1 ≤ args.length ∧ byteAt args 0 = 0
          ∧ s.cst.committedOption.protect = true)
      ∧ (∃ l args s, Heads l kCalDefaults args s ∧ fromCalLink s l = true ∧ 1 ≤ args.length ∧ byteAt args 0 = 0
          ∧ s.cst.committedOption.protect = false ∧ s.cst.factory.commit ≠ none)
      ∧ (∃ l args s, Heads l kCalDefaults args s ∧ fromCalLink s l = true ∧ 1 ≤ args.length ∧ byteAt args 0 = 1
          ∧ s.cst.user.commit ≠ none)
      ∧ (∃ l args s, Heads l kCalDefaults args s ∧ fromCalLink s l = true ∧ 1 ≤ args.length ∧ byteAt args 0 = 0
          ∧ s.cst.committedOption.protect = false ∧ s.cst.factory.commit = none)
      ∧ (∃ l args s, Heads l kCalDefaults args s ∧ fromCalLink s l = true ∧ 1 ≤ args.length ∧ byteAt args 0 = 1
          ∧ s.cst.user.commit = none) :=
  ⟨⟨.b, [0], asked .b kCalDefaults [0] (holding none (some .a) run), by decide +kernel⟩,
    ⟨.a, [2], asked .a kCalDefaults [2] (holding none (some .a) run), by decide +kernel⟩,
    ⟨.a, [0], asked .a kCalDefaults [0] guardedPart, by decide +kernel⟩, ⟨.a, [0], asked .a kCalDefaults [0] committing, by decide +kernel⟩,
    ⟨.a, [1], asked .a kCalDefaults [1] committing, by decide +kernel⟩,
    ⟨.a, [0], asked .a kCalDefaults [0] (holding none (some .a) run), by decide +kernel⟩,
    ⟨.a, [1], asked .a kCalDefaults [1] guardedPart, by decide +kernel⟩⟩

theorem test_witness_commit :
    (∃ l args s, Heads l kCalCommit args s ∧ fromCalLink s l = true ∧ 1 ≤ args.length ∧ byteAt args 0 = 0 ∧ s.cst.factory.commit = none)
      ∧ (∃ l args s, Heads l kCalCommit args s ∧ fromCalLink s l = true ∧ 1 ≤ args.length ∧ byteAt args 0 = 1 ∧ s.cst.user.commit = none)
      ∧ (∃ s c, s.cst.factory.commit = some c ∧ (s : State).sysReset = .none) ∧ (∃ s c, s.cst.user.commit = some c ∧ (s : State).sysReset = .none) :=
  ⟨⟨.a, [0], asked .a kCalCommit [0] guardedPart, by decide +kernel⟩, ⟨.a, [1], asked .a kCalCommit [1] guardedPart, by decide +kernel⟩,
    ⟨committing, { copy := defaultFactory, start := 0 }, by decide +kernel⟩, ⟨committing, { copy := defaultUser, start := 0 }, by decide +kernel⟩⟩

/-! ## Witnesses: notices and faults -/

theorem test_witness_noticesAndFaults :
    (∃ (l : Link) (args : List Byte) (s : State) (i : Fin 8), Heads l kNoticeSet args s ∧ 5 ≤ args.length ∧ byteAt args 0 = i.val
        ∧ i.val < (s.link l).notice.grant ∧ word16At args 1 = 65535)
      ∧ (∃ (l : Link) (args : List Byte) (s : State) (i : Fin 8), Heads l kNoticeSet args s ∧ 5 ≤ args.length ∧ byteAt args 0 = i.val
        ∧ i.val < (s.link l).notice.grant ∧ word16At args 1 = 0)
      ∧ (∃ l args s, Heads l kNoticeMask args s ∧ 4 ≤ args.length ∧ byteAt args 0 = 2 ∧ byteAt args 1 = 2
        ∧ (args.getD 2 0) &&& (args.getD 3 0) = 0 ∧ (s.link l).notice.grant = 8)
      ∧ (∃ l args s, Heads l kClearFaults args s ∧ 6 ≤ args.length ∧ BitVec.ofNat 16 (word16At args 0) &&& 0x07FF = 0 ∧ bitOf args 5 0 = true)
      ∧ (∃ l args s, Heads l kClearFaults args s ∧ 6 ≤ args.length ∧ BitVec.ofNat 16 (word16At args 0) &&& 0x07FF ≠ 0 ∧ bitOf args 5 0 = false) :=
  ⟨⟨.a, [0, 255, 255, 70, 0], asked .a kNoticeSet [0, 255, 255, 70, 0] run, 0, by decide +kernel⟩,
    ⟨.a, [0, 0, 0, 70, 0], asked .a kNoticeSet [0, 0, 0, 70, 0] run, 0, by decide +kernel⟩,
    ⟨.a, [2, 2, 0x0F, 0xF0], asked .a kNoticeMask [2, 2, 0x0F, 0xF0] (onLink .a (fun ls => { ls with notice := { ls.notice with grant := 8 } }) run),
      by decide +kernel⟩,
    ⟨.a, [0, 0xF8, 7, 7, 7, 1], asked .a kClearFaults [0, 0xF8, 7, 7, 7, 1] run, by decide +kernel⟩,
    ⟨.a, [0, 0x04, 0, 0, 0, 0], asked .a kClearFaults [0, 0x04, 0, 0, 0, 0] run, by decide +kernel⟩⟩

/-! ## Witnesses: the lines -/

/-- Link B's receiver in a state, its last byte 200 µs ago, with frames already received. -/
def receiving (rx : Receiver) (frames : List (List Byte)) : State :=
  atTime 200 (onLink .b (fun ls => { ls with rx := rx, rxBuf := frames }) run)

/-- What every clause about a byte taken asks. -/
abbrev Listens (l : Link) (s : State) : Prop := s.phase = .running ∧ (s.link l).lineLow = false

theorem test_witness_completeFrame :
    (∃ l got s, Listens l s ∧ (s.link l).rx = .check got ∧ elapsed s.clock (s.link l).lastByte = 200 ∧ got.head? ≠ some 0x0F
        ∧ (s.link l).rxBuf.length = 1)
      ∧ (∃ l got s, Listens l s ∧ (s.link l).rx = .check got ∧ elapsed s.clock (s.link l).lastByte = 200 ∧ got.head? ≠ some 0x0F
        ∧ (s.link l).rxBuf.length = 2)
      ∧ (∃ l got s, Listens l s ∧ (s.link l).rx = .check got ∧ elapsed s.clock (s.link l).lastByte = 200 ∧ got.head? = some 0x0F
        ∧ (s.link l).rxBuf.length = 2) :=
  ⟨⟨.b, [kHello], receiving (.check [kHello]) [[kHello]], by decide +kernel⟩,
    ⟨.b, [kHello], receiving (.check [kHello]) [[kHello], [kHello]], by decide +kernel⟩,
    ⟨.b, [kLinkReset, 1], receiving (.check [kLinkReset, 1]) [[kHello], [kHello]], by decide +kernel⟩⟩

theorem test_witness_receiver :
    (∃ l s, Listens l s ∧ (s.link l).rx = .hunt)
      ∧ (∀ b : Byte, b = 1 ∨ b = 64 → ∃ l s, Listens l s ∧ (s.link l).rx = .length ∧ elapsed s.clock (s.link l).lastByte ≤ 200
          ∧ 1 ≤ b.toNat ∧ b.toNat ≤ 64)
      ∧ (∃ l s len got, Listens l s ∧ (s.link l).rx = .payload len got ∧ elapsed s.clock (s.link l).lastByte ≤ 200 ∧ got.length < len
          ∧ got.length + 1 = len)
      ∧ (∃ l s, Listens l s ∧ (s.link l).rx ≠ .hunt ∧ elapsed s.clock (s.link l).lastByte = 201)
      ∧ (∃ (l : Link) (b : Byte) (s : State) (got : List Byte), Listens l s ∧ elapsed s.clock (s.link l).lastByte ≤ 200
          ∧ (s.link l).rx = .check got ∧ b ≠ crc8 (byteOf got.length :: got))
      ∧ (∃ (l : Link) (b : Byte) (s : State), Listens l s ∧ elapsed s.clock (s.link l).lastByte ≤ 200 ∧ (s.link l).rx = .length ∧ b.toNat = 65)
      ∧ (∃ (l : Link) (s : State), Listens l s ∧ elapsed s.clock (s.link l).lastByte ≤ 200 ∧ (s.link l).rx ≠ .hunt) := by
  refine ⟨⟨.b, run, by decide +kernel⟩, fun b h => ⟨.b, receiving .length [], ?_⟩,
    ⟨.b, receiving (.payload 1 []) [], 1, [], by decide +kernel⟩, ⟨.b, atTime 201 (receiving .length []), by decide +kernel⟩,
    ⟨.b, 0x13, receiving (.check [kHello]) [], [kHello], by decide +kernel⟩, ⟨.b, 65, receiving .length [], by decide +kernel⟩,
    ⟨.b, receiving .length [], by decide +kernel⟩⟩
  rcases h with rfl | rfl <;> decide +kernel

theorem test_witness_break :
    (∃ (l : Link) (s : State), s.phase = .running ∧ (s.link l).lineLow = false ∧ s.roles.tone ≠ some l ∧ s.roles.panel ≠ some l
        ∧ (s.rlc.demand.setLink l false).any = s.rlc.demand.any ∧ s.sysReset = .none)
      ∧ (∃ (l : Link) (s : State), s.phase = .running ∧ (s.link l).lineLow = false ∧ s.roles.tone = some l)
      ∧ (∃ (l : Link) (s : State), s.phase = .running ∧ (s.link l).lineLow = true) :=
  ⟨⟨.b, onRlc (fun r => { r with demand := { b := true, lever := true } }) sounding, by decide +kernel⟩, ⟨.a, sounding, by decide +kernel⟩,
    ⟨.b, onLink .b (fun ls => { ls with lineLow := true }) run, by decide +kernel⟩⟩

/-- 09, R172: a break 12 µs into a frame lets its third byte go out, and no more. -/
theorem test_break_cuts_frame_off :
    ((after (exec (.lineBreak .b) (atTime 12 (sendingSince0 (envelope [kHello]) run)))).link .b).sending
      = some { bytes := [0xC3, 0x01, 0x01], start := 0 } := by decide +kernel

theorem test_witness_transmit :
    (∀ f : TxFrame, f = .reply [0x81, 0] ∨ f = .voiceOrders [0x71, 0] ∨ f = .depth [0x72, 0] →
        ∃ (l : Link) (rest : List TxFrame) (s : State), s.phase = .running ∧ (s.link l).sending = none ∧ (s.link l).tx = f :: rest)
      ∧ (∃ (l : Link) (rest : List TxFrame) (s : State) (i : Fin 8), s.phase = .running ∧ (s.link l).sending = none
          ∧ (s.link l).tx = .notice i :: rest)
      ∧ (∃ (l : Link) (s : State) (i : Fin 8), s.phase = .running ∧ (s.link l).placeFree = true ∧ (s.link l).nextEligible = some i) :=
  ⟨fun f _ => ⟨.a, [], onLink .a (fun ls => { ls with tx := [f] }) run, rfl, rfl, rfl⟩, ⟨.b, [], oneNotice, 0, by decide +kernel⟩,
    ⟨.b, onLink .b (fun ls =>
      { ls with notice := { ls.notice with enable := true, entries := ls.notice.entries.set 0 { classes := 4, pending := true } } }) run, 0,
      by decide +kernel⟩⟩

/-! ## Witnesses: sensing -/

/-- The walk in a state. -/
def walking (w : Walk) (s : State) : State := onSfe (fun f => { f with walk := w, due := some 400 }) s

theorem test_witness_walk :
    (∃ (s : State) (d : Clock), s.phase = .running ∧ s.sfe.walk = .waiting ∧ s.sfe.due = some d ∧ elapsed s.clock d < 2147483648)
      ∧ (∃ (s : State) (pos : WalkPos) (t : Clock), s.phase = .running ∧ s.sfe.walk = .settling pos t ∧ s.sfe.settle = elapsed s.clock t)
      ∧ (∃ (s : State) (rs : List AinResult) (pos : WalkPos) (t0 : Clock) (g : Fin 11) (r : AinResult), s.phase = .running
          ∧ s.sfe.walk = .converting pos t0 ∧ elapsed s.clock t0 = 4 ∧ (s.sfe.active.entries[pos.index]).last = false
          ∧ pos.count + 1 < 64 ∧ (s.sfe.active.entries[pos.index]).group = .k g ∧ r ∈ rs ∧ (rs.map (·.ain)).Nodup
          ∧ (s.sfe.keyCh[groupKey g r.ain]).failed = false ∧ 40 ≤ r.raw ∧ r.raw ≤ 4055) :=
  ⟨⟨atTime 400 (walking .waiting run), 400, by decide +kernel⟩, ⟨atTime 2 (walking (.settling ⟨0, 0⟩ 0) run), ⟨0, 0⟩, 0, by decide +kernel⟩,
    ⟨atTime 4 (walking (.converting ⟨11, 62⟩ 0) run), whole 4055, ⟨11, 62⟩, 0, 0, ⟨7, 4055⟩, by decide +kernel⟩⟩

theorem test_witness_rangeTest :
    (∃ (ch : ChannelRec) (raw : Nat), ch.failed = false ∧ ch.outRun = 31 ∧ raw = 39) ∧ (∃ (ch : ChannelRec) (raw : Nat),
        ch.failed = false ∧ ch.outRun = 0 ∧ raw = 4056)
      ∧ (∃ (ch : ChannelRec) (raw : Nat), ch.failed = false ∧ ch.outRun < 32 ∧ 40 ≤ raw ∧ raw ≤ 4055) :=
  ⟨⟨{ outRun := 31 }, 39, by decide⟩, ⟨{}, 4056, by decide⟩, ⟨{ outRun := 31 }, 4055, by decide⟩⟩

theorem test_witness_liftsAndLevels :
    (∃ p1 d e : Nat, d ≤ e ∧ d < p1) ∧ (∃ p1 p2 d : Nat, p1 ≤ d ∧ p2 ≤ d)
      ∧ (∃ (curve : Vector Breakpoint 9) (slow fast : Nat), curveOrdered curve.toList = true ∧ fast ≤ slow) :=
  ⟨⟨150, 149, 150, by decide⟩, ⟨150, 450, 450, by decide⟩, ⟨defaultCurve, 5000, 0, by decide⟩⟩

/-- Key 39 on the BLOCKED bank of the worked strike, its last sample `h` at 10,240 µs. -/
def hammered (st : HammerState) (rearm : Option Clock) (h : Nat) (s : State) : State :=
  keyed 39 { height := h, hammerTime := some 10240, hammer := st, rearm := rearm } s

/-- Gate crossing of key 39 by a sample of height `h` at 10,360 µs: gate 1 or 2 of a bank. -/
def crossNow (s : State) (g : GateBank → Nat) (bank : Side) (h : Nat) : Option Clock :=
  crossing (s.cst.user.working.hammer.gateTimeoutMs * 1000) (g ((s.cst.factory.working.gates[(39 : Key)]).bank bank))
    (s.key 39).hammerTime (s.key 39).height 10360 h

theorem test_witness_hammer_ready :
    (∃ s : State, (s.key 39).heldOut = false ∧ (s.key 39).hammer = .ready ∧ (s.key 39).rearm = none
        ∧ crossNow s GateBank.gate1 (gateBank s) 399 = none)
      ∧ (∃ (s : State) (g1 : Clock), (s.key 39).heldOut = false ∧ (s.key 39).hammer = .ready ∧ (s.key 39).rearm = none
        ∧ crossNow s GateBank.gate1 (gateBank s) 699 = some g1 ∧ crossNow s GateBank.gate2 (gateBank s) 699 = none)
      ∧ (∃ (s : State) (t0 : Clock), (s.key 39).heldOut = false ∧ (s.key 39).hammer = .ready ∧ (s.key 39).rearm = some t0
        ∧ elapsed 10360 t0 + 1 = s.cst.user.working.hammer.reboundMs * 1000) :=
  ⟨⟨hammered .ready none 350 run, by decide +kernel⟩, ⟨hammered .ready none 350 run, 10257, by decide +kernel⟩,
    ⟨hammered .ready (some (10360 - 11999)) 350 run, 10360 - 11999, by decide +kernel⟩⟩

/-- Key 39 with the gates of its BLOCKED bank exchanged. -/
def swappedGates (s : State) : State :=
  onCst (fun c => { c with factory := { c.factory with working := { c.factory.working with
    gates := c.factory.working.gates.set (39 : Key)
      { c.factory.working.gates[(39 : Key)] with blockedBank := { gate1 := 700, gate2 := 400, spacing := 900 } } } } }) s

theorem test_witness_hammer_hold_and_both_gates :
    (∃ (s : State) (t0 : Clock), (s.key 39).heldOut = false ∧ (s.key 39).hammer = .ready ∧ (s.key 39).rearm = some t0
        ∧ s.cst.user.working.hammer.reboundMs * 1000 = elapsed 10360 t0 ∧ crossNow s GateBank.gate1 (gateBank s) 399 = none)
      ∧ (∃ (s : State) (g1 t0 : Clock), (s.key 39).heldOut = false ∧ (s.key 39).hammer = .ready ∧ (s.key 39).rearm = some t0
        ∧ s.cst.user.working.hammer.reboundMs * 1000 = elapsed 10360 t0
        ∧ crossNow s GateBank.gate1 (gateBank s) 699 = some g1 ∧ crossNow s GateBank.gate2 (gateBank s) 699 = none)
      ∧ (∃ (s : State) (g1 tc : Clock), (s.key 39).heldOut = false ∧ (s.key 39).hammer = .ready ∧ (s.key 39).rearm = none
        ∧ crossNow s GateBank.gate1 (gateBank s) 700 = some g1 ∧ crossNow s GateBank.gate2 (gateBank s) 700 = some tc
        ∧ elapsed tc g1 ≤ s.cst.user.working.hammer.gateTimeoutMs * 1000)
      ∧ (∃ (s : State) (g1 tc : Clock), (s.key 39).heldOut = false ∧ (s.key 39).hammer = .ready ∧ (s.key 39).rearm = none
        ∧ crossNow s GateBank.gate1 (gateBank s) 700 = some g1 ∧ crossNow s GateBank.gate2 (gateBank s) 700 = some tc
        ∧ s.cst.user.working.hammer.gateTimeoutMs * 1000 < elapsed tc g1) :=
  ⟨⟨hammered .ready (some (10360 - 12000)) 350 run, 10360 - 12000, by decide +kernel⟩,
    ⟨hammered .ready (some (10360 - 12000)) 350 run, 10257, 10360 - 12000, by decide +kernel⟩,
    ⟨hammered .ready none 350 run, 10257, 10360, by decide +kernel⟩,
    ⟨hammered .ready none 350 (swappedGates run), 10360, 10257, by decide +kernel⟩⟩

theorem test_witness_hammer_goes_on :
    (∃ (s : State) (bank : Side) (g1 g1' : Clock), (s.key 39).heldOut = false ∧ (s.key 39).hammer = .armed bank g1
        ∧ crossNow s GateBank.gate2 bank 699 = none ∧ s.cst.user.working.hammer.rearmHeight ≤ 699
        ∧ elapsed 10360 g1 = s.cst.user.working.hammer.gateTimeoutMs * 1000 ∧ crossNow s GateBank.gate1 bank 699 = some g1')
      ∧ (∃ (s : State) (bank : Side) (g1 : Clock), (s.key 39).heldOut = false ∧ (s.key 39).hammer = .armed bank g1
        ∧ crossNow s GateBank.gate2 bank 250 = none ∧ s.cst.user.working.hammer.rearmHeight = 250
        ∧ elapsed 10360 g1 ≤ s.cst.user.working.hammer.gateTimeoutMs * 1000 ∧ crossNow s GateBank.gate1 bank 250 = none)
      ∧ (∃ s : State, (s.key 39).heldOut = false ∧ (s.key 39).hammer = .spent ∧ s.cst.user.working.hammer.rearmHeight = 250)
      ∧ (∃ (s : State) (bank : Side) (g1 tc : Clock), (s.key 39).heldOut = false ∧ (s.key 39).hammer = .armed bank g1
        ∧ crossNow s GateBank.gate2 bank 700 = some tc ∧ elapsed tc g1 ≤ s.cst.user.working.hammer.gateTimeoutMs * 1000
        ∧ s.ply.isWaiting = true ∧ s.ply.expected.has 39 = true ∧ s.ply.expected.drop 39 ≠ KeySet.empty) :=
  ⟨⟨hammered (.armed .blockedEnd (10360 - 150000)) none 350 run, .blockedEnd, 10360 - 150000, 10257, by decide +kernel⟩,
    ⟨hammered (.armed .blockedEnd 10035) none 690 run, .blockedEnd, 10035, by decide +kernel⟩, ⟨hammered .spent none 690 run, by decide +kernel⟩,
    ⟨hammered (.armed .blockedEnd 10035) none 690
        (onPly (fun p => { p with expected := (KeySet.empty.add 39).add 43 }) (playing .waiting run)),
      .blockedEnd, 10035, 10360, by decide +kernel⟩⟩

theorem test_witness_hammer_armed_spent :
    (∃ (s : State) (bank : Side) (g1 tc : Clock), (s.key 39).heldOut = false ∧ (s.key 39).hammer = .armed bank g1
        ∧ crossNow s GateBank.gate2 bank 700 = some tc ∧ elapsed tc g1 = s.cst.user.working.hammer.gateTimeoutMs * 1000
        ∧ s.ply.isWaiting = false)
      ∧ (∃ (s : State) (bank : Side) (g1 tc : Clock), (s.key 39).heldOut = false ∧ (s.key 39).hammer = .armed bank g1
        ∧ crossNow s GateBank.gate2 bank 700 = some tc ∧ elapsed tc g1 = s.cst.user.working.hammer.gateTimeoutMs * 1000 + 1)
      ∧ (∃ (s : State) (bank : Side) (g1 : Clock), (s.key 39).heldOut = false ∧ (s.key 39).hammer = .armed bank g1
        ∧ crossNow s GateBank.gate2 bank 249 = none ∧ 249 + 1 = s.cst.user.working.hammer.rearmHeight)
      ∧ (∃ (s : State) (bank : Side) (g1 : Clock), (s.key 39).heldOut = false ∧ (s.key 39).hammer = .armed bank g1
        ∧ crossNow s GateBank.gate2 bank 699 = none ∧ s.cst.user.working.hammer.gateTimeoutMs * 1000 + 1 = elapsed 10360 g1)
      ∧ (∃ s : State, (s.key 39).heldOut = false ∧ (s.key 39).hammer = .spent ∧ 249 + 1 = s.cst.user.working.hammer.rearmHeight) :=
  ⟨⟨hammered (.armed .blockedEnd (10360 - 150000)) none 690 run, .blockedEnd, 10360 - 150000, 10360, by decide +kernel⟩,
    ⟨hammered (.armed .blockedEnd (10360 - 150001)) none 690 run, .blockedEnd, 10360 - 150001, 10360, by decide +kernel⟩,
    ⟨hammered (.armed .blockedEnd 10035) none 690 run, .blockedEnd, 10035, by decide +kernel⟩,
    ⟨hammered (.armed .blockedEnd (10360 - 150001)) none 690 run, .blockedEnd, 10360 - 150001, by decide +kernel⟩,
    ⟨hammered .spent none 690 run, by decide +kernel⟩⟩

theorem test_witness_pedals :
    (∃ p : Pedal, p ≠ .sostenuto) ∧ (∃ (s : State) (d : Nat), s.pdu.sostOn = false ∧ s.pdu.sostSet = KeySet.empty ∧ s.cst.user.working.pedals.sostOnAt = d)
      ∧ (∃ (s : State) (d : Nat), s.pdu.sostOn = true ∧ d + 1 = min s.cst.user.working.pedals.sostOffAt s.cst.user.working.pedals.sostOnAt)
      ∧ (∃ (s : State) (d : Nat), s.pdu.sostOn = true ∧ min s.cst.user.working.pedals.sostOffAt s.cst.user.working.pedals.sostOnAt = d)
      ∧ (∃ (s : State) (d : Nat), s.pdu.sostOn = false ∧ d + 1 = s.cst.user.working.pedals.sostOnAt) :=
  ⟨⟨.damper, by decide⟩, ⟨run, 500, by decide +kernel⟩, ⟨onPdu (fun u => { u with sostOn := true }) run, 349, by decide +kernel⟩,
    ⟨onPdu (fun u => { u with sostOn := true }) run, 350, by decide +kernel⟩, ⟨run, 499, by decide +kernel⟩⟩

/-! ## Witnesses: power, reset, encodings -/

/-- The part with RESETn low. -/
def pinLow (s : State) : State := { s with resetnLow := true }

/-- A stored factory image whose check is one above that of its contents. -/
def spoiled : Image FactoryRegion := { contents := defaultFactory, check := Config.imageCheck defaultFactory + 1 }

theorem test_spoiled_image_fails : spoiled.passes = false := by
  simp only [Image.passes, spoiled, beq_eq_false_iff_ne, ne_eq]
  generalize Config.imageCheck defaultFactory = x
  bv_omega

theorem test_witness_resetCommands :
    (∃ s : State, s.resetnLow = false ∧ s.cst.factory.commit = none ∧ s.cst.user.commit = none ∧ s.cst.factory.stored.passes = true
        ∧ s.cst.user.stored.passes = true)
      ∧ (∃ s : State, s.resetnLow = false ∧ s.cst.factory.commit = none ∧ s.cst.factory.stored.passes = false)
      ∧ (∃ s : State, s.resetnLow = true) ∧ (∃ s : State, s.phase = .loading)
      ∧ (∃ s : State, s.resetnLow = false ∧ s.phase = .running ∧ s.sysReset = .none ∧ s.cst.factory.commit.isSome = true)
      ∧ (∃ s : State, s.phase ≠ .heldInReset) ∧ (∃ s : State, s.phase = .heldInReset) ∧ (∃ s : State, s.phase ≠ .off) :=
  ⟨⟨run, rfl, rfl, rfl, Image.passes_written defaultFactory, Image.passes_written defaultUser⟩,
    ⟨onCst (fun k => { k with factory := { k.factory with stored := spoiled } }) run, rfl, rfl, test_spoiled_image_fails⟩, ⟨pinLow run, rfl⟩,
    ⟨State.reset, rfl⟩, ⟨committing, by decide +kernel⟩, ⟨run, by decide +kernel⟩, ⟨{ pinLow run with phase := .heldInReset }, rfl⟩,
    ⟨run, by decide +kernel⟩⟩

theorem test_witness_systemReset :
    (∃ l args s, Heads l kSystemReset args s ∧ s.roles.panel = some l ∧ s.sysReset = .none)
      ∧ (∃ l args s, Heads l kSystemReset args s ∧ s.roles.panel = some l ∧ s.sysReset ≠ .none)
      ∧ (∃ (s : State) (n : TakeNo), s.sysReset = .arrived false false ∧ (s.take n).state = .recording ∧ s.resetnLow = true)
      ∧ (∃ (s : State) (n : TakeNo), s.sysReset = .arrived false false ∧ (s.take n).state = .closed ∧ s.resetnLow = false) :=
  ⟨⟨.a, [], asked .a kSystemReset [] (holding none (some .a) run), by decide +kernel⟩,
    ⟨.a, [], asked .a kSystemReset [] { holding none (some .a) run with sysReset := .awaitingReply .b }, by decide +kernel⟩,
    ⟨{ pinLow recorded with sysReset := .arrived false false }, 2, by decide +kernel⟩,
    ⟨{ closedTake 6 tune run with sysReset := .arrived false false }, 6, by decide +kernel⟩⟩

theorem test_witness_recordForms :
    (∃ r : TakeRec, r.value = 1023 ∧ r.delta = 2047) ∧ (∃ y : Layer, y.program = 255 ∧ y.trim = 200 ∧ y.low = y.high)
      ∧ (∃ (it : CalItem) (vs : List Nat) (e : CalEntry), it.entryOf vs = some e) :=
  ⟨⟨{ kind := .strike, key := 87, value := 1023, delta := 2047 }, rfl, rfl⟩,
    ⟨{ defaultLayer 0 with program := 255, trim := 200, low := 87 }, by decide +kernel⟩, ⟨.trim, [0], .trim 768, by decide +kernel⟩⟩

/-! ## Witnesses: voices -/

/-- A strike of key 40 from the tracker. -/
def strike40 (guide : Bool) : Event :=
  { time := 5, kind := .strike, source := .live, key := some 40, value := 650, flags := { guide := guide } }

/-- Layer 0 takes the strike of key 40, from its sources, with its voicing gate. -/
def takes40 (s : State) : Bool := layerTakes s s.vas.layers[(0 : Fin 4)] 40 .live

/-- Every slot sounds key 41 of the live source on layer 0. -/
def crowded : State :=
  onVas (fun va => { va with slots := Vector.replicate 128 { gen := 1, voice := some { aVoice with key := 41 } } }) sounding

/-- The voice order queue at a length. -/
def longQueue (n : Nat) (s : State) : State := onVas (fun va => { va with queue := List.replicate n (.soft .live 5) }) s

theorem test_witness_voiceStrikes :
    (∃ (e : Event) (k : Key) (s : State), e.key = some k.val ∧ e.kind = .strike ∧ e.flags.guide = false ∧ s.roles.tone ≠ none)
      ∧ (∃ (e : Event) (k : Key), e.key = some k.val ∧ e.kind = .strike ∧ e.flags.guide = true)
      ∧ (∃ s : State, takes40 s = false) ∧ (∃ s : State, takes40 s = true ∧ s.vas.queue.length = 48)
      ∧ (∃ (s : State) (n : Slot), takes40 s = true ∧ s.vas.queue.length = 47 ∧ sameVoiceSlot s 40 .live 0 = some n
          ∧ s.vas.queue.any (VoiceOrder.isDampOf n ((s.slot n).gen + 1)) = false)
      ∧ (∃ (s : State) (n : Slot), takes40 s = true ∧ s.vas.queue.length = 0 ∧ sameVoiceSlot s 40 .live 0 = none
          ∧ freeSlot s = some n)
      ∧ (∃ (s : State) (n : Slot), takes40 s = true ∧ s.vas.queue.length = 0 ∧ sameVoiceSlot s 40 .live 0 = none
          ∧ freeSlot s = none ∧ victim s [0] = some n ∧ n = 1) :=
  ⟨⟨strike40 false, 40, sounding, by decide +kernel⟩, ⟨strike40 true, 40, by decide +kernel⟩,
    ⟨onVas (fun va => { va with layers := va.layers.set 0 { defaultLayer 0 with high := 39 } }) sounding, by decide +kernel⟩,
    ⟨railed .blocked none (longQueue 48 sounding), by decide +kernel⟩, ⟨railed .blocked none (longQueue 47 sounding), 5, by decide +kernel⟩,
    ⟨railed .blocked none (holding (some .a) none run), 0, by decide +kernel⟩, ⟨railed .blocked none crowded, 1, by decide +kernel⟩⟩

/-- Slot 5's applied lift of 0 against a last sent lift of 255. -/
theorem test_witness_damps :
    (∃ (n : Slot) (v : Voice) (s : State), (s.slot n).voice = some v ∧ (s.slot n).stale = false ∧ appliedLift s v = v.lastSent)
      ∧ (∃ (n : Slot) (v : Voice) (s : State), (s.slot n).voice = some v ∧ appliedLift s v = 0 ∧ v.lastSent = 255
          ∧ s.vas.queue.any (VoiceOrder.isDampOf n (s.slot n).gen) = true)
      ∧ (∃ (n : Slot) (v : Voice) (s : State), (s.slot n).voice = some v ∧ appliedLift s v = 0 ∧ v.lastSent = 255
          ∧ s.vas.queue.any (VoiceOrder.isDampOf n (s.slot n).gen) = false ∧ s.vas.queue.length = 47)
      ∧ (∃ (n : Slot) (v : Voice) (s : State), (s.slot n).voice = some v ∧ (s.slot n).stale = true
          ∧ s.vas.queue.any (VoiceOrder.isDampOf n (s.slot n).gen) = false ∧ s.vas.queue.length = 48) :=
  ⟨⟨5, { aVoice with lastSent := 0 }, setSlot 5 { gen := 7, voice := some { aVoice with lastSent := 0 } } run, by decide +kernel⟩,
    ⟨5, aVoice, queueOrder (.damp 5 7 9) sounding, by decide +kernel⟩, ⟨5, aVoice, longQueue 47 sounding, by decide +kernel⟩,
    ⟨5, aVoice, longQueue 48 (setSlot 5 { gen := 7, stale := true, voice := some aVoice } sounding), by decide +kernel⟩⟩

theorem test_witness_recomputation :
    (∃ (p : Voice → Bool) (n : Slot) (s : State) (v : Voice), (∀ v w : Voice, v.key = w.key → v.source = w.source → p v = p w)
        ∧ (s.slot n).voice = some v ∧ p v = true)
      ∧ (∃ (p : Voice → Bool) (n : Slot) (s : State), (∀ v w : Voice, v.key = w.key → v.source = w.source → p v = p w)
        ∧ ∀ v, (s.slot n).voice = some v → p v = false) :=
  ⟨⟨fun v => v.key == 40, 5, sounding, aVoice, fun v w h _ => by simp [h], rfl, rfl⟩,
    ⟨fun v => v.key == 41, 5, sounding, fun v w h _ => by simp [h], fun v h => by cases h; decide⟩⟩

/-- A drain that leaves room refills the queue with the damp of the stale slot 5 (05, R93). -/
theorem test_drain_refills :
    (after (exec .voiceOrderDrain
        (setSlot 5 { gen := 7, stale := true, voice := some { aVoice with applied := 90 } } (longQueue 1 sounding)))).vas.queue
      = [.damp 5 7 90] := by decide +kernel

/-! ## Witnesses: the quiet test -/

theorem test_witness_quietMoves :
    (∃ s : State, quietTest s = true ∧ s.rlc.state = .unknown)
      ∧ (∃ (s : State) (w : WaitInfo), quietTest s = true ∧ s.rlc.state = .waiting w)
      ∧ (∃ s : State, quietTest s = false) ∧ (∃ s : State, s.rlc.state ≠ .unknown ∧ ∀ w, s.rlc.state ≠ .waiting w)
      ∧ (∃ (k : Key) (raw : Nat) (s : State), s.sfe.hammerCh[k].failed = false ∧ 40 ≤ raw ∧ raw = 4055)
      ∧ (∃ s : State, s.rlc.sensingSeen = false) :=
  ⟨⟨quiet run, by decide +kernel⟩,
    ⟨quiet (railed (.waiting ⟨.openEnd, 0, false, none, false⟩) none run), ⟨.openEnd, 0, false, none, false⟩, by decide +kernel⟩,
    ⟨run, by decide +kernel⟩, ⟨railed .closing none run, by decide +kernel, fun _ h => nomatch h⟩, ⟨87, 4055, run, by decide +kernel⟩,
    ⟨run, rfl⟩⟩

/-- 06, R109: the hammer sample that makes the action quiet starts the move that waited for it. -/
theorem test_quiet_sample_starts_move :
    let s := quiet (railed (.waiting ⟨.openEnd, 0, false, none, false⟩) none (keyed 39 { height := 600 } run))
    (convertHammer 39 9 500 s).rlc.state = .closing ∧ (convertHammer 39 9 500 (keyed 40 { height := 600 } s)).rlc.state.code = 6 := by
  decide +kernel

/-! ## Witnesses: takes being written -/

theorem loading_sound : TakesSound (asked .b kWriteTakeRecords tuneArgs loading) :=
  takesSound_of (by decide +kernel) (by decide +kernel) (by decide +kernel) (by decide +kernel) (by decide +kernel)
    (by decide +kernel) (by decide +kernel)

theorem test_witness_soundLoading :
    ∃ (l : Link) (args : List Byte) (n : TakeNo) (s : State), TakesSound s ∧ Heads l kWriteTakeRecords args s
      ∧ 1 ≤ args.length ∧ byteAt args 0 = n.val ∧ (s.take n).state = .loading
      ∧ takeRecsAt args 1 ((args.length - 1) / 4) = some tune ∧ tune.length ≤ takeRoom s n :=
  ⟨.b, tuneArgs, 5, asked .b kWriteTakeRecords tuneArgs loading, loading_sound, by decide +kernel⟩

theorem recording_sound : TakesSound recording :=
  takesSound_of (by decide +kernel) (by decide +kernel) (by decide +kernel) (by decide +kernel) (by decide +kernel)
    (by decide +kernel) (by decide +kernel)

/-- Take 2 ARMED. -/
def armed : State := after (exec (.takeRecord .a) (asked .a kTakeRecord [2, 0, 7, 0] run))

theorem armed_sound : TakesSound armed :=
  takesSound_of (by decide +kernel) (by decide +kernel) (by decide +kernel) (by decide +kernel) (by decide +kernel)
    (by decide +kernel) (by decide +kernel)

/-- The recorder's position so far that the next record's time is past the last a take can hold. -/
def lateRecording : State :=
  onTks (fun k => { k with recorder := .recording 2 { start := 0, position := 4294967296000, mark := 0, struck := KeySet.empty } }) recording

theorem test_witness_recorderEvents :
    (∀ kind : EventKind, kind = .strike ∨ kind = .release → ∃ (e : Event) (k : Key), e.key = some k.val ∧ e.kind = kind)
      ∧ (∀ kind : EventKind, kind = .damper ∨ kind = .soft ∨ kind = .keyFail → ∃ e : Event, e.key = none ∧ e.kind = kind)
      ∧ (∃ (e : Event) (n : TakeNo) (r : RecInfo) (s : State), s.tks.recorder = .recording n r ∧ e.source = .live
          ∧ recordOf r.struck e = some (.strike, 40, 650) ∧ TakesSound s
          ∧ (recordsForGap 0 .strike 40 650).length ≤ takeRoom s n)
      ∧ (∃ (e : Event) (n : TakeNo) (r : RecInfo) (s : State), s.tks.recorder = .recording n r ∧ e.source = .live
          ∧ recordOf r.struck e = some (.strike, 40, 650) ∧ 4294967295 < r.position / 1000)
      ∧ (∃ (e : Event) (n : TakeNo) (r : RecInfo) (s : State), s.tks.recorder = .recording n r
          ∧ (e.source = .playback ∨ recordOf r.struck e = none))
      ∧ (∃ (e : Event) (n : TakeNo) (s : State) (k : Key), s.tks.recorder = .armed n ∧ TakesSound s ∧ e.source = .live
          ∧ e.kind = .strike ∧ e.key = some k.val)
      ∧ (∃ (e : Event) (n : TakeNo) (s : State), s.tks.recorder = .armed n ∧ e.kind ≠ .strike ∧ e.kind ≠ .restrike) :=
  ⟨fun kind _ => ⟨{ strike40 false with kind := kind }, 40, rfl, rfl⟩,
    fun kind _ => ⟨{ strike40 false with kind := kind, key := none }, rfl, rfl⟩,
    ⟨strike40 false, 2, { start := 0, position := 0, mark := 0, struck := KeySet.empty }, recording, by decide +kernel, rfl,
      by decide +kernel, recording_sound, by decide +kernel⟩,
    ⟨strike40 false, 2, { start := 0, position := 4294967296000, mark := 0, struck := KeySet.empty }, lateRecording, by decide +kernel⟩,
    ⟨{ strike40 false with kind := .keyFail }, 2, { start := 0, position := 0, mark := 0, struck := KeySet.empty }, recording,
      by decide +kernel⟩,
    ⟨strike40 false, 2, armed, 40, by decide +kernel, armed_sound, rfl, rfl, rfl⟩,
    ⟨{ strike40 false with kind := .damper }, 2, armed, by decide +kernel⟩⟩

theorem closedTake_sound : TakesSound { closedTake 6 tune run with sysReset := .arrived false false } :=
  takesSound_of (by decide +kernel) (by decide +kernel) (by decide +kernel) (by decide +kernel) (by decide +kernel)
    (by decide +kernel) (by decide +kernel)

theorem test_witness_soundReset :
    ∃ (s : State) (n : TakeNo), s.sysReset = .arrived false false ∧ TakesSound s ∧ (s.take n).state = .closed :=
  ⟨_, 6, rfl, closedTake_sound, by decide +kernel⟩

/-! ## Witnesses: playing records -/

/-- The player on take 0 of `tune` at a cursor and position, under the guide settings of the test. -/
def guided (mode : GuideMode) (cursor position : Nat) (m : PlayMode) (s : State) : State :=
  onPly (fun p => { p with
    guide := mode, session := some { take := 0, cursor := cursor, position := position, mode := m } }) (playing m s)

theorem test_witness_playRecords :
    (∀ kind : TakeKind, ∃ r : TakeRec, r.kind = kind)
      ∧ (∀ mode : GuideMode, ∃ (r : TakeRec) (s : State), r.kind = .release ∧ s.ply.guide = mode ∧ s.ply.low ≤ r.key
          ∧ r.key ≤ s.ply.high)
      ∧ (∀ on : Bool, ∃ (r : TakeRec) (s : State), r.kind = .sostenuto ∧ r.value ≠ 0 ∧ s.ply.sostOn = on)
      ∧ (∀ on : Bool, ∃ (r : TakeRec) (s : State), r.kind = .sostenuto ∧ r.value = 0 ∧ s.ply.sostOn = on)
      ∧ (∃ (x : Nat) (ss : Session) (s : State), s.ply.session = some ss ∧ ss.position + 1 = x)
      ∧ (∃ (r : TakeRec) (x : Nat) (ss : Session) (s : State), s.ply.session = some ss ∧ x = ss.position ∧ s.ply.loop = none
          ∧ s.ply.guide = .mute ∧ r.kind = .strike)
      ∧ (∃ (r : TakeRec) (x : Nat) (ss : Session) (s : State), s.ply.session = some ss ∧ x = ss.position ∧ s.ply.loop = none
          ∧ s.ply.guide = .wait ∧ r.kind = .strike ∧ s.ply.low ≤ r.key ∧ r.key ≤ s.ply.high ∧ s.ply.limit = none) :=
  ⟨fun kind => ⟨{ kind := kind, key := 0, value := 0, delta := 0 }, rfl⟩,
    fun mode => ⟨{ kind := .release, key := 40, value := 0, delta := 0 }, guided mode 0 10 .waiting run, rfl, rfl, Fin.zero_le _, by
      show (40 : Fin 88) ≤ 87; decide⟩,
    fun on => ⟨{ kind := .sostenuto, key := 0, value := 1, delta := 0 }, onPly (fun p => { p with sostOn := on }) run, rfl, by decide, rfl⟩,
    fun on => ⟨{ kind := .sostenuto, key := 0, value := 0, delta := 0 }, onPly (fun p => { p with sostOn := on }) run, rfl, rfl, rfl⟩,
    ⟨11, ⟨0, 0, 10, .waiting⟩, guided .wait 0 10 .waiting run, rfl, rfl⟩,
    ⟨{ kind := .strike, key := 40, value := 650, delta := 10 }, 10, ⟨0, 0, 10, .playing 1000⟩, guided .mute 0 10 (.playing 1000) run,
      by decide +kernel⟩,
    ⟨{ kind := .strike, key := 40, value := 650, delta := 10 }, 10, ⟨0, 0, 10, .playing 1000⟩, guided .wait 0 10 (.playing 1000) run,
      by decide +kernel⟩⟩

theorem test_witness_waits :
    (∃ (e : Event) (k : Key) (ss : Session) (s : State), s.ply.session = some ss ∧ e.key = some k.val ∧ ss.mode ≠ .waiting)
      ∧ (∃ (e : Event) (k : Key) (ss : Session) (s : State), s.ply.session = some ss ∧ e.key = some k.val ∧ e.source = .live
          ∧ e.kind = .strike ∧ ss.mode = .waiting ∧ s.ply.expected.has k = true ∧ s.ply.expected.drop k = KeySet.empty)
      ∧ (∃ (e : Event) (k : Key) (ss : Session) (s : State), s.ply.session = some ss ∧ e.key = some k.val ∧ e.source = .live
          ∧ e.kind = .strike ∧ ss.mode = .waiting ∧ s.ply.expected.has k = true ∧ s.ply.expected.drop k ≠ KeySet.empty) :=
  ⟨⟨strike40 false, 40, ⟨0, 0, 0, .playing 1000⟩, playing (.playing 1000) run, by decide +kernel⟩,
    ⟨strike40 false, 40, ⟨0, 0, 0, .waiting⟩, waitingFor40, by decide +kernel⟩,
    ⟨strike40 false, 40, ⟨0, 0, 0, .waiting⟩, onPly (fun p => { p with expected := p.expected.add 41 }) waitingFor40, by decide +kernel⟩⟩

/-- A loop over the last 29 ms of `tune`. -/
def aLoop : Loop := { start := 1, stop := 29, damper := 0, sostOn := false, soft := 0 }

theorem test_witness_loopsAndEnds :
    (∃ (ss : Session) (s : State), s.ply.session = some ss)
      ∧ (∃ (l : Link) (args : List Byte) (ss : Session) (s : State), Heads l kSetLoop args s ∧ 8 ≤ args.length
          ∧ s.ply.session = some ss ∧ word32At args 0 < word32At args 4 ∧ word32At args 4 ≤ (s.take ss.take).duration
          ∧ word32At args 4 + 1 = ss.position)
      ∧ (∃ (ss : Session) (n : Clock) (lp : Loop) (s : State), s.phase = .running ∧ s.ply.session = some ss ∧ ss.mode = .playing n
          ∧ elapsed s.clock n < 2147483648 ∧ s.ply.loop = some lp ∧ lp.stop = ss.position + (s.ply.acc + s.ply.tempo) / 100
          ∧ ∀ q ∈ ((timedRecords s ss.take).drop ss.cursor).head?, lp.stop < q.2)
      ∧ (∃ (ss : Session) (n : Clock) (s : State), s.phase = .running ∧ s.ply.session = some ss ∧ ss.mode = .playing n
          ∧ elapsed s.clock n < 2147483648 ∧ s.ply.loop = none ∧ (s.take ss.take).count = ss.cursor) :=
  ⟨⟨⟨0, 0, 0, .waiting⟩, playing .waiting run, rfl⟩,
    ⟨.a, [1, 0, 0, 0, 29, 0, 0, 0], ⟨0, 1, 30, .waiting⟩, asked .a kSetLoop [1, 0, 0, 0, 29, 0, 0, 0] (guided .none 1 30 .waiting run),
      by decide +kernel⟩,
    ⟨⟨0, 1, 28, .playing 1000⟩, 1000, aLoop, atTime 1000 (onPly (fun p => { p with loop := some aLoop }) (guided .none 1 28 (.playing 1000) run)),
      by decide +kernel⟩,
    ⟨⟨0, 2, 31, .playing 1000⟩, 1000, atTime 1000 (guided .none 2 31 (.playing 1000) run), by decide +kernel⟩⟩

/-! ## Witnesses: the end of a walk, channels, key states -/

/-- A depth stream of every frame on link B, with its places free or full. -/
def streaming (full : Bool) (s : State) : State :=
  onLink .b (fun ls => { ls with
    limit := .b64, depthPeriod := 1, tx := if full then (List.range 7).map fun _ => .depth [] else [] }) s

theorem test_witness_walkEnds :
    (∃ (pos : WalkPos) (s : State), (s.sfe.active.entries[pos.index]).last = false ∧ pos.count + 1 = 63)
      ∧ (∃ (pos : WalkPos) (s : State), (s.sfe.active.entries[pos.index]).last = false ∧ pos.count + 1 = 64)
      ∧ (∃ (pos : WalkPos) (s : State) (d : Clock), (s.sfe.active.entries[pos.index]).last = true ∧ s.sfe.due = some d
          ∧ elapsed s.clock d = 1)
      ∧ (∃ (pos : WalkPos) (s : State), (s.sfe.active.entries[pos.index]).last = true
          ∧ ∀ d, s.sfe.due = some d → d = s.clock)
      ∧ (∀ full : Bool, ∃ (s : State) (l : Link), (s.link l).depthPeriod ≠ 0 ∧ (s.link l).depthPeriod = (s.link l).depthCount + 1
          ∧ (s.link l).placeFree = !full)
      ∧ (∃ (ls : LinkState) (p : Fin 8) (j k : Key), j.val = ls.base0.val + p.val ∧ k.val = ls.base1.val + p.val) :=
  ⟨⟨⟨3, 62⟩, run, by decide +kernel⟩, ⟨⟨3, 63⟩, run, by decide +kernel⟩, ⟨⟨55, 5⟩, atTime 401 (walking .waiting run), 400, by decide +kernel⟩,
    ⟨⟨55, 5⟩, atTime 400 (walking .waiting run), by decide +kernel, fun d h => by cases h; rfl⟩,
    fun full => ⟨streaming full run, .b, by cases full <;> decide +kernel⟩, ⟨{ base1 := 80 }, 7, 7, 87, by decide +kernel⟩⟩

theorem test_witness_channels :
    (∃ (ch : ChannelRec) (raw : Nat), ch.failed = false ∧ raw = 39 ∧ ch.outRun + 1 = 31)
      ∧ (∃ (ch : ChannelRec) (raw : Nat), ch.failed = false ∧ raw = 4056 ∧ ch.outRun + 1 = 32)
      ∧ (∃ (ch : ChannelRec) (raw : Nat), ch.failed = true ∧ raw = 39)
      ∧ (∃ (ch : ChannelRec) (raw : Nat), ch.failed = true ∧ raw = 40 ∧ ch.inRun + 1 = 1023)
      ∧ (∃ (ch : ChannelRec) (raw : Nat), ch.failed = true ∧ raw = 4055 ∧ ch.inRun + 1 = 1024) :=
  ⟨⟨{ outRun := 30 }, 39, by decide⟩, ⟨{ outRun := 31 }, 4056, by decide⟩, ⟨{ failed := true }, 39, by decide⟩,
    ⟨{ failed := true, inRun := 1022 }, 40, by decide⟩, ⟨{ failed := true, inRun := 1023 }, 4055, by decide⟩⟩

/-- The channel record of each outcome: failing, recovering, passed on, neither. -/
def channelOf (fails recovers : Bool) : ChannelRec :=
  if fails then { outRun := 31 } else if recovers then { failed := true, inRun := 1023 } else {}

theorem test_witness_conversions :
    (∃ (g : Fin 11) (r : AinResult) (k : Key), k.val = 8 * g.val + r.ain.val) ∧ (∃ r : AinResult, r.ain.val = 3)
      ∧ (∀ p : Pedal, ∃ r : AinResult, r.ain.val = p.index.val)
      ∧ (channelTest (channelOf true false) 39).fails = true ∧ (channelTest (channelOf false true) 40).recovers = true
      ∧ ((channelTest {} 40).fails = false ∧ (channelTest {} 40).recovers = false ∧ (channelTest {} 40).passes = true)
      ∧ ((channelTest {} 39).fails = false ∧ (channelTest {} 39).passes = false) :=
  ⟨⟨10, ⟨7, 0⟩, 87, by decide⟩, ⟨⟨3, 0⟩, rfl⟩, fun p => by cases p <;> [exact ⟨⟨0, 0⟩, rfl⟩; exact ⟨⟨1, 0⟩, rfl⟩; exact ⟨⟨2, 0⟩, rfl⟩],
    by decide +kernel⟩

/-- The key profile's press, release-start and note-off points that the clauses on key states compare a depth with. -/
theorem test_witness_keyStates :
    let p := run.cst.user.working.profile
    (∀ st : KeyState, ∃ s : State, (s.key 40).heldOut = false ∧ (s.key 40).state = st ∧ s.cst = run.cst)
      ∧ (∃ d, d + 1 = p.press) ∧ (∃ d, p.press ≤ d ∧ d = p.releaseStart) ∧ (∃ d, d + 1 = p.releaseStart ∧ p.noteOff ≤ d)
      ∧ (∃ d, d < p.press ∧ p.noteOff = d) ∧ (∃ d, d + 1 = p.noteOff ∧ d < p.press ∧ d < p.releaseStart)
      ∧ (∃ q : KeyProfile, ∃ d, q.press ≤ d ∧ d + 1 = q.releaseStart ∧ q.noteOff ≤ d) :=
  ⟨fun st => ⟨keyed 40 { state := st } run, rfl, rfl, rfl⟩, ⟨run.cst.user.working.profile.press - 1, by decide +kernel⟩,
    ⟨max run.cst.user.working.profile.press run.cst.user.working.profile.releaseStart, by decide +kernel⟩,
    ⟨run.cst.user.working.profile.releaseStart - 1, by decide +kernel⟩, ⟨run.cst.user.working.profile.noteOff, by decide +kernel⟩,
    ⟨run.cst.user.working.profile.noteOff - 1, by decide +kernel⟩,
    ⟨{ run.cst.user.working.profile with press := 500, releaseStart := 600, noteOff := 200 }, 599, by decide +kernel⟩⟩

theorem test_witness_heldOutSamples :
    (∃ s : State, (s.key 40).heldOut = true ∧ (s.key 40).hammerFailed = true)
      ∧ (∃ s : State, (s.key 40).heldOut = true ∧ (s.key 40).depthFailed = false ∧ (s.key 40).hammerFailed = false)
      ∧ (∃ s : State, s.rlc.state ≠ .unknown ∧ (∀ w, s.rlc.state ≠ .waiting w) ∧ (s.key 40).sounding = true)
      ∧ (∀ on : Bool, ∃ s : State, s.pdu.sostOn = on) :=
  ⟨⟨keyed 40 { heldOut := true, hammerFailed := true } run, by decide +kernel⟩, ⟨keyed 40 { heldOut := true } run, by decide +kernel⟩,
    ⟨keyed 40 { sounding := true } (railed .openState none run), by decide +kernel, fun _ h => (nomatch h), by decide +kernel⟩,
    fun on => ⟨onPdu (fun u => { u with sostOn := on }) run, rfl⟩⟩

/-- 01, R17 and 02, R39: the 32nd out-of-range conversion of a sounding key's hammer channel fails it. -/
theorem test_channel_fails :
    let s := keyed 0 { sounding := true, hammer := .spent, state := .down, lift := 9 }
      (onSfe (fun f => { f with hammerCh := f.hammerCh.set 0 { outRun := 31 } }) (railed .openState none run))
    let t := convertResult (.h 0) 50 s ⟨0, 39⟩
    t.ajn.ring.map (fun e => (e.event.kind, e.event.value)) = [(.release, 1), (.keyFail, 2)]
      ∧ t.key 0 = { hammerFailed := true, heldOut := true } ∧ t.faults.first = some .sensorFail := by decide +kernel

/-! ## Witnesses: what the rail publishes, raised classes, soft levels, loop snapshots, start positions -/

theorem test_witness_railPublishes :
    (∀ r : RailState, ∃ s : State, s.rlc.state = r)
      ∧ (∀ e : Side, ∃ s : State, s.rlc.state = .fault ∧ target s = e) :=
  ⟨fun r => ⟨railed r none run, rfl⟩, fun e => by
    cases e
    · exact ⟨railed .fault none run, by decide +kernel⟩
    · exact ⟨railed .fault none (demanded run), by decide +kernel⟩⟩

/-- A notice entry with RAIL_STATE in its set. -/
def railEntry : NoticeEntry := { classes := 4, tag := 70 }

/-- A link that grants one entry, with its table's entry 0, link mask and transmit queue. -/
def noticing (e : NoticeEntry) (linkMask : Bool) (tx : List TxFrame) : LinkState :=
  { (run.link .b) with
    tx := tx, notice := { enable := true, linkMask := linkMask, grant := 1, entries := (run.link .b).notice.entries.set 0 e } }

/-- Whether a link takes RAIL_STATE at entry `i`, unmasked. -/
abbrev takesRail (ls : LinkState) (i : Fin 8) : Prop :=
  (i.val < ls.notice.grant ∧ (ls.entry i).classes.getLsbD EventClass.railState.index = true)
    ∧ (ls.entry i).mask = false ∧ ls.notice.linkMask = false

theorem test_witness_raisedClasses :
    (∃ ls : LinkState, ls.notice.grant = 1 ∧ (ls.entry 0).classes.getLsbD EventClass.railFault.index = false)
      ∧ (∃ ls : LinkState, ls.notice.grant = 1 ∧ (ls.entry 1).classes.getLsbD EventClass.railState.index = true)
      ∧ (∃ ls : LinkState, 0 < ls.notice.grant ∧ (ls.entry 0).classes.getLsbD EventClass.railState.index = true
          ∧ (ls.entry 0).mask = true ∧ ls.notice.linkMask = false)
      ∧ (∃ ls : LinkState, 0 < ls.notice.grant ∧ (ls.entry 0).classes.getLsbD EventClass.railState.index = true
          ∧ (ls.entry 0).mask = false ∧ ls.notice.linkMask = true)
      ∧ (∃ ls : LinkState, takesRail ls 0 ∧ (ls.entry 0).queued = true)
      ∧ (∃ ls : LinkState, takesRail ls 0 ∧ (ls.entry 0).queued = false ∧ ls.tx.countP TxFrame.unprompted = 6)
      ∧ (∃ ls : LinkState, takesRail ls 0 ∧ (ls.entry 0).queued = false ∧ ls.tx.countP TxFrame.unprompted = 7)
      ∧ (∀ b : Bool, ∃ ls : LinkState, ls.notice.enable = b) := by
  refine ⟨⟨noticing railEntry false [], by decide +kernel⟩, ⟨{ (noticing railEntry false []) with
      notice := { (noticing railEntry false []).notice with entries := (run.link .b).notice.entries.set 1 railEntry } }, by decide +kernel⟩,
    ⟨noticing { railEntry with mask := true } false [], by decide +kernel⟩, ⟨noticing railEntry true [], by decide +kernel⟩,
    ⟨noticing { railEntry with queued := true } false [.notice 0], by decide +kernel⟩,
    ⟨noticing railEntry false (.reply [] :: List.replicate 6 (.depth [])), by decide +kernel⟩,
    ⟨noticing railEntry false (.reply [] :: List.replicate 7 (.depth [])), by decide +kernel⟩,
    fun b => ⟨{ (run.link .b) with notice := { (run.link .b).notice with enable := b } }, rfl⟩⟩

/-- Link A holds TONE (or none does), the SOFT pedal's lift is `x`, `sent` was sent last, and `n` orders wait. -/
def softening (tone : Option Link) (x sent n : Nat) (stale : Bool) : State :=
  longQueue n (onVas (fun va => { va with softLive := { sent := sent, stale := stale } })
    (onPdu (fun u => { u with soft := { u.soft with lift := x } }) (holding tone none run)))

theorem test_witness_softLevels :
    (∃ s : State, s.roles.tone = none ∧ s.vas.softLive.sent + s.cst.user.working.dampStep = s.pdu.soft.lift)
      ∧ (∃ s : State, s.roles.tone = some .a ∧ s.pdu.soft.lift = s.vas.softLive.sent + s.cst.user.working.dampStep - 1
          ∧ 0 < s.pdu.soft.lift ∧ s.pdu.soft.lift < 255 ∧ s.vas.softLive.stale = false)
      ∧ (∃ s : State, s.roles.tone = some .a ∧ s.vas.softLive.sent + s.cst.user.working.dampStep = s.pdu.soft.lift ∧ s.vas.queue.length = 39)
      ∧ (∃ s : State, s.roles.tone = some .a ∧ s.pdu.soft.lift = 0 ∧ s.vas.softLive.sent = 1 ∧ s.vas.queue.length = 47)
      ∧ (∃ s : State, s.roles.tone = some .a ∧ s.vas.softLive.stale = true ∧ s.vas.queue.length = 48)
      ∧ (∃ s : State, s.pdu.soft.lift = s.vas.softLive.sent) ∧ (∃ x, ∃ s : State, x ≠ s.pdu.soft.lift ∧ x ≠ s.ply.soft) :=
  ⟨⟨softening none (9 + run.cst.user.working.dampStep) 9 0 false, by decide +kernel⟩,
    ⟨softening (some .a) (8 + run.cst.user.working.dampStep) 9 0 false, by decide +kernel⟩,
    ⟨softening (some .a) (9 + run.cst.user.working.dampStep) 9 39 false, by decide +kernel⟩,
    ⟨softening (some .a) 0 1 47 false, by decide +kernel⟩, ⟨softening (some .a) 9 9 48 true, by decide +kernel⟩,
    ⟨softening none 9 9 0 false, by decide +kernel⟩, ⟨7, run, by decide +kernel⟩⟩

theorem test_witness_claimTone :
    ∃ (l : Link) (args : List Byte) (s : State), Heads l kClaimRole args s ∧ 1 ≤ args.length ∧ byteAt args 0 = 0 ∧ s.roles.tone = none
      ∧ s.pdu.soft.lift ≠ s.vas.softLive.sent ∧ s.ply.soft ≠ s.vas.softPlay.sent ∧ s.vas.queue.length = 47 :=
  ⟨.b, [0], asked .b kClaimRole [0] (onPly (fun p => { p with soft := 8 }) (softening none 9 0 47 false)), by decide +kernel⟩

/-- 05, R96: with 48 orders waiting the order is dropped with soft-stale set, and the next change goes out whatever its step. -/
theorem test_soft_dropped_then_sent :
    let s := setPedalLift .soft 40 (softening (some .a) 9 9 48 false)
    let t := setPedalLift .soft 41 (longQueue 2 s)
    s.vas.softLive = { sent := 9, stale := true } ∧ s.vas.queue.length = 48
      ∧ t.vas.softLive = { sent := 41, stale := false } ∧ t.vas.queue.drop 2 = [.soft .live 41] := by decide +kernel

/-- Pedal records at 0 ms, a damper value above 255 among them, before `tune`'s strike, and one more at its release. -/
def pedalled : List TakeRec :=
  [{ kind := .damper, key := 0, value := 300, delta := 0 }, { kind := .sostenuto, key := 0, value := 1, delta := 0 },
    { kind := .soft, key := 0, value := 77, delta := 0 }] ++ tune ++ [{ kind := .damper, key := 0, value := 5, delta := 0 }]

/-- The player on take 0 of `pedalled` at a position. -/
def pedalling (position : Nat) : State :=
  onPly (fun p => { p with session := some { take := 0, cursor := 0, position := position, mode := .waiting } }) (closedTake 0 pedalled run)

theorem test_witness_loopSnapshot :
    (∃ (l : Link) (args : List Byte) (ss : Session) (s : State), Heads l kSetLoop args s ∧ 8 ≤ args.length ∧ s.ply.session = some ss
        ∧ word32At args 0 + 1 = word32At args 4 ∧ word32At args 4 = (s.take ss.take).duration ∧ word32At args 4 = ss.position)
      ∧ (∃ (l : Link) (args : List Byte) (ss : Session) (s : State), Heads l kSetLoop args s ∧ 8 ≤ args.length ∧ s.ply.session = some ss
        ∧ word32At args 0 < word32At args 4 ∧ word32At args 4 ≤ (s.take ss.take).duration ∧ word32At args 4 + 1 = ss.position) :=
  ⟨⟨.a, [29, 0, 0, 0, 30, 0, 0, 0], ⟨0, 0, 30, .waiting⟩, asked .a kSetLoop [29, 0, 0, 0, 30, 0, 0, 0] (pedalling 30), by decide +kernel⟩,
    ⟨.a, [0, 0, 0, 0, 29, 0, 0, 0], ⟨0, 0, 30, .waiting⟩, asked .a kSetLoop [0, 0, 0, 0, 29, 0, 0, 0] (pedalling 30), by decide +kernel⟩⟩

/-- 08, R153 and R147: the snapshot of a loop start of 30 ms has the records below it, 300 read as 255; a start of 0 has none. -/
theorem test_loop_snapshot :
    (after (exec (.setLoop .a) (asked .a kSetLoop [29, 0, 0, 0, 30, 0, 0, 0] (pedalling 30)))).ply.loop
        = some { start := 29, stop := 30, damper := 255, sostOn := true, soft := 77 }
      ∧ (after (exec (.setLoop .a) (asked .a kSetLoop [0, 0, 0, 0, 30, 0, 0, 0] (pedalling 30)))).ply.loop
        = some { start := 0, stop := 30, damper := 0, sostOn := false, soft := 0 } := by decide +kernel

theorem test_witness_takePlayFrom :
    (∃ (l : Link) (args : List Byte) (n : TakeNo) (s : State), Heads l kTakePlay args s ∧ 7 ≤ args.length ∧ byteAt args 0 = n.val
        ∧ (s.take n).state = .closed ∧ bitOf args 1 1 = true ∧ word32At args 3 = (s.take n).duration ∧ s.ply.session ≠ none)
      ∧ (∃ (l : Link) (args : List Byte) (n : TakeNo) (s : State), Heads l kTakePlay args s ∧ 7 ≤ args.length ∧ byteAt args 0 = n.val
        ∧ (s.take n).state = .closed ∧ bitOf args 1 1 = false ∧ s.ply.session = none) :=
  ⟨⟨.a, [0, 2, 0, 30, 0, 0, 0], 0, asked .a kTakePlay [0, 2, 0, 30, 0, 0, 0] (pedalling 4), by decide +kernel⟩,
    ⟨.b, [3, 0, 0, 9, 9, 9, 9], 3, asked .b kTakePlay [3, 0, 0, 9, 9, 9, 9] (closedTake 3 pedalled run), by decide +kernel⟩⟩

theorem test_witness_firstSamples : (∃ p : Pedal, p = .sostenuto) ∧ ∃ p : Pedal, p ≠ .sostenuto :=
  ⟨⟨_, rfl⟩, .soft, by decide⟩

/-- 03, R59: a soft pedal found held down at its first sample makes no event, and its lift reaches the tone link. -/
theorem test_first_pedal_sample :
    let t := pedalSample .soft 50 true 1023 (holding (some .a) none run)
    t.pdu.soft.reported = 255 ∧ t.ajn = run.ajn ∧ t.vas.queue = [.soft .live 255] := by decide +kernel

end Sys2Proof.Tests
end

section
namespace Sys2Proof.Machine

variable {s t u : State}

/-! ## Channel health and the raw range (R16 to R18) -/

theorem rawOk_iff {raw : Nat} : rawOk raw = true ↔ 40 ≤ raw ∧ raw ≤ 4055 := by
  simp [rawOk]

/-- A HEALTHY channel passes an in-range value on and clears its run (R15, R17). -/
theorem channelTest_healthy_in {ch : ChannelRec} {raw : Nat} (hf : ch.failed = false) (hr : 40 ≤ raw ∧ raw ≤ 4055) :
    channelTest ch raw =
      { record := { ch with lastRaw := some raw, outRun := 0, delivered := true }, passes := true, first := !ch.delivered } := by
  simp [channelTest, hf, rawOk_iff.mpr hr]

/-- Short of the 32nd in a row an out-of-range value of a HEALTHY channel only adds to the run (R17). -/
theorem channelTest_healthy_out {ch : ChannelRec} {raw : Nat} (hf : ch.failed = false) (hr : ¬(40 ≤ raw ∧ raw ≤ 4055))
    (hn : ch.outRun + 1 < 32) :
    channelTest ch raw = { record := { ch with lastRaw := some raw, outRun := ch.outRun + 1 } } := by
  have hok : rawOk raw = false := Bool.eq_false_iff.mpr (mt rawOk_iff.mp hr)
  simp [channelTest, hf, hok, Nat.not_le.mpr hn]

/-- The 32nd out-of-range value in a row fails a HEALTHY channel (R17). -/
theorem channelTest_fails {ch : ChannelRec} {raw : Nat} (hf : ch.failed = false) (hr : ¬(40 ≤ raw ∧ raw ≤ 4055))
    (hn : 32 ≤ ch.outRun + 1) :
    channelTest ch raw =
      { record := { ch with lastRaw := some raw, failed := true, outRun := 32, inRun := 0 }, fails := true } := by
  have hok : rawOk raw = false := Bool.eq_false_iff.mpr (mt rawOk_iff.mp hr)
  simp only [channelTest, hf, hok, if_pos hn, Bool.false_eq_true, if_false]

/-- An out-of-range value of a FAILED channel ends its run of values in range (R18). -/
theorem channelTest_failed_out {ch : ChannelRec} {raw : Nat} (hf : ch.failed = true) (hr : ¬(40 ≤ raw ∧ raw ≤ 4055)) :
    channelTest ch raw = { record := { ch with lastRaw := some raw, inRun := 0 } } := by
  have hok : rawOk raw = false := Bool.eq_false_iff.mpr (mt rawOk_iff.mp hr)
  simp [channelTest, hf, hok]

/-- Short of the 1,024th in a row an in-range value of a FAILED channel only adds to the run (R18). -/
theorem channelTest_failed_in {ch : ChannelRec} {raw : Nat} (hf : ch.failed = true) (hr : 40 ≤ raw ∧ raw ≤ 4055)
    (hn : ch.inRun + 1 < 1024) :
    channelTest ch raw = { record := { ch with lastRaw := some raw, inRun := ch.inRun + 1 } } := by
  simp [channelTest, hf, rawOk_iff.mpr hr, Nat.not_le.mpr hn]

/-- The 1,024th in-range value in a row recovers a FAILED channel (R18). -/
theorem channelTest_recovers {ch : ChannelRec} {raw : Nat} (hf : ch.failed = true) (hr : 40 ≤ raw ∧ raw ≤ 4055)
    (hn : 1024 ≤ ch.inRun + 1) :
    channelTest ch raw =
      { record := { ch with lastRaw := some raw, failed := false, outRun := 0, inRun := 1024, delivered := true }
        recovers := true, passes := true, first := !ch.delivered } := by
  simp only [channelTest, hf, rawOk_iff.mpr hr, if_pos hn, if_true]

/-- Settles O54: the run of a HEALTHY channel, at every boundary of the range and of the run. -/
theorem rangeTestOnHealthyChannel : Obligations.RangeTestOnHealthyChannel := by
  intro ch raw hf hrun
  constructor
  · intro hout
    have hr : ¬(40 ≤ raw ∧ raw ≤ 4055) := by omega
    by_cases hn : ch.outRun + 1 < 32
    · rw [channelTest_healthy_out hf hr hn]
      exact ⟨rfl, rfl⟩
    · rw [channelTest_fails hf hr (by omega)]
      exact ⟨by dsimp only; omega, rfl⟩
  · intro hlo hhi
    rw [channelTest_healthy_in hf ⟨hlo, hhi⟩]
    exact ⟨rfl, rfl, hf⟩

/-! ## The reset values -/

/-- Settles O4: each block's initial value read off field by field. -/
theorem resetValues : Obligations.ResetValues := by
  unfold Obligations.ResetValues
  dsimp only
  have hkey : ∀ k, State.reset.key k = {} := fun k => by simp [State.reset, State.key]
  have hlink : ∀ l, State.reset.link l = {} := fun l => by cases l <;> rfl
  have hentry : ∀ i, LinkState.entry {} i = {} := fun i => by simp [LinkState.entry]
  have hpedal : ∀ p, State.reset.pdu.get p = {} := fun p => by cases p <;> rfl
  simp only [hkey, hlink, hentry, hpedal]
  simp [State.reset, Sfe.initial, Vas.initial, Rlc.initial, Tks.initial, Cst.initial, RegionState.initial,
    State.slot, State.take, KeySet.empty, muxSelect, ghaActive, ghbActive, target, Demand.target, Demand.any, defaultLayers]

/-! ## Windows, depth streams and scan lists on a link -/

theorem exec_setWindow {l : Link} {args : List Byte} (h : headRequest l s = some (kSetWindow, args)) :
    exec (.setWindow l) s = .next (putReply l kSetWindow
      (setWindowEffect l args (popRequest l s)).2 (setWindowEffect l args (popRequest l s)).1) :=
  congrArg Host.Outcome.next (serve_taken _ h)

theorem exec_depthStream {l : Link} {args : List Byte} (h : headRequest l s = some (kDepthStream, args)) :
    exec (.depthStream l) s = .next (putReply l kDepthStream
      (depthStreamEffect l args (popRequest l s)).2 (depthStreamEffect l args (popRequest l s)).1) :=
  congrArg Host.Outcome.next (serve_taken _ h)

theorem exec_setScanList {l : Link} {args : List Byte} (h : headRequest l s = some (kSetScanList, args)) :
    exec (.setScanList l) s = .next (putReply l kSetScanList
      (setScanListEffect args (popRequest l s)).2 (setScanListEffect args (popRequest l s)).1) :=
  congrArg Host.Outcome.next (serve_taken _ h)

/-- The first base set, both answered (R169). -/
theorem setWindowEffect_zero {l : Link} {args : List Byte} (hn : 2 ≤ args.length) (h0 : byteAt args 0 = 0) :
    setWindowEffect l args s =
      done (onLink l (fun ls => { ls with base0 := clampBase (byteAt args 1) }) s)
        [byteOf (clampBase (byteAt args 1)).val, byteOf (s.link l).base1.val] := by
  simp [setWindowEffect, needs_enough _ hn, h0]

/-- The second base set, both answered (R169). -/
theorem setWindowEffect_one {l : Link} {args : List Byte} (hn : 2 ≤ args.length) (h1 : byteAt args 0 = 1) :
    setWindowEffect l args s =
      done (onLink l (fun ls => { ls with base1 := clampBase (byteAt args 1) }) s)
        [byteOf (s.link l).base0.val, byteOf (clampBase (byteAt args 1)).val] := by
  simp [setWindowEffect, needs_enough _ hn, h1]

/-- A depth stream turned off, or on under the limit of 64 (R170). -/
theorem depthStreamEffect_done {l : Link} {args : List Byte} (hn : 1 ≤ args.length)
    (h : byteAt args 0 = 0 ∨ (s.link l).limit = .b64) :
    depthStreamEffect l args s =
      done (onLink l (fun ls => { ls with depthPeriod := min (byteAt args 0) 64, depthCount := 0, depthNumber := 0 }) s)
        [byteOf (min (byteAt args 0) 64)] := by
  have hgo : ¬(min (byteAt args 0) 64 ≠ 0 ∧ (s.link l).limit ≠ .b64) := by
    rintro ⟨hp, hl⟩
    exact h.elim (fun h0 => hp (by simp [h0])) hl
  simp only [depthStreamEffect, needs_enough _ hn, if_neg hgo]

/-- A depth stream turned on under a lower limit is refused (R170). -/
theorem depthStreamEffect_state {l : Link} {args : List Byte} (hn : 1 ≤ args.length)
    (h0 : byteAt args 0 ≠ 0) (hl : (s.link l).limit ≠ .b64) : depthStreamEffect l args s = refuse .state s := by
  have hgo : min (byteAt args 0) 64 ≠ 0 ∧ (s.link l).limit ≠ .b64 := ⟨by omega, hl⟩
  simp only [depthStreamEffect, needs_enough _ hn, if_pos hgo]

/-- An acceptable list of entries is written into the staging list, which the apply bit makes the pending one (R6). -/
theorem setScanListEffect_done {args : List Byte} {first : Fin 64} {es : List ScanEntry} (hn : 1 ≤ byteAt args 1)
    (h24 : byteAt args 1 ≤ 24) (h64 : byteAt args 0 + byteAt args 1 ≤ 64) (hlen : 4 + 2 * byteAt args 1 ≤ args.length)
    (hfirst : byteAt args 2 = first.val) (hes : scanEntriesAt args 4 (byteAt args 1) = some es) :
    setScanListEffect args s =
      let list : ScanList := { entries := writeEntries s.sfe.staging.entries (byteAt args 0) es, first := first }
      done (onSfe (fun f =>
        { f with staging := list, pendingList := if bitOf args 3 0 then some list else f.pendingList }) s) := by
  have hgo : ¬(byteAt args 1 = 0 ∨ 24 < byteAt args 1 ∨ 64 < byteAt args 0 + byteAt args 1
      ∨ args.length < 4 + 2 * byteAt args 1) := by omega
  have hfin : finOf 64 (byteAt args 2) = some first := by simp [finOf, hfirst]
  simp only [setScanListEffect, needs_enough _ (show 4 ≤ args.length by omega), if_neg hgo, hfin, hes]

/-- Settles O24: each request's effect, taken at the head of its link's buffer. -/
theorem windowsStreamsAndScanListsSet : Obligations.WindowsStreamsAndScanListsSet := by
  intro l args s
  refine ⟨fun h hn h0 => ⟨clampBase (byteAt args 1), rfl, ?_⟩, fun h hn h1 => ⟨clampBase (byteAt args 1), rfl, ?_⟩,
    fun h hn hoff => ?_, fun h hn hon hl => ?_, fun first es h hn h24 h64 hlen hfirst hes => ?_⟩
  · rw [exec_setWindow h, setWindowEffect_zero hn h0, popRequest_link]
    rfl
  · rw [exec_setWindow h, setWindowEffect_one hn h1, popRequest_link]
    rfl
  · rw [exec_depthStream h, depthStreamEffect_done hn (by simpa using hoff)]
    rfl
  · rw [exec_depthStream h, depthStreamEffect_state hn hon (by simpa using hl)]
    rfl
  · rw [exec_setScanList h, setScanListEffect_done hn h24 h64 hlen hfirst hes]
    exact ⟨_, rfl, fun i => by simp [writeEntries], rfl⟩

/-! ## Events that are no strike -/

/-- The voice assigner assigns voices for strikes only (R80). -/
theorem voiceEvent_of_not_strike {e : Event} (h : ¬(e.kind = .strike ∨ e.kind = .restrike)) : voiceEvent e s = s := by
  simp [voiceEvent, h]

/-- The player takes strikes only (R158). -/
theorem playerEvent_of_not_strike {e : Event} (h : ¬(e.kind = .strike ∨ e.kind = .restrike)) : playerEvent e s = s := by
  simp [playerEvent, h]

/-- An event that is no strike reaches the journal and the recorder, and what those report (R49). -/
theorem pedalEvent_of_not_strike {e : Event} (h : ¬(e.kind = .strike ∨ e.kind = .restrike)) :
    ∃ tks links faults, pedalEvent e s = { s with ajn := s.ajn.push e, tks := tks, links := links, faults := faults } := by
  obtain ⟨tks, links, faults, hrec⟩ := recorderEvent_only (s := appendEvent e s) e
  refine ⟨tks, links, faults, ?_⟩
  rw [pedalEvent, voiceEvent_of_not_strike h, hrec]
  rfl

/-- As `pedalEvent_of_not_strike`, for the tracker's events (R22). -/
theorem trackerEvent_of_not_strike {e : Event} (h : ¬(e.kind = .strike ∨ e.kind = .restrike)) :
    ∃ tks links faults, trackerEvent e s = { s with ajn := s.ajn.push e, tks := tks, links := links, faults := faults } := by
  obtain ⟨tks, links, faults, hp⟩ := pedalEvent_of_not_strike (s := s) h
  exact ⟨tks, links, faults, by rw [trackerEvent, playerEvent_of_not_strike h, ← pedalEvent, hp]⟩

/-! ## The pedal records -/

@[simp] theorem Pdu.get_modify_same (u : Pdu) (p : Pedal) (f : PedalRec → PedalRec) : (u.modify p f).get p = f (u.get p) := by
  cases p <;> rfl

theorem Pdu.get_modify_ne (u : Pdu) {p q : Pedal} (f : PedalRec → PedalRec) (h : q ≠ p) : (u.modify p f).get q = u.get q := by
  revert h
  cases p <;> cases q <;> simp [Pdu.get, Pdu.modify]

@[simp] theorem Pdu.modify_sostOn (u : Pdu) (p : Pedal) (f : PedalRec → PedalRec) : (u.modify p f).sostOn = u.sostOn := by
  cases p <;> rfl

@[simp] theorem Pdu.modify_sostSet (u : Pdu) (p : Pedal) (f : PedalRec → PedalRec) : (u.modify p f).sostSet = u.sostSet := by
  cases p <;> rfl

@[simp] theorem Pdu.modify_modify (u : Pdu) (p : Pedal) (f g : PedalRec → PedalRec) :
    (u.modify p f).modify p g = u.modify p (fun r => g (f r)) := by
  cases p <;> rfl

/-- A pedal's event is no strike. -/
theorem Pedal.kind_not_strike (p : Pedal) : ¬(p.kind = .strike ∨ p.kind = .restrike) := by
  cases p <;> simp [Pedal.kind]

/-! ## What the pedal unit's operations make of the part -/

/-- A lift set reaches the voice assigner and nothing else besides its record (R48). -/
theorem setPedalLift_eq (p : Pedal) (x : Nat) :
    ∃ vas links faults, setPedalLift p x s =
      { s with pdu := s.pdu.modify p (fun r => { r with lift := x }), vas := vas, links := links, faults := faults } := by
  have hv : VoiceOnly (onPdu (fun u => u.modify p fun r => { r with lift := x }) s) (setPedalLift p x s) := by
    unfold setPedalLift
    dsimp only
    split
    · exact .refl
    · cases p with
      | damper => exact recomputeWhere_only _
      | sostenuto => exact .refl
      | soft => exact softChanged_only _
  exact hv

/-- A new sostenuto set reaches the voice assigner and nothing else besides the set (R50). -/
theorem setSostSet_eq (S : KeySet) :
    ∃ vas links faults, setSostSet S s =
      { s with pdu := { s.pdu with sostSet := S }, vas := vas, links := links, faults := faults } := by
  have hv : VoiceOnly (onPdu (fun u => { u with sostSet := S }) s) (setSostSet S s) := by
    unfold setSostSet
    dsimp only
    split
    · exact .refl
    · exact recomputeWhere_only _
  exact hv

/-- A report makes one event and keeps its value (R49). -/
theorem reportPedal_eq (p : Pedal) (x : Nat) (time : Clock) :
    ∃ tks links faults, reportPedal p x time s =
      { s with
        pdu := s.pdu.modify p (fun r => { r with reported := x })
        ajn := s.ajn.push { time := time, kind := p.kind, source := .live, key := none, value := x }
        tks := tks, links := links, faults := faults } :=
  pedalEvent_of_not_strike p.kind_not_strike

/-- The sostenuto pedal goes ON with the keys that are not UP joining its set (R52). -/
theorem sostenutoOn_eq (time : Clock) :
    ∃ vas tks links faults, sostenutoOn time s =
      { s with
        pdu := { s.pdu with
          sostOn := true
          sostenuto := { s.pdu.sostenuto with lift := 255 }
          sostSet := s.pdu.sostSet.union (downKeys s) }
        ajn := s.ajn.push
          (sostEvent 1 (KeySet.ofPred fun k => (downKeys s).has k && !s.pdu.sostSet.has k).size time)
        vas := vas, tks := tks, links := links, faults := faults } := by
  obtain ⟨vas, _, _, hset⟩ := setSostSet_eq (s.pdu.sostSet.union (downKeys s))
    (s := onPdu (fun u => { u with sostOn := true, sostenuto := { u.sostenuto with lift := 255 } }) s)
  obtain ⟨tks, links, faults, hev⟩ := pedalEvent_of_not_strike (s := setSostSet _ _)
    (e := sostEvent 1 (KeySet.ofPred fun k => (downKeys s).has k && !s.pdu.sostSet.has k).size time) (by simp [sostEvent])
  refine ⟨vas, tks, links, faults, ?_⟩
  rw [sostenutoOn, hev, hset]
  rfl

/-- The sostenuto pedal goes OFF with its set emptied (R53). -/
theorem sostenutoOff_eq (time : Clock) :
    ∃ vas tks links faults, sostenutoOff time s =
      { s with
        pdu := { s.pdu with
          sostOn := false
          sostenuto := { s.pdu.sostenuto with lift := 0 }
          sostSet := KeySet.empty }
        ajn := s.ajn.push (sostEvent 0 s.pdu.sostSet.size time)
        vas := vas, tks := tks, links := links, faults := faults } := by
  obtain ⟨vas, _, _, hset⟩ := setSostSet_eq KeySet.empty
    (s := onPdu (fun u => { u with sostOn := false, sostenuto := { u.sostenuto with lift := 0 } }) s)
  obtain ⟨tks, links, faults, hev⟩ := pedalEvent_of_not_strike (s := setSostSet _ _)
    (e := sostEvent 0 s.pdu.sostSet.size time) (by simp [sostEvent])
  refine ⟨vas, tks, links, faults, ?_⟩
  rw [sostenutoOff, hev, hset]
  rfl

/-! ## Fault flags -/

theorem FaultKind.bit_getLsbD (k : FaultKind) (i : Nat) :
    k.bit.getLsbD i = (decide (i < 16) && decide (k.code - 1 = i)) := by
  rw [FaultKind.bit, BitVec.getLsbD_ofNat, Nat.testBit_two_pow]

/-- A report sets its own flag and keeps the others (R181). -/
theorem reportFault_flag (k : FaultKind) (i : Nat) :
    (reportFault k s).faults.flags.getLsbD i =
      (s.faults.flags.getLsbD i || (decide (i < 16) && decide (k.code - 1 = i))) := by
  simp [reportFault, FaultKind.bit_getLsbD]

/-! ## What a channel test tells its consumer -/

/-- A channel that fails on a conversion passes nothing on (R17). -/
theorem channelTest_fails_alone {ch : ChannelRec} {raw : Nat} (h : (channelTest ch raw).fails = true) :
    (channelTest ch raw).recovers = false ∧ (channelTest ch raw).passes = false := by
  unfold channelTest at h ⊢
  dsimp only at h ⊢
  split_ifs at h ⊢
  all_goals simp_all

/-- A channel that recovers on a conversion passes it on (R18). -/
theorem channelTest_recovers_passes {ch : ChannelRec} {raw : Nat} (h : (channelTest ch raw).recovers = true) :
    (channelTest ch raw).fails = false ∧ (channelTest ch raw).passes = true := by
  unfold channelTest at h ⊢
  dsimp only at h ⊢
  split_ifs at h ⊢
  all_goals simp_all

/-! ## Pedal samples -/

/-- The difference that a report is made for, without the absolute value (R49). -/
theorem reportCalled_iff {step x reported : Nat} :
    reportCalled step x reported = true ↔
      step ≤ x - reported ∨ step ≤ reported - x ∨ ((x = 0 ∨ x = 255) ∧ x ≠ reported) := by
  simp only [reportCalled, Bool.or_eq_true, Bool.and_eq_true, decide_eq_true_eq]
  omega

/-- A sample of DAMPER or SOFT: depth, lift, and a report where one is called for (R47 to R49, R59). -/
theorem pedalSample_of_ne {p : Pedal} (hp : p ≠ .sostenuto) (time : Clock) (first : Bool) (d : Nat) :
    pedalSample p time first d s =
      let x := pedalLiftOf s.cst.user.working.pedals p d
      let t := setPedalLift p x (setPedalDepth p d s)
      if first then onPdu (fun u => u.modify p fun r => { r with reported := x }) t
      else if reportCalled s.cst.user.working.pedals.step x (s.pdu.get p).reported then reportPedal p x time t
      else t := by
  obtain ⟨_, _, _, hl⟩ := setPedalLift_eq (s := setPedalDepth p d s) p (pedalLiftOf s.cst.user.working.pedals p d)
  have hrep : ((setPedalLift p (pedalLiftOf s.cst.user.working.pedals p d) (setPedalDepth p d s)).pdu.get p).reported
      = (s.pdu.get p).reported := by
    rw [hl]
    simp [setPedalDepth]
  dsimp only
  rw [← hrep]
  cases p with
  | sostenuto => exact absurd rfl hp
  | damper => rfl
  | soft => rfl

/-- A sample that calls for a report makes one event with the new lift (R49). -/
theorem pedalSample_called {p : Pedal} (hp : p ≠ .sostenuto) (time : Clock) (d : Nat)
    (hc : reportCalled s.cst.user.working.pedals.step (pedalLiftOf s.cst.user.working.pedals p d)
      (s.pdu.get p).reported = true) :
    ∃ vas tks links faults, pedalSample p time false d s =
      let x := pedalLiftOf s.cst.user.working.pedals p d
      { s with
        pdu := s.pdu.modify p (fun r => { r with depth := d, lift := x, reported := x })
        ajn := s.ajn.push { time := time, kind := p.kind, source := .live, key := none, value := x }
        vas := vas, tks := tks, links := links, faults := faults } := by
  obtain ⟨vas, _, _, hl⟩ := setPedalLift_eq (s := setPedalDepth p d s) p (pedalLiftOf s.cst.user.working.pedals p d)
  obtain ⟨tks, links, faults, hr⟩ := reportPedal_eq (s := setPedalLift p (pedalLiftOf s.cst.user.working.pedals p d)
    (setPedalDepth p d s)) p (pedalLiftOf s.cst.user.working.pedals p d) time
  refine ⟨vas, tks, links, faults, ?_⟩
  rw [pedalSample_of_ne hp]
  simp only [hc, Bool.false_eq_true, if_false, if_true]
  rw [hr, hl]
  simp [setPedalDepth, onPdu]

/-- A sample that calls for none sets depth and lift alone (R47, R48). -/
theorem pedalSample_uncalled {p : Pedal} (hp : p ≠ .sostenuto) (time : Clock) (d : Nat)
    (hc : reportCalled s.cst.user.working.pedals.step (pedalLiftOf s.cst.user.working.pedals p d)
      (s.pdu.get p).reported = false) :
    ∃ vas links faults, pedalSample p time false d s =
      { s with
        pdu := s.pdu.modify p (fun r => { r with depth := d, lift := pedalLiftOf s.cst.user.working.pedals p d })
        vas := vas, links := links, faults := faults } := by
  obtain ⟨vas, links, faults, hl⟩ :=
    setPedalLift_eq (s := setPedalDepth p d s) p (pedalLiftOf s.cst.user.working.pedals p d)
  refine ⟨vas, links, faults, ?_⟩
  rw [pedalSample_of_ne hp]
  simp only [hc, Bool.false_eq_true, if_false]
  rw [hl]
  simp [setPedalDepth, onPdu]

/-- The first sample of DAMPER or SOFT sets the last reported lift too and makes no event (R59). -/
theorem pedalSample_first {p : Pedal} (hp : p ≠ .sostenuto) (time : Clock) (d : Nat) :
    ∃ vas links faults, pedalSample p time true d s =
      let x := pedalLiftOf s.cst.user.working.pedals p d
      { s with
        pdu := s.pdu.modify p (fun r => { r with depth := d, lift := x, reported := x })
        vas := vas, links := links, faults := faults } := by
  obtain ⟨vas, links, faults, hl⟩ :=
    setPedalLift_eq (s := setPedalDepth p d s) p (pedalLiftOf s.cst.user.working.pedals p d)
  refine ⟨vas, links, faults, ?_⟩
  rw [pedalSample_of_ne hp]
  simp only [if_true]
  rw [hl]
  simp [setPedalDepth, onPdu]

/-- A sample of DAMPER or SOFT reaches the voice assigner by its lift alone (R48, R56). -/
theorem pedalSample_vas {p : Pedal} (hp : p ≠ .sostenuto) (time : Clock) (first : Bool) (d : Nat) :
    (pedalSample p time first d s).vas =
      (setPedalLift p (pedalLiftOf s.cst.user.working.pedals p d) (setPedalDepth p d s)).vas := by
  rw [pedalSample_of_ne hp]
  dsimp only
  split_ifs
  · rfl
  · obtain ⟨_, _, _, hr⟩ := reportPedal_eq (s := setPedalLift p (pedalLiftOf s.cst.user.working.pedals p d)
      (setPedalDepth p d s)) p (pedalLiftOf s.cst.user.working.pedals p d) time
    rw [hr]
  · rfl

/-! ## The sostenuto pedal (R51 to R53) -/

theorem sostenutoTest_on {time : Clock} {d : Nat} (ho : s.pdu.sostOn = false) (hd : s.cst.user.working.pedals.sostOnAt ≤ d) :
    sostenutoTest time d s = sostenutoOn time s := by
  simp [sostenutoTest, ho, hd]

theorem sostenutoTest_off {time : Clock} {d : Nat} (ho : s.pdu.sostOn = true)
    (hd : d < min s.cst.user.working.pedals.sostOffAt s.cst.user.working.pedals.sostOnAt) :
    sostenutoTest time d s = sostenutoOff time s := by
  simp only [sostenutoTest, ho, if_true, if_pos hd]

theorem sostenutoTest_stays {time : Clock} {d : Nat}
    (h : s.pdu.sostOn = true ∧ min s.cst.user.working.pedals.sostOffAt s.cst.user.working.pedals.sostOnAt ≤ d
      ∨ s.pdu.sostOn = false ∧ d < s.cst.user.working.pedals.sostOnAt) :
    sostenutoTest time d s = s := by
  rcases h with ⟨ho, hd⟩ | ⟨ho, hd⟩
  · simp only [sostenutoTest, ho, if_true, if_neg (Nat.not_lt.mpr hd)]
  · simp [sostenutoTest, ho, Nat.not_le.mpr hd]

/-- The keys captured are those that are not UP (R52). -/
theorem downKeys_has (k : Key) : (downKeys s).has k = true ↔ (s.key k).state ≠ .up := by
  simp [downKeys, KeySet.has, KeySet.ofPred]

/-- What joins an empty set is the whole capture. -/
theorem KeySet.union_empty_eq (S : KeySet) : KeySet.empty.union S = S := by
  ext i hi
  simp [KeySet.union, KeySet.ofPred, KeySet.has, KeySet.empty]

/-- The keys captured that an empty set did not hold are the whole capture. -/
theorem KeySet.added_to_empty (S : KeySet) : (KeySet.ofPred fun k => S.has k && !KeySet.empty.has k) = S := by
  ext i hi
  simp [KeySet.ofPred, KeySet.has, KeySet.empty]

/-! ## Failure of a pedal channel (R57) -/

theorem pedalChannelFailed_of_ne {p : Pedal} (hp : p ≠ .sostenuto) (time : Clock) :
    pedalChannelFailed p time s =
      let t := setPedalLift p 0 (onPdu (fun u => u.modify p fun r => { r with failed := true }) s)
      raiseAll .pedalFail (reportFault .pedalFail (if (s.pdu.get p).reported ≠ 0 then reportPedal p 0 time t else t)) := by
  obtain ⟨_, _, _, hl⟩ := setPedalLift_eq (s := onPdu (fun u => u.modify p fun r => { r with failed := true }) s) p 0
  have hrep : ((setPedalLift p 0 (onPdu (fun u => u.modify p fun r => { r with failed := true }) s)).pdu.get p).reported
      = (s.pdu.get p).reported := by
    rw [hl]
    simp
  dsimp only
  rw [← hrep]
  cases p with
  | sostenuto => exact absurd rfl hp
  | damper => rfl
  | soft => rfl

/-- A failing pedal channel sets PEDAL_FAIL (R57). -/
theorem pedalChannelFailed_flag (p : Pedal) (time : Clock) :
    (pedalChannelFailed p time s).faults.flags.getLsbD 3 = true := by
  have hflag : ∀ t : State, (raiseAll .pedalFail (reportFault .pedalFail t)).faults.flags.getLsbD 3 = true := fun t => by
    simp [reportFault_flag, FaultKind.code]
  exact hflag _

/-- A failing DAMPER or SOFT channel takes its lift to 0, with an event where another lift was reported (R57). -/
theorem pedalChannelFailed_eq {p : Pedal} (hp : p ≠ .sostenuto) (time : Clock) :
    ∃ vas tks links faults, pedalChannelFailed p time s =
      { s with
        pdu := s.pdu.modify p (fun r => { r with failed := true, lift := 0, reported := 0 })
        ajn := if (s.pdu.get p).reported ≠ 0 then
            s.ajn.push { time := time, kind := p.kind, source := .live, key := none, value := 0 }
          else s.ajn
        vas := vas, tks := tks, links := links, faults := faults } := by
  have hout : ∀ t : State, ReportOnly t (raiseAll .pedalFail (reportFault .pedalFail t)) := fun t =>
    (reportFault_only _).trans (raiseAll_only _).report
  obtain ⟨vas, _, _, hl⟩ := setPedalLift_eq (s := onPdu (fun u => u.modify p fun r => { r with failed := true }) s) p 0
  rw [pedalChannelFailed_of_ne hp]
  dsimp only
  by_cases h0 : (s.pdu.get p).reported ≠ 0
  · rw [if_pos h0, if_pos h0]
    obtain ⟨tks, _, _, hr⟩ := reportPedal_eq
      (s := setPedalLift p 0 (onPdu (fun u => u.modify p fun r => { r with failed := true }) s)) p 0 time
    rw [hr, hl]
    obtain ⟨links, faults, ho⟩ := hout _
    refine ⟨vas, tks, links, faults, ?_⟩
    rw [ho]
    simp
  · rw [if_neg h0, if_neg h0, hl]
    have hpdu : s.pdu.modify p (fun r => { r with failed := true, lift := 0 }) =
        s.pdu.modify p (fun r => { r with failed := true, lift := 0, reported := 0 }) := by
      cases p <;> simp_all [Pdu.modify, Pdu.get]
    obtain ⟨links, faults, ho⟩ := hout _
    refine ⟨vas, s.tks, links, faults, ?_⟩
    rw [ho]
    simp [hpdu]

/-! ## Pedal results of a conversion (R1, R14 to R18) -/

/-- Input `i` of group P is pedal `i` (R1). -/
theorem groupPedal_index {j : Ain} {p : Pedal} (h : j.val = p.index.val) : groupPedal j = some p := by
  obtain rfl : j = p.index.castLE (by decide) := Fin.ext h
  cases p <;> rfl

/-- AIN3 to AIN7 are no pedals (R1). -/
theorem groupPedal_none {j : Ain} (h : 3 ≤ j.val) : groupPedal j = none := by
  revert j
  decide

/-- A conversion hands on a failure, or a recovery with its sample, or a sample, or nothing (R15, R17, R18). -/
theorem convert_order (ch : ChannelRec) (raw : Nat) (failed recovered sample : State → State) (s1 : State) :
    let c := channelTest ch raw
    let s2 := if c.fails then failed s1 else s1
    let s3 := if c.recovers then recovered s2 else s2
    let t := if c.passes then sample s3 else s3
    (c.fails = true → t = failed s1)
      ∧ (c.recovers = true → t = sample (recovered s1))
      ∧ (c.fails = false → c.recovers = false → c.passes = true → t = sample s1)
      ∧ (c.fails = false → c.passes = false → t = s1) := by
  dsimp only
  refine ⟨fun hf => ?_, fun hr => ?_, fun hf hr hp => ?_, fun hf hp => ?_⟩
  · obtain ⟨hr, hp⟩ := channelTest_fails_alone hf
    simp [hf, hr, hp]
  · obtain ⟨hf, hp⟩ := channelTest_recovers_passes hr
    simp [hf, hr, hp]
  · simp [hf, hr, hp]
  · have hr : (channelTest ch raw).recovers = false :=
      Bool.eq_false_iff.mpr fun hc => by simp [(channelTest_recovers_passes hc).2] at hp
    simp [hf, hr, hp]

/-- What a result of group P does (R1). -/
theorem convertResult_pedal {r : AinResult} {p : Pedal} (h : r.ain.val = p.index.val) (time : Clock) :
    convertResult .p time s r = convertPedal p time r.raw s := by
  simp [convertResult, groupPedal_index h]

/-! ## The samples of the pedals (R47 to R59) -/

/-- A sample of DAMPER or SOFT that is not its channel's first. -/
theorem pedalSample_reports {p : Pedal} (hp : p ≠ .sostenuto) (time : Clock) (d : Nat) :
    let pts := s.cst.user.working.pedals
    let r := s.pdu.get p
    let x := pedalLiftOf pts p d
    let called := pts.step ≤ x - r.reported ∨ pts.step ≤ r.reported - x ∨ ((x = 0 ∨ x = 255) ∧ x ≠ r.reported)
    let t := pedalSample p time false d s
    t.pdu.get p = { r with depth := d, lift := x, reported := if called then x else r.reported }
      ∧ t.ajn = (if called then s.ajn.push { time := time, kind := p.kind, source := .live, key := none, value := x } else s.ajn)
      ∧ t.pdu.sostSet = s.pdu.sostSet ∧ t.keys = s.keys ∧ t.ply = s.ply := by
  intro pts r x called t
  by_cases hc : called
  · obtain ⟨_, _, _, _, ht⟩ := pedalSample_called hp time d (reportCalled_iff.mpr hc)
    simp only [t, ht, if_pos hc]
    simp [r, x, pts]
  · obtain ⟨_, _, _, ht⟩ := pedalSample_uncalled hp time d (Bool.eq_false_iff.mpr (mt reportCalled_iff.mp hc))
    simp only [t, ht, if_neg hc]
    simp [r, x, pts]

/-- The sostenuto pedal reaches its on-threshold while its set is empty (R51, R52). -/
theorem pedalSample_sostenuto_on (time : Clock) (d : Nat) (ho : s.pdu.sostOn = false) (hs : s.pdu.sostSet = KeySet.empty)
    (hd : s.cst.user.working.pedals.sostOnAt ≤ d) :
    ∃ vas tks links faults, pedalSample .sostenuto time false d s =
      { s with
        pdu := { s.pdu with
          sostOn := true
          sostenuto := { s.pdu.sostenuto with depth := d, lift := 255 }
          sostSet := downKeys s }
        ajn := s.ajn.push (sostEvent 1 (downKeys s).size time)
        vas := vas, tks := tks, links := links, faults := faults } := by
  obtain ⟨vas, tks, links, faults, h⟩ := sostenutoOn_eq (s := setPedalDepth .sostenuto d s) time
  refine ⟨vas, tks, links, faults, ?_⟩
  have hsample : pedalSample .sostenuto time false d s = sostenutoOn time (setPedalDepth .sostenuto d s) :=
    sostenutoTest_on (s := setPedalDepth .sostenuto d s) ho hd
  have hset : (setPedalDepth .sostenuto d s).pdu.sostSet = KeySet.empty := hs
  rw [hsample, h, hset, KeySet.union_empty_eq, KeySet.added_to_empty]
  rfl

/-- The sostenuto pedal falls below the threshold that turns it OFF (R51, R53). -/
theorem pedalSample_sostenuto_off (time : Clock) (d : Nat) (ho : s.pdu.sostOn = true)
    (hd : d < min s.cst.user.working.pedals.sostOffAt s.cst.user.working.pedals.sostOnAt) :
    ∃ vas tks links faults, pedalSample .sostenuto time false d s =
      { s with
        pdu := { s.pdu with
          sostOn := false
          sostenuto := { s.pdu.sostenuto with depth := d, lift := 0 }
          sostSet := KeySet.empty }
        ajn := s.ajn.push (sostEvent 0 s.pdu.sostSet.size time)
        vas := vas, tks := tks, links := links, faults := faults } := by
  obtain ⟨vas, tks, links, faults, h⟩ := sostenutoOff_eq (s := setPedalDepth .sostenuto d s) time
  refine ⟨vas, tks, links, faults, ?_⟩
  have hsample : pedalSample .sostenuto time false d s = sostenutoOff time (setPedalDepth .sostenuto d s) :=
    sostenutoTest_off (s := setPedalDepth .sostenuto d s) ho hd
  rw [hsample, h]
  rfl

/-- A failing sostenuto channel turns an ON pedal OFF (R57). -/
theorem pedalChannelFailed_sostenuto_on (time : Clock) (ho : s.pdu.sostOn = true) :
    ∃ vas tks links faults, pedalChannelFailed .sostenuto time s =
      { s with
        pdu := { s.pdu with
          sostOn := false
          sostenuto := { s.pdu.sostenuto with failed := true, lift := 0 }
          sostSet := KeySet.empty }
        ajn := s.ajn.push (sostEvent 0 s.pdu.sostSet.size time)
        vas := vas, tks := tks, links := links, faults := faults } := by
  have hoff : pedalChannelFailed .sostenuto time s = raiseAll .pedalFail (reportFault .pedalFail
      (sostenutoOff time (onPdu (fun u => u.modify .sostenuto fun r => { r with failed := true }) s))) := by
    simp [pedalChannelFailed, ho]
  obtain ⟨vas, tks, _, _, h⟩ := sostenutoOff_eq
    (s := onPdu (fun u => u.modify .sostenuto fun r => { r with failed := true }) s) time
  rw [hoff, h]
  exact ⟨vas, tks, _, _, rfl⟩

/-- A failing sostenuto channel leaves an OFF pedal OFF (R57). -/
theorem pedalChannelFailed_sostenuto_off (time : Clock) (ho : s.pdu.sostOn = false) :
    ∃ links faults, pedalChannelFailed .sostenuto time s =
      { s with
        pdu := { s.pdu with sostenuto := { s.pdu.sostenuto with failed := true } }
        links := links, faults := faults } := by
  have hoff : pedalChannelFailed .sostenuto time s = raiseAll .pedalFail (reportFault .pedalFail
      (onPdu (fun u => u.modify .sostenuto fun r => { r with failed := true }) s)) := by
    simp [pedalChannelFailed, ho]
  rw [hoff]
  exact ⟨_, _, rfl⟩

/-- A failing pedal channel touches its own record, and of the part no keys, player, rail or front end (R57). -/
theorem pedalChannelFailed_frame (p : Pedal) (time : Clock) :
    let t := pedalChannelFailed p time s
    t.keys = s.keys ∧ t.ply = s.ply ∧ t.rlc = s.rlc ∧ t.sfe = s.sfe ∧ ∀ q, q ≠ p → t.pdu.get q = s.pdu.get q := by
  intro t
  by_cases hp : p = .sostenuto
  · subst hp
    by_cases ho : s.pdu.sostOn = true
    · obtain ⟨_, _, _, _, ht⟩ := pedalChannelFailed_sostenuto_on time ho
      rw [show t = _ from ht]
      refine ⟨rfl, rfl, rfl, rfl, fun q hq => ?_⟩
      cases q <;> simp_all [Pdu.get]
    · obtain ⟨_, _, ht⟩ := pedalChannelFailed_sostenuto_off time (Bool.eq_false_iff.mpr ho)
      rw [show t = _ from ht]
      refine ⟨rfl, rfl, rfl, rfl, fun q hq => ?_⟩
      cases q <;> simp_all [Pdu.get]
  · obtain ⟨_, _, _, _, ht⟩ := pedalChannelFailed_eq (s := s) hp time
    rw [show t = _ from ht]
    exact ⟨rfl, rfl, rfl, rfl, fun q hq => Pdu.get_modify_ne _ _ hq⟩

/-- A failing DAMPER or SOFT channel reaches the voice assigner by its lift alone (R57). -/
theorem pedalChannelFailed_vas {p : Pedal} (hp : p ≠ .sostenuto) (time : Clock) :
    (pedalChannelFailed p time s).vas =
      (setPedalLift p 0 (onPdu (fun u => u.modify p fun r => { r with failed := true }) s)).vas := by
  rw [pedalChannelFailed_of_ne hp]
  dsimp only
  split_ifs
  · obtain ⟨_, _, _, hr⟩ := reportPedal_eq
      (s := setPedalLift p 0 (onPdu (fun u => u.modify p fun r => { r with failed := true }) s)) p 0 time
    rw [hr]
    rfl
  · rfl

/-- Settles O57: the pedals' samples, failures and recoveries, each by its own lemma above. -/
theorem pedalSamplesFollowed : Obligations.PedalSamplesFollowed := by
  refine ⟨⟨fun time d s => ⟨fun p hp => pedalSample_reports hp time d, fun ho hs hd => ?sostOn, fun ho hd => ?sostOff,
      fun h => ?sostStays⟩, fun p time s => ?failed, fun p s => ?recovered, fun time r s => ?result⟩,
    fun p time d s => ?first, fun p time first d s hp => ?voices⟩
  case sostOn =>
    obtain ⟨_, _, _, _, ht⟩ := pedalSample_sostenuto_on time d ho hs hd
    rw [ht]
    exact ⟨rfl, rfl, downKeys_has, rfl, rfl, rfl⟩
  case sostOff =>
    obtain ⟨_, _, _, _, ht⟩ := pedalSample_sostenuto_off time d ho hd
    rw [ht]
    exact ⟨rfl, rfl, rfl, rfl, rfl, rfl⟩
  case sostStays => exact sostenutoTest_stays (s := setPedalDepth .sostenuto d s) h
  case failed =>
    obtain ⟨hkeys, hply, hrlc, hsfe, hget⟩ := pedalChannelFailed_frame (s := s) p time
    refine ⟨pedalChannelFailed_flag p time, hkeys, hply, hrlc, hsfe, hget, fun hp => ?_, fun hp => ?_⟩
    · obtain ⟨_, _, _, _, ht⟩ := pedalChannelFailed_eq (s := s) hp time
      simp [ht]
    · subst hp
      by_cases ho : s.pdu.sostOn = true
      · obtain ⟨_, _, _, _, ht⟩ := pedalChannelFailed_sostenuto_on time ho
        simp [ht, ho, Pdu.get, sostEvent]
      · obtain ⟨_, _, ht⟩ := pedalChannelFailed_sostenuto_off time (Bool.eq_false_iff.mpr ho)
        simp [ht, ho, Pdu.get]
  case recovered => exact ⟨Pdu.get_modify_same _ _ _, fun q hq => Pdu.get_modify_ne _ _ hq, rfl⟩
  case result =>
    refine ⟨fun h3 => by simp [convertResult, groupPedal_none h3], fun p hp => ?_⟩
    simp only [convertResult_pedal hp]
    exact convert_order _ _ (fun t => pedalChannelFailed p time (reportFault .sensorFail t)) (pedalChannelRecovered p)
      (pedalSample p time _ _) _
  case first =>
    refine ⟨fun hp => by subst hp; rfl, fun hp => ?_⟩
    obtain ⟨_, _, _, ht⟩ := pedalSample_first (s := s) hp time d
    rw [ht]
    exact ⟨Pdu.get_modify_same _ _ _, fun q hq => Pdu.get_modify_ne _ _ hq, Pdu.modify_sostOn _ _ _,
      Pdu.modify_sostSet _ _ _, rfl, rfl, rfl, rfl⟩
  case voices => exact ⟨pedalSample_vas hp time first d, pedalChannelFailed_vas hp time⟩

/-! ## Lifts and levels (R26, R34 to R36, R48) -/

theorem liftOf_le (p1 p2 d : Nat) : liftOf p1 p2 d ≤ 255 := by
  unfold liftOf
  split_ifs
  · omega
  · exact le_rfl
  · exact le_rfl
  · refine Nat.div_le_of_le_mul ?_
    rw [Nat.mul_comm (p2 - p1)]
    calc (d - p1) * 255 = 255 * (d - p1) := Nat.mul_comm _ _
      _ ≤ 255 * (p2 - p1) := Nat.mul_le_mul_left _ (by omega)

theorem liftOf_below {p1 p2 d : Nat} (h : d < p1) : liftOf p1 p2 d = 0 := by
  simp [liftOf, h]

theorem liftOf_full {p1 p2 d : Nat} (h1 : p1 ≤ d) (h2 : p2 ≤ d) : liftOf p1 p2 d = 255 := by
  simp [liftOf, Nat.not_lt.mpr h1, h2]

/-- Between its start and its full depth a lift is the proportional part of 255 (R26). -/
theorem liftOf_between {p1 p2 d : Nat} (h1 : p1 ≤ d) (h2 : d < p2) : liftOf p1 p2 d = (d - p1) * 255 / (p2 - p1) := by
  simp [liftOf, Nat.not_lt.mpr h1, Nat.not_le.mpr h2, Nat.not_le.mpr (h1.trans_lt h2)]

/-- A lift never falls as the depth grows (R26, R48). -/
theorem liftOf_mono (p1 p2 : Nat) {d e : Nat} (h : d ≤ e) : liftOf p1 p2 d ≤ liftOf p1 p2 e := by
  by_cases h1 : d < p1
  · simp [liftOf_below h1]
  · by_cases h2 : p2 ≤ e
    · rw [liftOf_full (by omega) h2]
      exact liftOf_le _ _ _
    · rw [liftOf_between (by omega) (by omega), liftOf_between (by omega) (by omega)]
      exact Nat.div_le_div_right (Nat.mul_le_mul_right _ (by omega))

/-- A clamp keeps the order. -/
theorem clamp_mono (lo hi : Nat) (hlh : lo ≤ hi) {v w : Nat} (h : v ≤ w) : clamp lo hi v ≤ clamp lo hi w := by
  unfold clamp
  split_ifs <;> omega

theorem clamp_bounds {lo hi : Nat} (hlh : lo ≤ hi) (v : Nat) : lo ≤ clamp lo hi v ∧ clamp lo hi v ≤ hi := by
  unfold clamp
  split_ifs <;> omega

theorem clamp_eq_max_min {lo hi : Nat} (hlh : lo ≤ hi) (v : Nat) : clamp lo hi v = max lo (min v hi) := by
  unfold clamp
  split_ifs <;> omega

/-- A shorter interval is a higher speed (R34). -/
theorem hammerSpeed_anti (spacing : Nat) {slow fast : Nat} (h : fast ≤ slow) :
    hammerSpeed spacing slow ≤ hammerSpeed spacing fast :=
  Nat.div_le_div_left (max_le_max_right 1 h) (by omega)

/-- The straight line from a breakpoint stays at or below the next one's level (R35). -/
theorem interpolation_le {a b x y v : Nat} (hxy : a ≤ b) (hv : v < y) (hx : x ≤ v) :
    a + (v - x) * (b - a) / (y - x) ≤ b := by
  have h : (v - x) * (b - a) / (y - x) ≤ b - a := by
    refine Nat.div_le_of_le_mul ?_
    exact Nat.mul_le_mul_right _ (by omega)
  omega

/-- From a breakpoint on an ordered curve stays at or above that breakpoint's level (R35). -/
theorem le_curveFrom {v : Nat} {p : Breakpoint} {rest : List Breakpoint} (ho : curveOrdered (p :: rest) = true) :
    p.level ≤ curveFrom v p rest := by
  induction rest generalizing p with
  | nil => exact le_rfl
  | cons q rest ih =>
    simp only [curveOrdered, Bool.and_eq_true, decide_eq_true_eq] at ho
    obtain ⟨⟨-, hlevel⟩, hrest⟩ := ho
    simp only [curveFrom]
    split
    · exact Nat.le_add_right _ _
    · exact hlevel.trans (ih hrest)

/-- An ordered curve never falls as the speed grows (R35). -/
theorem curveFrom_mono {v w : Nat} {p : Breakpoint} {rest : List Breakpoint} (ho : curveOrdered (p :: rest) = true)
    (hp : p.speed ≤ v) (h : v ≤ w) : curveFrom v p rest ≤ curveFrom w p rest := by
  induction rest generalizing p with
  | nil => exact le_rfl
  | cons q rest ih =>
    simp only [curveOrdered, Bool.and_eq_true, decide_eq_true_eq] at ho
    obtain ⟨⟨-, hlevel⟩, hrest⟩ := ho
    simp only [curveFrom]
    by_cases hv : v < q.speed
    · by_cases hw : w < q.speed
      · rw [if_pos hv, if_pos hw]
        exact Nat.add_le_add_left (Nat.div_le_div_right (Nat.mul_le_mul_right _ (by omega))) _
      · rw [if_pos hv, if_neg hw]
        exact (interpolation_le hlevel hv hp).trans (le_curveFrom hrest)
    · rw [if_neg hv, if_neg (by omega)]
      exact ih hrest (by omega)

/-- The level of a speed never falls as the speed grows, on an ordered curve (R35). -/
theorem curveLevel_mono {curve : Vector Breakpoint 9} (ho : curveOrdered curve.toList = true) {v w : Nat} (h : v ≤ w) :
    curveLevel curve v ≤ curveLevel curve w := by
  have hlist : curve.toList = curve.get 0 :: curve.toList.drop 1 :=
    List.drop_eq_getElem_cons (l := curve.toList) (i := 0) (by simp)
  rw [hlist] at ho
  simp only [curveLevel]
  split_ifs with hv hw
  · exact le_rfl
  · exact le_curveFrom ho
  · omega
  · exact curveFrom_mono ho (by omega) h

/-- A shorter interval never makes a softer strike, on a curve that CAL WRITE accepts (R34 to R36). -/
theorem strikeLevel_anti {curve : Vector Breakpoint 9} (ho : curveOrdered curve.toList = true) (trim spacing : Nat)
    {slow fast : Nat} (h : fast ≤ slow) : strikeLevel curve trim spacing slow ≤ strikeLevel curve trim spacing fast :=
  clamp_mono 1 1023 (by decide)
    (Nat.div_le_div_right (Nat.mul_le_mul_right _ (curveLevel_mono ho (hammerSpeed_anti spacing h))))

/-! ## One key's record -/

@[simp] theorem State.key_onKey_same (k : Key) (f : KeyRec → KeyRec) : (onKey k f s).key k = f (s.key k) := by
  simp [State.key, onKey, vmodify]

theorem State.key_onKey_ne {j k : Key} (f : KeyRec → KeyRec) (h : j ≠ k) : (onKey k f s).key j = s.key j := by
  have hv : k.val ≠ j.val := fun e => h (Fin.ext e.symm)
  simp [State.key, onKey, vmodify, hv]

/-- Two changes of one record are one. -/
@[simp] theorem onKey_onKey (k : Key) (f g : KeyRec → KeyRec) : onKey k g (onKey k f s) = onKey k (fun r => g (f r)) s := by
  simp [onKey, vmodify]

/-- A change that leaves the record as it is changes nothing. -/
theorem onKey_eq_self {k : Key} {f : KeyRec → KeyRec} (h : f (s.key k) = s.key k) : onKey k f s = s := by
  have hk : vmodify s.keys k f = s.keys := by
    rw [vmodify, show f s.keys[k] = s.keys[k] from h]
    simp
  simp only [onKey, hk]

/-! ## Key samples (R24 to R26) -/

/-- A key's lift reaches the voice assigner and nothing else besides its record (R26). -/
theorem setKeyLift_eq (k : Key) (x : Nat) :
    ∃ vas links faults, setKeyLift k x s =
      onKey k (fun r => { r with lift := x }) { s with vas := vas, links := links, faults := faults } := by
  have hv : VoiceOnly (onKey k (fun r => { r with lift := x }) s) (setKeyLift k x s) := by
    unfold setKeyLift
    split
    · rename_i hx
      rw [onKey_eq_self (by rw [hx])]
      exact .refl
    · exact recomputeWhere_only _
  exact hv

/-- As `setKeyLift_eq`, behind another change of the same record. -/
theorem setKeyLift_onKey (k : Key) (x : Nat) (f : KeyRec → KeyRec) :
    ∃ vas links faults, setKeyLift k x (onKey k f s) =
      onKey k (fun r => { f r with lift := x }) { s with vas := vas, links := links, faults := faults } := by
  obtain ⟨vas, links, faults, h⟩ := setKeyLift_eq (s := onKey k f s) k x
  exact ⟨vas, links, faults, h.trans
    (onKey_onKey k f (fun r => { r with lift := x }) (s := { s with vas := vas, links := links, faults := faults }))⟩

/-- A key set up afresh (R41, R44). -/
theorem deriveKey_eq (k : Key) (d : Nat) :
    ∃ vas links faults, deriveKey k d s =
      onKey k (fun r =>
          { r with
            depth := d
            lift := keyLiftOf s.cst.user.working.profile d
            state := freshKeyState s.cst.user.working.profile d
            heldOut := false })
        { s with vas := vas, links := links, faults := faults } :=
  setKeyLift_onKey k _ _

/-- The record that a sample leaves, up to the release it may make: depth, lift and the state of the tests (R24, R26). -/
def KeyRec.sampled (p : KeyProfile) (d : Nat) (st : KeyState) (r : KeyRec) : KeyRec :=
  { r with depth := d, lift := keyLiftOf p d, state := st }

/-- A sample: depth, lift, the state that the tests leave, and the release of a sounding key that returned to UP. -/
theorem keySampleNormal_eq {k : Key} {time : Clock} {d : Nat} {st : KeyState} {rel : Option Clock}
    (hout : keyTests s.cst.user.working.profile time d 4 {} (s.key k).state none = (st, rel)) :
    ∃ vas links faults, keySampleNormal k time d s =
      let p := s.cst.user.working.profile
      let u := onKey k (KeyRec.sampled p d st) { s with vas := vas, links := links, faults := faults }
      rel.elim u fun t0 =>
        if (s.key k).sounding then
          trackerEvent (keyEvent .release k (releaseLevel p (elapsed time t0)) {} time)
            (onKey k (fun r => { r with sounding := false }) u)
        else u := by
  obtain ⟨vas, links, faults, hl⟩ := setKeyLift_onKey (s := s) k (keyLiftOf s.cst.user.working.profile d)
    (fun r => { r with depth := d })
  refine ⟨vas, links, faults, ?_⟩
  have hkey : ({ s with vas := vas, links := links, faults := faults } : State).key k = s.key k := rfl
  simp only [keySampleNormal, hl, State.key_onKey_same, hkey, hout, onKey_onKey]
  cases rel <;> rfl

/-- A sample that makes no release (R24). -/
theorem keySampleNormal_silent {k : Key} {time : Clock} {d : Nat} {st : KeyState} {rel : Option Clock}
    (hout : keyTests s.cst.user.working.profile time d 4 {} (s.key k).state none = (st, rel))
    (hq : rel = none ∨ (s.key k).sounding = false) :
    ∃ vas links faults, keySampleNormal k time d s =
      onKey k (KeyRec.sampled s.cst.user.working.profile d st)
        { s with vas := vas, links := links, faults := faults } := by
  obtain ⟨vas, links, faults, h⟩ := keySampleNormal_eq hout
  refine ⟨vas, links, faults, h.trans ?_⟩
  rcases hq with rfl | hs
  · rfl
  · cases rel <;> simp [hs]

/-- A sounding key that returns to UP makes its RELEASE (R24, R25). -/
theorem keySampleNormal_release {k : Key} {time t0 : Clock} {d : Nat} {st : KeyState}
    (hout : keyTests s.cst.user.working.profile time d 4 {} (s.key k).state none = (st, some t0))
    (hs : (s.key k).sounding = true) :
    ∃ vas tks links faults, keySampleNormal k time d s =
      onKey k (fun r => { r.sampled s.cst.user.working.profile d st with sounding := false })
        { s with
          ajn := s.ajn.push (keyEvent .release k (releaseLevel s.cst.user.working.profile (elapsed time t0)) {} time)
          vas := vas, tks := tks, links := links, faults := faults } := by
  obtain ⟨vas, links, faults, h⟩ := keySampleNormal_eq hout
  rw [h]
  simp only [hs, if_true, onKey_onKey]
  obtain ⟨tks, links, faults, he⟩ := trackerEvent_of_not_strike
    (e := keyEvent .release k (releaseLevel s.cst.user.working.profile (elapsed time t0)) {} time) (by simp [keyEvent])
  exact ⟨vas, tks, links, faults, he⟩

/-! ## The key states on one depth (R24) -/

section KeyTests

variable {p : KeyProfile} {time t0 : Clock} {d : Nat} {below : Bool}

theorem keyTests_up_stays (h : d < p.press) : keyTests p time d 4 {} .up none = (.up, none) := by
  simp [keyTests, Nat.not_le.mpr h]

theorem keyTests_up_down (h : p.press ≤ d) (hr : p.releaseStart ≤ d) :
    keyTests p time d 4 {} .up none = (.down, none) := by
  simp [keyTests, h, Nat.not_lt.mpr hr]

theorem keyTests_up_rising (h : p.press ≤ d) (hr : d < p.releaseStart) (hn : p.noteOff ≤ d) :
    keyTests p time d 4 {} .up none = (.rising time false, none) := by
  simp [keyTests, h, hr, Nat.not_lt.mpr h, Nat.not_le.mpr hr, Nat.not_lt.mpr hn]

theorem keyTests_down_stays (hr : p.releaseStart ≤ d) : keyTests p time d 4 {} .down none = (.down, none) := by
  simp [keyTests, Nat.not_lt.mpr hr]

/-- A DOWN key above its note-off point begins to rise (R24). -/
theorem keyTests_down_rising (hr : d < p.releaseStart) (hn : p.noteOff ≤ d) :
    keyTests p time d 4 {} .down none = (.rising time (decide (d < p.press)), none) := by
  by_cases hp : d < p.press
  · simp [keyTests, hr, hp, Nat.not_le.mpr hp, Nat.not_lt.mpr hn]
  · simp [keyTests, hr, hp, Nat.not_le.mpr hr, Nat.not_lt.mpr hn]

/-- A DOWN key below every point returns to UP through RISING, its rise timed from this sample (R24). -/
theorem keyTests_down_up (hr : d < p.releaseStart) (hn : d < p.noteOff) (hp : d < p.press) :
    keyTests p time d 4 {} .down none = (.up, some time) := by
  simp [keyTests, hr, hn, hp, Nat.not_le.mpr hp]

theorem keyTests_rising_below (hp : d < p.press) (hn : p.noteOff ≤ d) :
    keyTests p time d 4 {} (.rising t0 below) none = (.rising t0 true, none) := by
  simp [keyTests, hp, Nat.not_le.mpr hp, Nat.not_lt.mpr hn]

/-- A key that had risen below the press point goes through DOWN and rises anew (R24, log 26). -/
theorem keyTests_rising_anew (hp : p.press ≤ d) (hr : d < p.releaseStart) (hn : p.noteOff ≤ d) :
    keyTests p time d 4 {} (.rising t0 true) none = (.rising time false, none) := by
  simp [keyTests, hp, hr, Nat.not_lt.mpr hp, Nat.not_le.mpr hr, Nat.not_lt.mpr hn]

theorem keyTests_rising_stays (hp : p.press ≤ d) (hr : d < p.releaseStart) (hn : p.noteOff ≤ d) :
    keyTests p time d 4 {} (.rising t0 false) none = (.rising t0 false, none) := by
  simp [keyTests, Nat.not_lt.mpr hp, Nat.not_le.mpr hr, Nat.not_lt.mpr hn]

theorem keyTests_rising_down (hp : p.press ≤ d) (hr : p.releaseStart ≤ d) :
    keyTests p time d 4 {} (.rising t0 below) none = (.down, none) := by
  cases below <;> simp [keyTests, hp, hr, Nat.not_lt.mpr hp, Nat.not_lt.mpr hr]

theorem keyTests_rising_up (hp : d < p.press) (hn : d < p.noteOff) :
    keyTests p time d 4 {} (.rising t0 below) none = (.up, some t0) := by
  simp [keyTests, hp, hn, Nat.not_le.mpr hp]

end KeyTests

/-! ## A key-depth sample (R23 to R26, R41, R44) -/

theorem keyDepthSample_normal {k : Key} (h : (s.key k).heldOut = false) (time : Clock) (d : Nat) :
    keyDepthSample k time false d s = keySampleNormal k time d s := by
  simp [keyDepthSample, h]

/-- A sample of a key that is held out by a failure sets its depth alone (R40). -/
theorem keyDepthSample_heldOut {k : Key} (h : (s.key k).heldOut = true)
    (hf : (s.key k).depthFailed = true ∨ (s.key k).hammerFailed = true) (time : Clock) (first : Bool) (d : Nat) :
    keyDepthSample k time first d s = onKey k (fun r => { r with depth := d }) s := by
  rcases hf with hf | hf <;> simp [keyDepthSample, h, hf]

/-- The first sample, and the first one after a recovery, set the key up afresh (R41, R44). -/
theorem keyDepthSample_fresh {k : Key} {first : Bool}
    (h : (s.key k).heldOut = true ∧ (s.key k).depthFailed = false ∧ (s.key k).hammerFailed = false
      ∨ (s.key k).heldOut = false ∧ first = true) (time : Clock) (d : Nat) :
    keyDepthSample k time first d s = deriveKey k d s := by
  rcases h with ⟨hh, hd, hm⟩ | ⟨hh, hf⟩
  · simp [keyDepthSample, hh, hd, hm]
  · simp [keyDepthSample, hh, hf]

/-- Whatever it finds, a sample changes its key's record, the depth to its own, and what an event reaches (R23). -/
theorem keyDepthSample_eq (k : Key) (time : Clock) (first : Bool) (d : Nat) :
    ∃ f ajn vas tks links faults, (∀ r, (f r).depth = d) ∧ keyDepthSample k time first d s =
      onKey k f { s with ajn := ajn, vas := vas, tks := tks, links := links, faults := faults } := by
  have hfresh : ∃ f ajn vas tks links faults, (∀ r, (f r).depth = d) ∧ deriveKey k d s =
      onKey k f { s with ajn := ajn, vas := vas, tks := tks, links := links, faults := faults } := by
    obtain ⟨_, _, _, he⟩ := deriveKey_eq (s := s) k d
    exact ⟨_, _, _, _, _, _, fun _ => rfl, he⟩
  unfold keyDepthSample
  dsimp only
  split
  · split
    · exact ⟨fun r => { r with depth := d }, s.ajn, s.vas, s.tks, s.links, s.faults, fun _ => rfl, rfl⟩
    · exact hfresh
  · split
    · exact hfresh
    · rcases hout : keyTests s.cst.user.working.profile time d 4 {} (s.key k).state none with ⟨st, rel⟩
      by_cases hq : rel = none ∨ (s.key k).sounding = false
      · obtain ⟨_, _, _, he⟩ := keySampleNormal_silent hout hq
        exact ⟨_, _, _, _, _, _, fun _ => rfl, he⟩
      · obtain ⟨hrel, hs⟩ := not_or.mp hq
        obtain ⟨t0, rfl⟩ := Option.ne_none_iff_exists'.mp hrel
        obtain ⟨_, _, _, _, he⟩ := keySampleNormal_release hout (eq_true_of_ne_false hs)
        exact ⟨_, _, _, _, _, _, fun _ => rfl, he⟩

/-- A sample of a key touches no other key, nor player, pedals, rail or front end (R23). -/
theorem keyDepthSample_frame (k : Key) (time : Clock) (first : Bool) (d : Nat) :
    let t := keyDepthSample k time first d s
    (∀ j, j ≠ k → t.key j = s.key j) ∧ t.ply = s.ply ∧ t.pdu = s.pdu ∧ t.rlc = s.rlc ∧ t.sfe = s.sfe := by
  intro t
  obtain ⟨f, ajn, vas, tks, links, faults, -, he⟩ := keyDepthSample_eq (s := s) k time first d
  rw [show t = _ from he]
  exact ⟨fun j hj => State.key_onKey_ne _ hj, rfl, rfl, rfl, rfl⟩

/-- Every sample of a key sets its depth (R23, R40). -/
theorem keyDepthSample_depth (k : Key) (time : Clock) (first : Bool) (d : Nat) :
    ((keyDepthSample k time first d s).key k).depth = d := by
  obtain ⟨f, _, _, _, _, _, hf, he⟩ := keyDepthSample_eq (s := s) k time first d
  rw [he, State.key_onKey_same, hf]

/-- What a sample does to its key when the tests make no release (R24, R26). -/
theorem keyDepthSample_becomes {k : Key} {time : Clock} {d : Nat} {st : KeyState} (hh : (s.key k).heldOut = false)
    (hout : keyTests s.cst.user.working.profile time d 4 {} (s.key k).state none = (st, none)) :
    let p := s.cst.user.working.profile
    let t := keyDepthSample k time false d s
    t.key k = { s.key k with depth := d, lift := liftOf p.damperStart p.damperFull d, state := st }
      ∧ t.ajn = s.ajn ∧ t.tks = s.tks := by
  intro p t
  obtain ⟨_, _, _, he⟩ := keySampleNormal_silent hout (.inl rfl)
  rw [show t = _ from (keyDepthSample_normal hh time d).trans he]
  exact ⟨State.key_onKey_same _ _, rfl, rfl⟩

/-- What a sample does to its key when the tests return it to UP (R24, R25). -/
theorem keyDepthSample_returns {k : Key} {time t0 : Clock} {d : Nat} (hh : (s.key k).heldOut = false)
    (hout : keyTests s.cst.user.working.profile time d 4 {} (s.key k).state none = (.up, some t0)) :
    let r := s.key k
    let p := s.cst.user.working.profile
    let t := keyDepthSample k time false d s
    t.key k = { r with depth := d, lift := liftOf p.damperStart p.damperFull d, state := .up, sounding := false }
      ∧ (r.sounding = false → t.ajn = s.ajn ∧ t.tks = s.tks)
      ∧ (r.sounding = true → t.ajn = s.ajn.push
          { time := time, kind := .release, source := .live, key := some k.val
            value := max 1 (min ((p.releaseStart - p.noteOff) * 4000 / max (elapsed time t0) 1) 1023) }) := by
  intro r p t
  by_cases hs : r.sounding = true
  · obtain ⟨_, _, _, _, he⟩ := keySampleNormal_release hout hs
    rw [show t = _ from (keyDepthSample_normal hh time d).trans he]
    refine ⟨State.key_onKey_same _ _, fun hf => absurd (hs.symm.trans hf) (by decide), fun _ => ?_⟩
    rw [← clamp_eq_max_min (by decide)]
    rfl
  · have hs : r.sounding = false := Bool.eq_false_iff.mpr hs
    obtain ⟨_, _, _, he⟩ := keySampleNormal_silent hout (.inr hs)
    rw [show t = _ from (keyDepthSample_normal hh time d).trans he]
    refine ⟨?_, fun _ => ⟨rfl, rfl⟩, fun ht => absurd (hs.symm.trans ht) (by decide)⟩
    rw [State.key_onKey_same, ← hs]
    rfl

/-- What a result of group K does (R1). -/
theorem convertResult_key {g : Fin 11} {r : AinResult} {k : Key} (h : k.val = 8 * g.val + r.ain.val) (time : Clock) :
    convertResult (.k g) time s r = convertKey k time r.raw s := by
  obtain rfl : k = groupKey g r.ain := Fin.ext h
  rfl

/-- Settles O55: the lifts and levels by their monotony, the samples by the tests of R24 on the depth. -/
theorem liftsAndLevelsRise : Obligations.LiftsAndLevelsRise := by
  refine ⟨⟨fun p1 p2 d e h => ⟨liftOf_mono p1 p2 h, liftOf_le p1 p2 e, liftOf_below, liftOf_full⟩,
    fun curve trim spacing slow fast ho h => ⟨strikeLevel_anti ho trim spacing h, clamp_bounds (by decide) _⟩⟩,
    fun k time d s hh => ?sample,
    fun k time first d s => ⟨fun hh hf => keyDepthSample_heldOut hh hf time first d, fun h => ?fresh⟩,
    fun g time r k s hk => ?result⟩
  case sample =>
    obtain ⟨hj, hply, hpdu, hrlc, hsfe⟩ := keyDepthSample_frame (s := s) k time false d
    refine ⟨hj, hply, hpdu, hrlc, hsfe, ?_⟩
    refine ⟨fun hst hp => ?_, fun hst hp hr => ?_, fun hst hr => ?_, fun hst hr hn => ?_, fun hst hp hr hn => ?_,
      fun t0 below hst hp hn => ?_, fun t0 hst hp hr hn => ?_, fun t0 hst hp hn hr => ?_, fun t0 below hst hp hr => ?_,
      fun t0 hn hp h => ?_⟩
    · exact keyDepthSample_becomes hh (by rw [hst, keyTests_up_stays hp])
    · exact keyDepthSample_becomes hh (by rw [hst, keyTests_up_down hp hr])
    · exact keyDepthSample_becomes hh (by rw [hst, keyTests_down_stays hr])
    · exact keyDepthSample_becomes hh (by rw [hst, keyTests_down_rising hr hn])
    · exact keyDepthSample_becomes hh (by rw [hst, keyTests_up_rising hp hr hn])
    · exact keyDepthSample_becomes hh (by rw [hst, keyTests_rising_below hp hn])
    · exact keyDepthSample_becomes hh (by rw [hst, keyTests_rising_anew hp hr hn])
    · exact keyDepthSample_becomes hh (by rw [hst, keyTests_rising_stays hp hr hn])
    · exact keyDepthSample_becomes hh (by rw [hst, keyTests_rising_down hp hr])
    · refine keyDepthSample_returns hh ?_
      rcases h with ⟨hst, hr, rfl⟩ | ⟨below, hst⟩
      · rw [hst, keyTests_down_up hr hn hp]
      · rw [hst, keyTests_rising_up hp hn]
  case fresh =>
    obtain ⟨hj, hply, hpdu, -, -⟩ := keyDepthSample_frame (s := s) k time first d
    obtain ⟨_, _, _, he⟩ := deriveKey_eq (s := s) k d
    refine ⟨?_, hj, ?_, ?_, hply, hpdu⟩ <;> rw [keyDepthSample_fresh (by simpa [and_assoc] using h) time d, he]
    · exact State.key_onKey_same _ _
    · rfl
    · rfl
  case result =>
    simp only [convertResult_key hk]
    exact convert_order _ _ (fun t => keyChannelFailed false k time (reportFault .sensorFail t))
      (keyChannelRecovered false k time) (keyDepthSample k time _ _) _

/-! ## What the conversion of one channel can touch -/

/-- At most key `k`'s record and what its events and the rail's test for quiet reach differ. -/
def KeyOnly (k : Key) (s t : State) : Prop :=
  ∃ f ajn vas rlc tks ply links faults,
    t = onKey k f { s with ajn := ajn, vas := vas, rlc := rlc, tks := tks, ply := ply, links := links, faults := faults }

theorem KeyOnly.trans {k : Key} (h : KeyOnly k s t) (g : KeyOnly k t u) : KeyOnly k s u := by
  obtain ⟨f, _, _, _, _, _, _, _, rfl⟩ := h
  obtain ⟨f', ajn, vas, rlc, tks, ply, links, faults, rfl⟩ := g
  exact ⟨fun r => f' (f r), ajn, vas, rlc, tks, ply, links, faults, onKey_onKey k f f'
    (s := { s with ajn := ajn, vas := vas, rlc := rlc, tks := tks, ply := ply, links := links, faults := faults })⟩

theorem onKey_keyOnly (k : Key) (f : KeyRec → KeyRec) : KeyOnly k s (onKey k f s) := ⟨f, _, _, _, _, _, _, _, rfl⟩

/-- A state that differs outside the keys alone. -/
theorem KeyOnly.of_eq {k : Key} {ajn : Ajn} {vas : Vas} {rlc : Rlc} {tks : Tks} {ply : Ply} {links : PerLink LinkState}
    {faults : FaultRecord}
    (h : t = { s with ajn := ajn, vas := vas, rlc := rlc, tks := tks, ply := ply, links := links, faults := faults }) :
    KeyOnly k s t :=
  ⟨id, ajn, vas, rlc, tks, ply, links, faults, h.trans (onKey_eq_self rfl).symm⟩

theorem KeyOnly.refl {k : Key} : KeyOnly k s s := .of_eq (s := s) rfl
theorem RailOnly.keyOnly {k : Key} (h : RailOnly s t) : KeyOnly k s t := by
  obtain ⟨_, _, _, _, rfl⟩ := h
  exact .of_eq (s := s) rfl
theorem PlayOnly.keyOnly {k : Key} (h : PlayOnly s t) : KeyOnly k s t := by
  obtain ⟨_, _, _, _, _, rfl⟩ := h
  exact .of_eq (s := s) rfl
theorem TakeOnly.keyOnly {k : Key} (h : TakeOnly s t) : KeyOnly k s t := by
  obtain ⟨_, _, _, rfl⟩ := h
  exact .of_eq (s := s) rfl

theorem KeyOnly.sfe {k : Key} (h : KeyOnly k s t) : t.sfe = s.sfe := by
  obtain ⟨_, _, _, _, _, _, _, _, rfl⟩ := h
  rfl

theorem KeyOnly.key_ne {j k : Key} (h : KeyOnly k s t) (hj : j ≠ k) : t.key j = s.key j := by
  obtain ⟨_, _, _, _, _, _, _, _, rfl⟩ := h
  exact State.key_onKey_ne _ hj

theorem trackerEvent_keyOnly (k : Key) (e : Event) : KeyOnly k s (trackerEvent e s) :=
  ((((appendEvent_play e).trans (voiceEvent_only e).play).keyOnly).trans (recorderEvent_only e).keyOnly).trans
    (playerEvent_only e).keyOnly

theorem setKeyLift_keyOnly (k : Key) (x : Nat) : KeyOnly k s (setKeyLift k x s) := by
  obtain ⟨_, _, _, h⟩ := setKeyLift_eq (s := s) k x
  exact ⟨_, _, _, _, _, _, _, _, h⟩

theorem keyDepthSample_keyOnly (k : Key) (time : Clock) (first : Bool) (d : Nat) :
    KeyOnly k s (keyDepthSample k time first d s) := by
  obtain ⟨_, _, _, _, _, _, -, h⟩ := keyDepthSample_eq (s := s) k time first d
  exact ⟨_, _, _, _, _, _, _, _, h⟩

theorem hammerSample_keyOnly (k : Key) (time : Clock) (first : Bool) (height : Nat) :
    KeyOnly k s (hammerSample k time first height s) := by
  have hmissed : ∀ (b : Bool) (r : State), KeyOnly k s r →
      KeyOnly k s (if b then { r with faults := { r.faults with missed := satInc r.faults.missed } } else r) := by
    intro b r hr
    split
    · exact hr.trans (.of_eq (s := r) rfl)
    · exact hr
  unfold hammerSample hammerSampleNormal
  dsimp only
  split
  · exact onKey_keyOnly k _
  · split
    · exact (hmissed _ _ (onKey_keyOnly k _)).trans ((onKey_keyOnly k _).trans (trackerEvent_keyOnly k _))
    · exact hmissed _ _ (onKey_keyOnly k _)

theorem keyChannelFailed_keyOnly (hammer : Bool) (k : Key) (time : Clock) :
    KeyOnly k s (keyChannelFailed hammer k time s) := by
  have hrelease : ∀ r : State, KeyOnly k s r →
      KeyOnly k s (if (r.key k).sounding then
        onKey k (fun r => { r with sounding := false }) (trackerEvent (keyEvent .release k 1 { failed := true } time) r)
        else r) := by
    intro r hr
    split
    · exact hr.trans ((trackerEvent_keyOnly k _).trans (onKey_keyOnly k _))
    · exact hr
  have htime : ∀ r : State, KeyOnly k s r →
      KeyOnly k s (if hammer then onKey k (fun r => { r with hammerTime := none }) r else r) := by
    intro r hr
    split
    · exact hr.trans (onKey_keyOnly k _)
    · exact hr
  simp only [keyChannelFailed]
  exact (((htime _ ((hrelease _ ((onKey_keyOnly k _).trans quietMove_only.keyOnly)).trans
    ((onKey_keyOnly k _).trans (setKeyLift_keyOnly k 0)))).trans
    (trackerEvent_keyOnly k _)).trans (raiseAll_only _).report.rail.keyOnly)

theorem keyChannelRecovered_keyOnly (hammer : Bool) (k : Key) (time : Clock) :
    KeyOnly k s (keyChannelRecovered hammer k time s) := by
  have hevent : ∀ r : State, KeyOnly k s r → KeyOnly k s (if (r.key k).depthFailed || (r.key k).hammerFailed then r
      else trackerEvent (keyEvent .keyRecover k 0 {} time) r) := by
    intro r hr
    split
    · exact hr
    · exact hr.trans (trackerEvent_keyOnly k _)
  exact hevent _ ((onKey_keyOnly k _).trans quietMove_only.keyOnly)

/-- The three parts of a conversion touch no more than each of them. -/
theorem convert_rel {R : State → State → Prop} (refl : ∀ s, R s s) (trans : ∀ {a b c}, R a b → R b c → R a c)
    {failed recovered sample : State → State} (hf : ∀ s, R s (failed s)) (hr : ∀ s, R s (recovered s))
    (hp : ∀ s, R s (sample s)) (fails recovers passes : Bool) (s : State) :
    let s2 := if fails then failed s else s
    let s3 := if recovers then recovered s2 else s2
    R s (if passes then sample s3 else s3) := by
  intro s2 s3
  have h2 : R s s2 := by
    unfold s2
    split
    · exact hf s
    · exact refl s
  have h3 : R s s3 := by
    unfold s3
    split
    · exact trans h2 (hr s2)
    · exact h2
  split
  · exact trans h3 (hp s3)
  · exact h3

theorem reportFault_keyOnly (k : Key) (c : FaultKind) : KeyOnly k s (reportFault c s) := (reportFault_only c).rail.keyOnly

theorem convertKey_keyOnly (k : Key) (time : Clock) (raw : Nat) :
    KeyOnly k (onSfe (fun f => { f with keyCh := f.keyCh.set k (channelTest s.sfe.keyCh[k] raw).record }) s)
      (convertKey k time raw s) :=
  convert_rel (R := KeyOnly k) (fun _ => .refl) .trans
    (failed := fun u => keyChannelFailed false k time (reportFault .sensorFail u))
    (fun _ => (reportFault_keyOnly k _).trans (keyChannelFailed_keyOnly _ _ _))
    (fun _ => keyChannelRecovered_keyOnly false k time) (fun _ => keyDepthSample_keyOnly k time _ _) _ _ _ _

theorem convertHammer_keyOnly (k : Key) (time : Clock) (raw : Nat) :
    KeyOnly k (onSfe (fun f => { f with hammerCh := f.hammerCh.set k (channelTest s.sfe.hammerCh[k] raw).record }) s)
      (convertHammer k time raw s) :=
  convert_rel (R := KeyOnly k) (fun _ => .refl) .trans
    (failed := fun u => keyChannelFailed true k time (reportFault .sensorFail u))
    (fun _ => (reportFault_keyOnly k _).trans (keyChannelFailed_keyOnly _ _ _))
    (fun _ => keyChannelRecovered_keyOnly true k time)
    (fun _ => (hammerSample_keyOnly k time _ _).trans quietMove_only.keyOnly) _ _ _ _

theorem convertPedal_action (p : Pedal) (time : Clock) (raw : Nat) :
    ActionOnly (onSfe (fun f => { f with pedalCh := f.pedalCh.set p.index (channelTest s.sfe.pedalCh[p.index] raw).record }) s)
      (convertPedal p time raw s) :=
  convert_rel (R := ActionOnly) (fun _ => .refl) .trans
    (failed := fun u => pedalChannelFailed p time (reportFault .sensorFail u))
    (fun _ => (reportFault_only _).take.action.trans (pedalChannelFailed_only _ _))
    (fun _ => pedalChannelRecovered_only p) (fun _ => pedalSample_only p time _ _) _ _ _ _

/-! ## The front end under the results of a conversion -/

/-- Of the front end at most the channel records differ. -/
def ChannelsOnly (s t : State) : Prop :=
  t.sfe = { s.sfe with keyCh := t.sfe.keyCh, hammerCh := t.sfe.hammerCh, pedalCh := t.sfe.pedalCh }

theorem ChannelsOnly.trans (h : ChannelsOnly s t) (g : ChannelsOnly t u) : ChannelsOnly s u := by
  unfold ChannelsOnly at *
  rw [g, h]

theorem ActionOnly.sfe (h : ActionOnly s t) : t.sfe = s.sfe := by
  obtain ⟨_, _, _, _, _, _, _, _, rfl⟩ := h
  rfl

theorem convertResult_channels (g : Group) (time : Clock) (s : State) (r : AinResult) :
    ChannelsOnly s (convertResult g time s r) := by
  unfold ChannelsOnly convertResult
  cases g with
  | k n => simp only [(convertKey_keyOnly (s := s) (groupKey n r.ain) time r.raw).sfe, onSfe_sfe]
  | h n => simp only [(convertHammer_keyOnly (s := s) (groupKey n r.ain) time r.raw).sfe, onSfe_sfe]
  | p =>
    cases groupPedal r.ain with
    | none => rfl
    | some p => simp only [(convertPedal_action (s := s) p time r.raw).sfe, onSfe_sfe]

theorem foldl_convertResult_channels (g : Group) (time : Clock) (rs : List AinResult) (s : State) :
    ChannelsOnly s (rs.foldl (convertResult g time) s) :=
  foldl_rel (R := ChannelsOnly) (fun _ => rfl) .trans (convertResult_channels g time) rs s

theorem foldl_convertResult_only (g : Group) (time : Clock) (rs : List AinResult) (s : State) :
    SenseOnly s (rs.foldl (convertResult g time) s) :=
  foldl_rel (R := SenseOnly) (fun _ => .refl) .trans (fun _ r => convertResult_only g time r) rs s

/-! ## The keys of one key group -/

theorem groupKey_ne (g : Fin 11) {i j : Ain} (h : i ≠ j) : groupKey g i ≠ groupKey g j := by
  intro he
  have hv : 8 * g.val + i.val = 8 * g.val + j.val := congrArg Fin.val he
  exact h (Fin.ext (by omega))

/-- A key's record and its channel's are left alone by the conversion of another key. -/
theorem convertKey_ne {j k : Key} (h : j ≠ k) (time : Clock) (raw : Nat) :
    (convertKey k time raw s).key j = s.key j ∧ (convertKey k time raw s).sfe.keyCh[j] = s.sfe.keyCh[j] := by
  have hk := convertKey_keyOnly (s := s) k time raw
  have hv : k.val ≠ j.val := fun e => h (Fin.ext e.symm)
  refine ⟨(hk.key_ne h).trans rfl, ?_⟩
  rw [hk.sfe]
  simp [hv]

theorem channelTest_lastRaw (ch : ChannelRec) (raw : Nat) : (channelTest ch raw).record.lastRaw = some raw := by
  unfold channelTest
  dsimp only
  split_ifs <;> rfl

/-- A conversion stores its raw value (R2). -/
theorem convertKey_lastRaw (k : Key) (time : Clock) (raw : Nat) :
    (convertKey k time raw s).sfe.keyCh[k].lastRaw = some raw := by
  rw [(convertKey_keyOnly k time raw).sfe]
  simp [channelTest_lastRaw]

/-- An in-range value of a HEALTHY channel becomes its key's depth (R14, R15). -/
theorem convertKey_depth {k : Key} {raw : Nat} (hf : s.sfe.keyCh[k].failed = false) (hr : 40 ≤ raw ∧ raw ≤ 4055)
    (time : Clock) :
    ((convertKey k time raw s).key k).depth =
      normalise (s.cst.factory.working.keySensor[k]).keyRest (s.cst.factory.working.keySensor[k]).keyBottom raw := by
  unfold convertKey
  simp only [channelTest_healthy_in hf hr, Bool.false_eq_true, if_false, if_true]
  exact keyDepthSample_depth _ _ _ _

/-- A key whose input has no result keeps its record and its channel's. -/
theorem foldl_convertResult_absent (g : Fin 11) (time : Clock) {j : Ain} {rs : List AinResult}
    (h : ∀ q ∈ rs, q.ain ≠ j) (s : State) :
    let u := rs.foldl (convertResult (.k g) time) s
    u.key (groupKey g j) = s.key (groupKey g j) ∧ u.sfe.keyCh[groupKey g j] = s.sfe.keyCh[groupKey g j] := by
  induction rs generalizing s with
  | nil => exact ⟨rfl, rfl⟩
  | cons q rs ih =>
    obtain ⟨hq, hrs⟩ := List.forall_mem_cons.mp h
    obtain ⟨hkey, hch⟩ := ih hrs (convertResult (.k g) time s q)
    obtain ⟨hkey', hch'⟩ := convertKey_ne (s := s) (groupKey_ne g hq.symm) time q.raw
    exact ⟨hkey.trans hkey', hch.trans hch'⟩

/-- Each result of a key group is stored, and in range on a HEALTHY channel it becomes the depth (R2, R14, R15). -/
theorem foldl_convertResult_present (g : Fin 11) (time : Clock) {rs : List AinResult} (hnd : (rs.map (·.ain)).Nodup)
    {r : AinResult} (hr : r ∈ rs) (s : State) :
    let u := rs.foldl (convertResult (.k g) time) s
    let k := groupKey g r.ain
    (u.sfe.keyCh[k]).lastRaw = some r.raw
      ∧ ((s.sfe.keyCh[k]).failed = false → 40 ≤ r.raw → r.raw ≤ 4055 →
          (u.key k).depth =
            normalise (s.cst.factory.working.keySensor[k]).keyRest (s.cst.factory.working.keySensor[k]).keyBottom r.raw) := by
  obtain ⟨before, after, rfl⟩ := List.append_of_mem hr
  simp only [List.map_append, List.map_cons, List.nodup_append, List.nodup_cons, List.mem_map, not_exists, not_and,
    List.mem_cons] at hnd
  obtain ⟨-, ⟨hafter, -⟩, hbefore⟩ := hnd
  intro u k
  obtain ⟨hkey0, hch0⟩ := foldl_convertResult_absent g time (j := r.ain) (rs := before)
    (fun q hq => hbefore _ ⟨q, hq, rfl⟩ _ (.inl rfl)) s
  obtain ⟨hkey1, hch1⟩ := foldl_convertResult_absent g time (j := r.ain) (rs := after) (fun q hq => hafter q hq)
    (convertResult (.k g) time (before.foldl (convertResult (.k g) time) s) r)
  have hu : u = after.foldl (convertResult (.k g) time)
      (convertResult (.k g) time (before.foldl (convertResult (.k g) time) s) r) := by
    simp [u]
  obtain ⟨_, _, _, _, _, _, _, _, _, _, hcst⟩ := foldl_convertResult_only (.k g) time before s
  have hcst : (before.foldl (convertResult (.k g) time) s).cst = s.cst := by rw [hcst]
  rw [hu]
  refine ⟨?_, fun hf hlo hhi => ?_⟩
  · rw [hch1]
    exact convertKey_lastRaw _ _ _
  · rw [hkey1, ← hcst]
    exact convertKey_depth (by rw [hch0]; exact hf) ⟨hlo, hhi⟩ time

/-! ## What raised classes do to a link's transmit queue (R175 to R179) -/

/-- A link's depth stream is as it was and its transmit queue at most longer; with no place free it is the same. -/
structure LinkGrows (a b : LinkState) : Prop where
  period : b.depthPeriod = a.depthPeriod
  count : b.depthCount = a.depthCount
  number : b.depthNumber = a.depthNumber
  tx : a.tx <+: b.tx
  full : a.placeFree = false → b.tx = a.tx

/-- A link whose depth stream and transmit queue are as they were. -/
theorem LinkGrows.of_eq {a b : LinkState} (hp : b.depthPeriod = a.depthPeriod) (hc : b.depthCount = a.depthCount)
    (hn : b.depthNumber = a.depthNumber) (ht : b.tx = a.tx) : LinkGrows a b :=
  ⟨hp, hc, hn, ht ▸ List.prefix_refl _, fun _ => ht⟩

theorem LinkGrows.refl (a : LinkState) : LinkGrows a a := .of_eq rfl rfl rfl rfl

theorem LinkGrows.trans {a b c : LinkState} (h : LinkGrows a b) (g : LinkGrows b c) : LinkGrows a c where
  period := g.period.trans h.period
  count := g.count.trans h.count
  number := g.number.trans h.number
  tx := h.tx.trans g.tx
  full := fun hf => by
    have hb : b.placeFree = false := by
      rw [LinkState.placeFree, h.full hf]
      exact hf
    rw [g.full hb, h.full hf]

theorem raiseEntry_grows (c : EventClass) (ls : LinkState) (i : Fin 8) : LinkGrows ls (ls.raiseEntry c i) := by
  unfold LinkState.raiseEntry
  dsimp only
  split
  · split
    · exact .of_eq rfl rfl rfl rfl
    · split
      · exact .of_eq rfl rfl rfl rfl
      · split
        · rename_i hfree
          exact ⟨rfl, rfl, rfl, List.prefix_append _ _, fun hf => absurd (hf.symm.trans hfree) (by decide)⟩
        · exact .of_eq rfl rfl rfl rfl
  · exact .refl ls

theorem raise_grows (c : EventClass) (ls : LinkState) : LinkGrows ls (ls.raise c) := by
  have hfold : ∀ (is : List (Fin 8)) (a : LinkState), LinkGrows a (is.foldl (LinkState.raiseEntry c) a) := by
    intro is
    induction is with
    | nil => exact .refl
    | cons i is ih => exact fun a => (raiseEntry_grows c a i).trans (ih _)
  unfold LinkState.raise
  split
  · exact hfold _ ls
  · exact .refl ls

theorem appendSeen_grows (next : Seq) (overwritten : Option Seq) (ls : LinkState) :
    LinkGrows ls (ls.appendSeen next overwritten) := by
  unfold LinkState.appendSeen
  split
  · exact .refl ls
  · split
    · refine LinkGrows.trans ?_ (raise_grows _ _)
      exact .of_eq rfl rfl rfl rfl
    · split
      · exact raise_grows _ _
      · exact .refl ls

/-- Every link grows. -/
def LinksGrow (s t : State) : Prop := ∀ l, LinkGrows (s.link l) (t.link l)

theorem LinksGrow.refl : LinksGrow s s := fun l => .refl (s.link l)

theorem LinksGrow.trans (h : LinksGrow s t) (g : LinksGrow t u) : LinksGrow s u := fun l => (h l).trans (g l)

theorem LinksGrow.of_links (h : t.links = s.links) : LinksGrow s t := fun l => by
  simp only [State.link, h]
  exact .refl _

theorem raiseAll_grow (c : EventClass) : LinksGrow s (raiseAll c s) := fun l => by
  simp only [raiseAll, State.link_onEveryLink]
  exact raise_grows c _

theorem appendEvent_grow (e : Event) : LinksGrow s (appendEvent e s) := fun l => by
  simp only [appendEvent, State.link_onEveryLink]
  exact appendSeen_grows _ _ _

theorem railEnter_grow (st : RailState) : LinksGrow s (railEnter st s) := by
  have h : ∀ e : Event, LinksGrow s (raiseAll .railState (appendEvent e (onRlc (fun r => { r with state := st }) s))) :=
    fun e => ((LinksGrow.of_links rfl).trans (appendEvent_grow e)).trans (raiseAll_grow _)
  unfold railEnter
  dsimp only
  split
  · exact (h _).trans (raiseAll_grow _)
  · exact h _

theorem startHoming_grow : LinksGrow s (startHoming s) := (railEnter_grow _).trans (.of_links rfl)

theorem startMove_grow (e : Side) (check : Bool) : LinksGrow s (startMove e check s) :=
  (railEnter_grow _).trans (.of_links rfl)

/-! ## The rail's test for quiet at a frame end (R109) -/

/-- A test for quiet starts the move that waits for it, or changes nothing (R109). -/
theorem quietMove_cases : quietMove s = s ∨ quietMove s = startHoming s ∨ ∃ e, quietMove s = startMove e true s := by
  unfold quietMove
  split
  · split
    · exact .inr (.inl rfl)
    · exact .inl rfl
  · split
    · exact .inr (.inr ⟨_, rfl⟩)
    · exact .inl rfl
  · exact .inl rfl

theorem railEnter_faults (st : RailState) : (railEnter st s).faults = s.faults := by
  unfold railEnter
  dsimp only
  split <;> rfl

/-- A test for quiet reports no fault and leaves sensing seen as it was; the links only grow. -/
theorem quietMove_frame :
    (quietMove s).faults = s.faults ∧ (quietMove s).rlc.sensingSeen = s.rlc.sensingSeen ∧ LinksGrow s (quietMove s) := by
  rcases quietMove_cases (s := s) with h | h | ⟨e, h⟩ <;> rw [h]
  · exact ⟨rfl, rfl, .refl⟩
  · exact ⟨railEnter_faults _, by simp [startHoming, startLeg, railEnter_rlc], startHoming_grow⟩
  · exact ⟨railEnter_faults _, by simp [startMove_rlc], startMove_grow e true⟩

theorem seeSensing_frame :
    (seeSensing s).faults = s.faults ∧ (seeSensing s).rlc.sensingSeen = true ∧ LinksGrow s (seeSensing s) := by
  unfold seeSensing
  split
  · rename_i hseen
    exact ⟨rfl, hseen, .refl⟩
  · obtain ⟨hf, hs, hl⟩ := quietMove_frame (s := onRlc (fun r => { r with sensingSeen := true }) s)
    exact ⟨hf, hs, LinksGrow.trans (.of_links rfl) hl⟩

/-! ## The depth streams at a frame end (R170) -/

theorem depthDue_iff {ls : LinkState} :
    ls.depthDue = true ↔ ls.depthPeriod ≠ 0 ∧ ls.depthPeriod ≤ ls.depthCount + 1 := by
  simp [LinkState.depthDue]

theorem depthTick_off {ls : LinkState} (h : ls.depthPeriod = 0) : depthTick s ls = ls := by
  simp [depthTick, h]

/-- Short of its period a stream counts the frame (R170). -/
theorem depthTick_counts {ls : LinkState} (h : ls.depthCount + 1 < ls.depthPeriod) :
    depthTick s ls = { ls with depthCount := ls.depthCount + 1 } := by
  have hdue : ¬ls.depthDue = true := fun hd => by
    obtain ⟨-, hle⟩ := depthDue_iff.mp hd
    omega
  simp [depthTick, hdue, show ls.depthPeriod ≠ 0 by omega]

/-- At its period a stream sends a numbered depth frame where a place is free (R170). -/
theorem depthTick_due {ls : LinkState} (h0 : ls.depthPeriod ≠ 0) (h : ls.depthPeriod ≤ ls.depthCount + 1) :
    depthTick s ls =
      { ls with
        depthCount := 0
        depthNumber := ls.depthNumber + 1
        tx := if ls.placeFree then ls.tx ++ [.depth (depthPayload s ls)] else ls.tx } := by
  simp only [depthTick, if_neg h0, depthDue_iff.mpr ⟨h0, h⟩, if_true]
  split <;> rfl

theorem depthTick_period (ls : LinkState) : (depthTick s ls).depthPeriod = ls.depthPeriod := by
  unfold depthTick
  dsimp only
  split_ifs <;> rfl

/-- A depth frame that finds no place free is counted as skipped (R170). -/
theorem skipCount_eq (ls : LinkState) (n : Nat) :
    skipCount ls n =
      if ls.depthPeriod ≠ 0 ∧ ls.depthPeriod ≤ ls.depthCount + 1 ∧ ls.placeFree = false then min (n + 1) 65535 else n := by
  simp only [skipCount, LinkState.depthDue, satInc, Bool.and_eq_true, decide_eq_true_eq, Bool.not_eq_true', and_assoc]

/-! ## The end of a frame (R13) -/

theorem frameEnd_rail : RailOnly s (frameEnd s) :=
  RailOnly.trans (t := onEveryLink (depthTick s) { s with faults := { s.faults with
    skipped := skipCount s.links.c (skipCount s.links.b (skipCount s.links.a s.faults.skipped)) } })
    ⟨_, _, _, _, rfl⟩ seeSensing_only

theorem frameEnd_faults : (frameEnd s).faults =
    { s.faults with skipped := skipCount s.links.c (skipCount s.links.b (skipCount s.links.a s.faults.skipped)) } :=
  seeSensing_frame.1

theorem frameEnd_sensingSeen : (frameEnd s).rlc.sensingSeen = true := seeSensing_frame.2.1

/-- A link after a frame end: its stream has counted it, and what the rail raised joined behind the depth frame. -/
theorem frameEnd_link (l : Link) : LinkGrows (depthTick s (s.link l)) ((frameEnd s).link l) := by
  obtain ⟨-, -, h⟩ := seeSensing_frame (s := onEveryLink (depthTick s) { s with faults := { s.faults with
    skipped := skipCount s.links.c (skipCount s.links.b (skipCount s.links.a s.faults.skipped)) } })
  have hl := h l
  rw [State.link_onEveryLink] at hl
  exact hl

/-! ## The walk (R4 to R13) -/

theorem exec_frameStart (h : frameDue s = true) : exec .frameStart s = .next (startFrame s) := by
  have he : exec .frameStart s = .next (if frameDue s then startFrame s else s) := rfl
  rw [he, if_pos h]

theorem exec_settleEnd {pos : WalkPos} (h : settleDue s = some pos) :
    exec .settleEnd s = .next (onSfe (fun f => { f with walk := .converting pos s.clock }) s) := by
  have he : exec .settleEnd s = execSettleEnd s := rfl
  simp only [he, execSettleEnd, h]

theorem exec_conversionEnd {rs : List AinResult} {pos : WalkPos} {t0 : Clock} (hp : s.phase = .running)
    (hw : s.sfe.walk = .converting pos t0) (ht : 4 ≤ elapsed s.clock t0) :
    exec (.conversionEnd rs) s =
      .next (nextEntry pos (rs.foldl (convertResult (s.sfe.active.entries[pos.index]).group t0) s)) := by
  have he : exec (.conversionEnd rs) s = execConversionEnd rs s := rfl
  have hdue : conversionDue s = some (pos, t0) := by simp [conversionDue, hp, hw, ht]
  simp only [he, execConversionEnd, hdue]

/-- An entry begins with its group selected: with a settle where that is a switch, at once where it is none (R8). -/
theorem beginEntry_eq (pos : WalkPos) :
    beginEntry pos s =
      let g := (s.sfe.active.entries[pos.index]).group
      { s with sfe := { s.sfe with
          selected := some g
          walk := if s.sfe.selected = some g then .converting pos s.clock else .settling pos s.clock } } := by
  unfold beginEntry
  dsimp only
  split
  · rename_i hsel
    simp only [onSfe, ← hsel]
  · rfl

/-- A frame starts with the list in force, its settle, its due time and its first entry (R7, R10, R11). -/
theorem startFrame_eq :
    startFrame s =
      let list := s.sfe.pendingList.getD s.sfe.active
      let g := (list.entries[list.first]).group
      { s with sfe := { s.sfe with
          active := list
          pendingList := none
          settle := s.cst.user.working.settle
          due := some (s.clock + BitVec.ofNat 32 s.cst.user.working.period)
          selected := some g
          walk := if s.sfe.selected = some g then .converting { index := list.first, count := 0 } s.clock
            else .settling { index := list.first, count := 0 } s.clock } } := by
  rw [startFrame, beginEntry_eq]
  rfl

theorem endsLate_iff :
    endsLate s = true ↔ ∃ d, s.sfe.due = some d ∧ d ≠ s.clock ∧ elapsed s.clock d < 2147483648 := by
  unfold endsLate
  cases s.sfe.due with
  | none => simp
  | some d => simp [reached]

/-- A walk's end up to the test for a late one: LIST_LOOP where it looped, the frame end, and the wait (R5, R11, R13). -/
def walkEnded (looped : Bool) (s : State) : State :=
  onSfe (fun f => { f with walk := .waiting }) (frameEnd (if looped then reportFault .listLoop s else s))

theorem frameEnd_reported_rail (looped : Bool) : RailOnly s (frameEnd (if looped then reportFault .listLoop s else s)) := by
  refine RailOnly.trans ?_ frameEnd_rail
  split
  · exact (reportFault_only _).rail
  · exact .refl

/-- A walk's end touches the walk, the rail, the journal, links and the fault record (R13). -/
theorem walkEnded_eq (looped : Bool) :
    ∃ rlc ajn links faults, walkEnded looped s =
      { s with sfe := { s.sfe with walk := .waiting }, rlc := rlc, ajn := ajn, links := links, faults := faults } := by
  obtain ⟨rlc, ajn, links, faults, h⟩ := frameEnd_reported_rail (s := s) looped
  exact ⟨rlc, ajn, links, faults, by rw [walkEnded, h]; rfl⟩

/-- Whether a walk ends late is told by the state before its end (R12). -/
theorem endsLate_walkEnded (looped : Bool) : endsLate (walkEnded looped s) = endsLate s := by
  obtain ⟨_, _, _, _, h⟩ := walkEnded_eq (s := s) looped
  rw [h]
  rfl

theorem endWalk_in_time (looped : Bool) (h : endsLate s = false) : endWalk looped s = walkEnded looped s := by
  rw [← endsLate_walkEnded looped] at h
  exact if_neg (Bool.eq_false_iff.mp h)

theorem endWalk_late (looped : Bool) (h : endsLate s = true) :
    endWalk looped s = startFrame (frameOverrun (walkEnded looped s)) := by
  rw [← endsLate_walkEnded looped] at h
  exact if_pos h

theorem frameOverrun_grow : LinksGrow s (frameOverrun s) := LinksGrow.trans (.of_links rfl) (raiseAll_grow _)

theorem frameOverrun_faults : (frameOverrun s).faults =
    (reportFault .frameOverrun { s with faults := { s.faults with overruns := satInc s.faults.overruns } }).faults := rfl

theorem walkEnded_faults (looped : Bool) :
    (walkEnded looped s).faults =
      { (if looped then reportFault .listLoop s else s).faults with
        skipped := skipCount s.links.c (skipCount s.links.b (skipCount s.links.a s.faults.skipped)) } := by
  have h : (walkEnded looped s).faults = (frameEnd (if looped then reportFault .listLoop s else s)).faults := rfl
  rw [h, frameEnd_faults]
  cases looped <;> rfl

theorem walkEnded_link (looped : Bool) (l : Link) : LinkGrows (depthTick s (s.link l)) ((walkEnded looped s).link l) := by
  have h := frameEnd_link (s := if looped then reportFault .listLoop s else s) l
  cases looped <;> exact h

/-- A walk's end, late or not, keeps every block that R13 does not name. -/
theorem endWalk_frame (looped : Bool) :
    ∃ sfe rlc ajn links faults, endWalk looped s =
      { s with sfe := sfe, rlc := rlc, ajn := ajn, links := links, faults := faults } := by
  obtain ⟨rlc, ajn, links, faults, h⟩ := walkEnded_eq (s := s) looped
  by_cases hl : endsLate s = true
  · rw [endWalk_late looped hl, h, startFrame_eq]
    exact ⟨_, _, _, _, _, rfl⟩
  · rw [endWalk_in_time looped (Bool.eq_false_iff.mpr hl), h]
    exact ⟨_, _, _, _, _, rfl⟩

theorem endWalk_sensingSeen (looped : Bool) : (endWalk looped s).rlc.sensingSeen = true := by
  have h : (walkEnded looped s).rlc.sensingSeen = true := frameEnd_sensingSeen
  by_cases hl : endsLate s = true
  · rw [endWalk_late looped hl, startFrame_eq]
    exact h
  · rw [endWalk_in_time looped (Bool.eq_false_iff.mpr hl), h]

/-- After a walk's end a link's stream has counted it, and what was raised joined behind the depth frame. -/
theorem endWalk_link (looped : Bool) (l : Link) : LinkGrows (depthTick s (s.link l)) ((endWalk looped s).link l) := by
  have h := walkEnded_link (s := s) looped l
  by_cases hl : endsLate s = true
  · rw [endWalk_late looped hl, startFrame_eq]
    exact h.trans (frameOverrun_grow l)
  · rw [endWalk_in_time looped (Bool.eq_false_iff.mpr hl)]
    exact h

/-- The fault record after a walk that ended in time (R5, R170). -/
theorem endWalk_faults_in_time (looped : Bool) (h : endsLate s = false) :
    (endWalk looped s).faults =
      { (if looped then reportFault .listLoop s else s).faults with
        skipped := skipCount s.links.c (skipCount s.links.b (skipCount s.links.a s.faults.skipped)) } := by
  rw [endWalk_in_time looped h, walkEnded_faults]

/-- The fault record after a late walk: an overrun is reported and counted besides (R12). -/
theorem endWalk_faults_late (looped : Bool) (h : endsLate s = true) :
    (endWalk looped s).faults =
      { (reportFault .frameOverrun (if looped then reportFault .listLoop s else s)).faults with
        overruns := satInc s.faults.overruns
        skipped := skipCount s.links.c (skipCount s.links.b (skipCount s.links.a s.faults.skipped)) } := by
  have hs : ∀ u : State, (startFrame u).faults = u.faults := fun u => by rw [startFrame_eq]
  rw [endWalk_late looped h, hs, frameOverrun_faults]
  simp only [reportFault, walkEnded_faults]
  cases looped <;> rfl

theorem endWalk_skipped (looped : Bool) :
    (endWalk looped s).faults.skipped =
      skipCount s.links.c (skipCount s.links.b (skipCount s.links.a s.faults.skipped)) := by
  by_cases hl : endsLate s = true
  · rw [endWalk_faults_late looped hl]
  · rw [endWalk_faults_in_time looped (Bool.eq_false_iff.mpr hl)]

/-- LIST_LOOP is flagged by the end of a walk that looped, and by no other (R5). -/
theorem endWalk_listLoop (looped : Bool) :
    (endWalk looped s).faults.flags.getLsbD 0 = (s.faults.flags.getLsbD 0 || looped) := by
  have hloop : (if looped then reportFault .listLoop s else s).faults.flags.getLsbD 0 =
      (s.faults.flags.getLsbD 0 || looped) := by
    cases looped <;> simp [reportFault_flag, FaultKind.code]
  by_cases hl : endsLate s = true
  · rw [endWalk_faults_late looped hl]
    dsimp only
    rw [reportFault_flag, hloop]
    simp [FaultKind.code]
  · rw [endWalk_faults_in_time looped (Bool.eq_false_iff.mpr hl)]
    exact hloop

/-- A walk that ends in time is no overrun (R12). -/
theorem endWalk_overruns_in_time (looped : Bool) (h : endsLate s = false) :
    (endWalk looped s).faults.overruns = s.faults.overruns
      ∧ (endWalk looped s).faults.flags.getLsbD 1 = s.faults.flags.getLsbD 1 := by
  rw [endWalk_faults_in_time looped h]
  cases looped with
  | false => exact ⟨rfl, rfl⟩
  | true =>
    refine ⟨rfl, ?_⟩
    have hflag := reportFault_flag (s := s) .listLoop 1
    simpa [FaultKind.code] using hflag

/-- A walk that ends late is counted and flagged as an overrun (R12). -/
theorem endWalk_overruns_late (looped : Bool) (h : endsLate s = true) :
    (endWalk looped s).faults.overruns = min (s.faults.overruns + 1) 65535
      ∧ (endWalk looped s).faults.flags.getLsbD 1 = true := by
  rw [endWalk_faults_late looped h]
  refine ⟨rfl, ?_⟩
  dsimp only
  rw [reportFault_flag]
  simp [FaultKind.code]

/-- The walk ends at the end flag (R5). -/
theorem nextEntry_last {pos : WalkPos} (h : (s.sfe.active.entries[pos.index]).last = true) :
    nextEntry pos s = endWalk false s := by
  simp only [nextEntry, h, if_true]

/-- The walk ends at the 64th entry without an end flag (R5). -/
theorem nextEntry_loops {pos : WalkPos} (h : (s.sfe.active.entries[pos.index]).last = false) (hc : 64 ≤ pos.count + 1) :
    nextEntry pos s = endWalk true s := by
  simp only [nextEntry, h, Bool.false_eq_true, if_false, if_pos (show Config.walkLimit ≤ pos.count + 1 from hc)]

/-- A walk ends with LIST_LOOP exactly when its last entry has no end flag (R5). -/
theorem nextEntry_ends {pos : WalkPos} (h : (s.sfe.active.entries[pos.index]).last = true ∨ 64 ≤ pos.count + 1) :
    nextEntry pos s = endWalk (!(s.sfe.active.entries[pos.index]).last) s := by
  by_cases hlast : (s.sfe.active.entries[pos.index]).last = true
  · rw [nextEntry_last hlast, hlast]
    rfl
  · rw [nextEntry_loops (Bool.eq_false_iff.mpr hlast) (h.resolve_left hlast), Bool.eq_false_iff.mpr hlast]
    rfl

/-- Short of its end a walk goes on to the entry's next index (R4). -/
theorem nextEntry_goes_on {pos : WalkPos} (h : (s.sfe.active.entries[pos.index]).last = false) (hc : pos.count + 1 < 64) :
    nextEntry pos s = beginEntry { index := (s.sfe.active.entries[pos.index]).next, count := pos.count + 1 } s := by
  simp only [nextEntry, h, Bool.false_eq_true, if_false,
    if_neg (show ¬Config.walkLimit ≤ pos.count + 1 from Nat.not_le.mpr hc)]

/-- The front end after a walk that ended in time waits (R11). -/
theorem endWalk_sfe_in_time (looped : Bool) (h : endsLate s = false) :
    (endWalk looped s).sfe = { s.sfe with walk := .waiting } := by
  obtain ⟨_, _, _, _, he⟩ := walkEnded_eq (s := s) looped
  rw [endWalk_in_time looped h, he]

/-- The front end after a late walk is in the next frame (R12). -/
theorem endWalk_sfe_late (looped : Bool) (h : endsLate s = true) : (endWalk looped s).sfe = (startFrame s).sfe := by
  obtain ⟨_, _, _, _, he⟩ := walkEnded_eq (s := s) looped
  rw [endWalk_late looped h, he, startFrame_eq, startFrame_eq]
  rfl

/-- Whatever comes next in a walk, the keys and the channel records stay (R4, R5). -/
theorem nextEntry_keys (pos : WalkPos) : (nextEntry pos s).keys = s.keys ∧ (nextEntry pos s).sfe.keyCh = s.sfe.keyCh := by
  have hend : ∀ b : Bool, (endWalk b s).keys = s.keys ∧ (endWalk b s).sfe.keyCh = s.sfe.keyCh := fun b => by
    obtain ⟨_, _, _, _, _, he⟩ := endWalk_frame (s := s) b
    refine ⟨by rw [he], ?_⟩
    by_cases hl : endsLate s = true
    · rw [endWalk_sfe_late b hl, startFrame_eq]
    · rw [endWalk_sfe_in_time b (Bool.eq_false_iff.mpr hl)]
  unfold nextEntry
  dsimp only
  split_ifs
  · exact hend false
  · exact hend true
  · rw [beginEntry_eq]
    exact ⟨rfl, rfl⟩

/-! ## Depth frames as bytes (R170, R174) -/

/-- In a list made of blocks of two, block `i` stands at place `2 i`. -/
theorem flatMap_pair_block {α β : Type} (f : α → List β) (hf : ∀ x, (f x).length = 2) (xs : List α) (i : Nat)
    (h : i < xs.length) (rest : List β) : ((xs.flatMap f ++ rest).drop (2 * i)).take 2 = f xs[i] := by
  induction xs generalizing i with
  | nil => exact absurd h (by simp)
  | cons x xs ih =>
    cases i with
    | zero => simp [← hf x]
    | succ i =>
      have hi : 2 * (i + 1) = (f x).length + 2 * i := by rw [hf]; omega
      rw [List.flatMap_cons, List.append_assoc, hi, ← List.drop_drop, List.drop_left, List.getElem_cons_succ]
      exact ih i (by simpa using h)

/-- The depths of a depth frame, and the pedals' behind them. -/
theorem depthPayload_eq (ls : LinkState) :
    depthPayload s ls = [kDepth, ls.depthNumber, byteOf ls.base0.val, byteOf ls.base1.val]
      ++ ((List.finRange 16).flatMap (fun p => le16 (s.key (windowKey ls p)).depth)
        ++ (le16 s.pdu.damper.depth ++ le16 s.pdu.sostenuto.depth ++ le16 s.pdu.soft.depth)) := by
  simp [depthPayload]

/-- The depth at window position `i` of a depth frame (R169, R170). -/
theorem depthPayload_window (ls : LinkState) (i : Fin 16) :
    ((depthPayload s ls).drop (4 + 2 * i.val)).take 2 = le16 (s.key (windowKey ls i)).depth := by
  rw [depthPayload_eq, ← List.drop_drop]
  have h := flatMap_pair_block (fun p => le16 (s.key (windowKey ls p)).depth) (fun _ => rfl) (List.finRange 16) i.val
    (by simp) (le16 s.pdu.damper.depth ++ le16 s.pdu.sostenuto.depth ++ le16 s.pdu.soft.depth)
  simpa using h

/-- A depth frame has 42 bytes, the pedals' depths the last six (R174). -/
theorem depthPayload_pedals (ls : LinkState) :
    (depthPayload s ls).drop 36 = le16 s.pdu.damper.depth ++ le16 s.pdu.sostenuto.depth ++ le16 s.pdu.soft.depth := by
  have hlen : ((List.finRange 16).flatMap (fun p => le16 (s.key (windowKey ls p)).depth)).length = 32 := by
    simp [List.length_flatMap, le16]
  rw [depthPayload_eq, show 36 = 4 + 32 from rfl, ← List.drop_drop, ← hlen]
  exact List.drop_left

/-- FRAME_START at the due time (R7, R10, R11). -/
theorem frameStart_starts {d : Clock} (hp : s.phase = .running) (hw : s.sfe.walk = .waiting) (hd : s.sfe.due = some d)
    (he : elapsed s.clock d < 2147483648) : exec .frameStart s = .next (startFrame s) :=
  exec_frameStart (by simp [frameDue, hp, hw, hd, reached, he])

/-- SETTLE_END once the settle interval has passed (R8, R9). -/
theorem settleEnd_samples {pos : WalkPos} {since : Clock} (hp : s.phase = .running)
    (hw : s.sfe.walk = .settling pos since) (he : s.sfe.settle ≤ elapsed s.clock since) :
    exec .settleEnd s = .next (onSfe (fun f => { f with walk := .converting pos s.clock }) s) :=
  exec_settleEnd (by simp [settleDue, hp, hw, he])

/-- What a conversion and the next step of its walk leave of the part, where the walk stands, and what its keys show. -/
theorem conversionEnd_goes_on {rs : List AinResult} {pos : WalkPos} {t0 : Clock} (hp : s.phase = .running)
    (hw : s.sfe.walk = .converting pos t0) (ht : 4 ≤ elapsed s.clock t0) :
    ∃ t, exec (.conversionEnd rs) s = .next t
      ∧ t.pending = s.pending ∧ t.cst = s.cst ∧ t.roles = s.roles ∧ t.clock = s.clock
      ∧ ((s.sfe.active.entries[pos.index]).last = false → pos.count + 1 < 64 →
          t.sfe.walk = .settling { index := (s.sfe.active.entries[pos.index]).next, count := pos.count + 1 } s.clock
            ∨ t.sfe.walk = .converting { index := (s.sfe.active.entries[pos.index]).next, count := pos.count + 1 } s.clock)
      ∧ ∀ r ∈ rs, ∀ g, (s.sfe.active.entries[pos.index]).group = .k g → (rs.map (·.ain)).Nodup →
          (t.sfe.keyCh[groupKey g r.ain]).lastRaw = some r.raw
            ∧ ((s.sfe.keyCh[groupKey g r.ain]).failed = false → 40 ≤ r.raw → r.raw ≤ 4055 →
                (t.key (groupKey g r.ain)).depth =
                  normalise (s.cst.factory.working.keySensor[groupKey g r.ain]).keyRest
                    (s.cst.factory.working.keySensor[groupKey g r.ain]).keyBottom r.raw) := by
  refine ⟨_, exec_conversionEnd hp hw ht, ?_⟩
  generalize hu : rs.foldl (convertResult (s.sfe.active.entries[pos.index]).group t0) s = u
  have hact : u.sfe.active = s.sfe.active := by
    have hch : ChannelsOnly s u := hu ▸ foldl_convertResult_channels _ t0 rs s
    rw [show u.sfe = _ from hch]
  obtain ⟨_, _, _, _, _, _, _, _, _, _, hsense⟩ : SenseOnly s (nextEntry pos u) :=
    (hu ▸ foldl_convertResult_only _ t0 rs s).trans (nextEntry_only pos)
  have hclock : u.clock = s.clock := by
    obtain ⟨_, _, _, _, _, _, _, _, _, _, h⟩ : SenseOnly s u := hu ▸ foldl_convertResult_only _ t0 rs s
    rw [h]
  obtain ⟨hkeys, hkeyCh⟩ := nextEntry_keys (s := u) pos
  refine ⟨by rw [hsense], by rw [hsense], by rw [hsense], by rw [hsense], fun hlast hc => ?_, fun r hr g hg hnd => ?_⟩
  · rw [nextEntry_goes_on (by rw [hact]; exact hlast) hc, beginEntry_eq, hact, hclock]
    dsimp only
    split
    · exact .inr rfl
    · exact .inl rfl
  · rw [hg] at hu
    obtain ⟨hraw, hdepth⟩ := foldl_convertResult_present g t0 hnd hr s
    rw [hu] at hraw hdepth
    have hkey : ∀ k, (nextEntry pos u).key k = u.key k := fun k => by rw [State.key, hkeys]; rfl
    rw [hkeyCh, hkey]
    exact ⟨hraw, hdepth⟩

/-- What the end of a walk leaves of each link's depth stream (R13, R170). -/
theorem endWalk_depthStream (looped : Bool) (l : Link) :
    let t := endWalk looped s
    (t.link l).depthPeriod = (s.link l).depthPeriod
      ∧ ((s.link l).depthPeriod = 0 → (t.link l).depthCount = (s.link l).depthCount
          ∧ (t.link l).depthNumber = (s.link l).depthNumber)
      ∧ ((s.link l).depthCount + 1 < (s.link l).depthPeriod → (t.link l).depthCount = (s.link l).depthCount + 1
          ∧ (t.link l).depthNumber = (s.link l).depthNumber)
      ∧ ((s.link l).depthPeriod ≠ 0 → (s.link l).depthPeriod ≤ (s.link l).depthCount + 1 →
          (t.link l).depthCount = 0 ∧ (t.link l).depthNumber = (s.link l).depthNumber + 1
            ∧ ((s.link l).placeFree = true → (s.link l).tx ++ [.depth (depthPayload s (s.link l))] <+: (t.link l).tx)
            ∧ ((s.link l).placeFree = false → (t.link l).tx = (s.link l).tx)) := by
  intro t
  obtain ⟨hperiod, hcount, hnumber, htx, hfull⟩ := endWalk_link (s := s) looped l
  refine ⟨hperiod.trans (depthTick_period _), fun h0 => ?_, fun hlt => ?_, fun h0 hle => ?_⟩
  · rw [depthTick_off h0] at hcount hnumber
    exact ⟨hcount, hnumber⟩
  · rw [depthTick_counts hlt] at hcount hnumber
    exact ⟨hcount, hnumber⟩
  · rw [depthTick_due h0 hle] at hcount hnumber htx hfull
    refine ⟨hcount, hnumber, fun hf => ?_, fun hf => ?_⟩
    · simpa [hf] using htx
    · simp only [hf, Bool.false_eq_true, if_false] at hfull
      exact hfull hf

/-- Settles O53: the steps of the front end, the end of a walk, the depth frame and the channel test, each by its own
lemmas above. -/
theorem walkGoesOn : Obligations.WalkGoesOn := by
  refine ⟨fun s hp => ⟨fun d hw hd he => ?frameStart, fun pos since hw he => settleEnd_samples hp hw he,
      fun rs pos t0 hw ht => conversionEnd_goes_on hp hw ht⟩,
    fun rs pos t0 s hp hw ht => ⟨_, exec_conversionEnd hp hw ht, rfl, foldl_convertResult_channels _ t0 rs s⟩,
    fun pos s => ⟨fun hlast hc => ?goesOn, fun hend => ?walkEnds⟩, fun s ls p j k hj hk => ?depthFrame,
    fun ch raw => ?channel⟩
  case frameStart =>
    refine ⟨startFrame s, frameStart_starts hp hw hd he, ?_⟩
    rw [startFrame_eq]
    exact ⟨rfl, rfl, rfl, rfl, rfl, rfl, rfl, if_congr eq_comm rfl rfl⟩
  case goesOn =>
    rw [nextEntry_goes_on hlast hc, beginEntry_eq]
    exact ⟨rfl, rfl⟩
  case walkEnds =>
    rw [nextEntry_ends hend]
    obtain ⟨_, _, _, _, _, hframe⟩ := endWalk_frame (s := s) (!(s.sfe.active.entries[pos.index]).last)
    refine ⟨endWalk_sensingSeen _, endWalk_listLoop _, by rw [hframe], by rw [hframe], by rw [hframe], by rw [hframe],
      by rw [hframe], by rw [hframe], endWalk_depthStream _, ?_, fun hlate => ?_, fun hlate => ?_⟩
    · rw [endWalk_skipped, skipCount_eq, skipCount_eq, skipCount_eq]
      rfl
    · have hl : endsLate s = false := Bool.eq_false_iff.mpr (mt endsLate_iff.mp hlate)
      exact ⟨endWalk_sfe_in_time _ hl, endWalk_overruns_in_time _ hl⟩
    · have hl : endsLate s = true := endsLate_iff.mpr hlate
      obtain ⟨hcount, hflag⟩ := endWalk_overruns_late (!(s.sfe.active.entries[pos.index]).last) hl
      have hsfe := endWalk_sfe_late (!(s.sfe.active.entries[pos.index]).last) hl
      rw [startFrame_eq] at hsfe
      exact ⟨hcount, hflag, hsfe, by rw [muxSelect, hsfe]⟩
  case depthFrame =>
    have hlo : windowKey ls ⟨p.val, by omega⟩ = j := Fin.ext (by simp [windowKey, hj])
    have hhi : windowKey ls ⟨8 + p.val, by omega⟩ = k := Fin.ext (by simp [windowKey, hk])
    refine ⟨by simp [depthPayload_eq, List.length_flatMap, le16], by rw [depthPayload_eq]; rfl,
      hlo ▸ depthPayload_window ls ⟨p.val, by omega⟩, ?_, depthPayload_pedals ls⟩
    have h := depthPayload_window (s := s) ls ⟨8 + p.val, by omega⟩
    rw [hhi, show 4 + 2 * (8 + p.val) = 20 + 2 * p.val by omega] at h
    exact h
  case channel =>
    exact ⟨channelTest_healthy_in, channelTest_healthy_out, channelTest_fails, channelTest_failed_out, channelTest_failed_in,
      channelTest_recovers⟩

end Sys2Proof.Machine
end

section
namespace Sys2Proof.Machine

variable {s t u : State}

/-! ## The invariants at the reset -/

@[simp] theorem State.reset_key (k : Key) : State.reset.key k = {} := by
  simp [State.reset, State.key]

@[simp] theorem State.reset_link (l : Link) : State.reset.link l = {} := by
  cases l <;> rfl

@[simp] theorem State.reset_take (n : TakeNo) : State.reset.take n = {} := by
  simp [State.reset, State.take, Tks.initial]

theorem LinkState.entry_initial (i : Fin 8) : LinkState.entry {} i = {} := by
  simp [LinkState.entry]

theorem reset_linksBounded : LinksBounded State.reset := fun l => by
  simp [LinkState.bounded]

theorem reset_noticesAgree : NoticesAgree State.reset := fun l i => by
  rw [State.reset_link, LinkState.entry_initial]
  exact ⟨rfl, fun _ => rfl⟩

theorem reset_journalSound : JournalSound State.reset :=
  ⟨⟨by decide, fun i h => absurd h (Nat.not_lt_zero i)⟩, fun l st h => by simp at h⟩

theorem reset_voicesSound : VoicesSound State.reset :=
  ⟨by decide, fun _ => ⟨rfl, fun n => by simp [State.reset, State.slot, Vas.initial]⟩⟩

/-- No take owns a block at the reset (R124, R126). -/
theorem reset_takeChain (n : TakeNo) : takeChain State.reset n = [] := by
  simp [takeChain]

theorem reset_takesSound : TakesSound State.reset := by
  have hchain : ∀ n, ChainSound State.reset n := fun n => by
    simp [ChainSound, reset_takeChain, takeRecords]
  have hfree : ∀ b : Block, State.reset.tks.blocks[b] = .free := fun b => by simp [State.reset, Tks.initial]
  refine ⟨fun n m h => ?_, fun n h => ?_, fun n h => ?_, fun ss h => ?_, hchain, fun n m b h => ?_, fun b h => ?_⟩
  · simp [TakeEntry.open_] at h
  · exact absurd h (by simp [State.reset, Tks.initial, Recorder.names])
  · exact absurd h (by simp [State.reset, Tks.initial])
  · exact absurd h (by simp [State.reset])
  · simp [reset_takeChain] at h
  · exact absurd (hfree b) h

theorem reset_expectedWhileWaiting : ExpectedWhileWaiting State.reset :=
  ⟨fun h => absurd rfl h, False.elim⟩

theorem reset_heldOutKeysQuiet : HeldOutKeysQuiet State.reset := fun k => by
  simp [KeyRec.quietWhenHeldOut]

/-- Settles O5: each invariant read off the reset values. -/
theorem invariantsHoldAtReset : Obligations.InvariantsHoldAtReset :=
  ⟨reset_linksBounded, reset_noticesAgree, reset_journalSound, reset_voicesSound, rfl, reset_takesSound, reset_mem_wf,
    reset_expectedWhileWaiting, ⟨fun _ => rfl, fun _ => rfl⟩, reset_heldOutKeysQuiet⟩

/-! ## CAL WRITE (R186) -/

theorem exec_calWrite {l : Link} {args : List Byte} (h : headRequest l s = some (kCalWrite, args)) :
    exec (.calWrite l) s = .next (putReply l kCalWrite
      (calWriteEffect l args (popRequest l s)).2 (calWriteEffect l args (popRequest l s)).1) :=
  congrArg Host.Outcome.next (serve_taken _ h)

/-- Entries that pass every test of R186 are stored and answered. -/
theorem calWriteEffect_done {l : Link} {args : List Byte} {r : Region} {first : Nat} {es : List CalEntry}
    (hl : fromCalLink s l = true) (ha : calWriteArgs args = some (r, first, es)) (hp : isProtected s r = false)
    (hb : s.cst.inFlight r = false) (ho : ∀ x ∈ es, x.ordered = true) :
    calWriteEffect l args s =
      done (calStore r first es s)
        ([byteOf ((calStore r first es s).cst.status r), byteOf es.length] ++ calEntryBytes es) := by
  have hall : es.all CalEntry.ordered = true := List.all_eq_true.mpr ho
  simp [calWriteEffect, hl, ha, hp, hb, hall]

/-- The modified flag of a region is no part of its working copy. -/
@[simp] theorem Cst.markModified_factory (k : Cst) (r : Region) : (k.markModified r).factory.working = k.factory.working := by
  cases r <;> rfl

@[simp] theorem Cst.markModified_user (k : Cst) (r : Region) : (k.markModified r).user.working = k.user.working := by
  cases r <;> rfl

theorem perKeyChanged_markModified (old new : Cst) (r : Region) :
    perKeyChanged old (new.markModified r) = perKeyChanged old new := by
  funext k
  simp [perKeyChanged]

/-- The hammers of the selected keys are READY with no sample held (R42). -/
theorem State.key_resetHammers (changed : Key → Bool) (k : Key) :
    (resetHammers changed s).key k = if changed k then (s.key k).calibrated else s.key k := by
  simp [resetHammers, State.key]

/-- With the lever mode unchanged a new working copy acts on hammers, and the rail tests for quiet under it (R42, R109). -/
theorem installCst_sameLever {new : Cst}
    (h : new.factory.working.option.leverDemand = s.cst.factory.working.option.leverDemand) :
    installCst new s = quietMove (resetHammers (perKeyChanged s.cst new) (onCst (fun _ => new) s)) :=
  if_pos h.symm

/-- Entries stored under the same lever mode (R42, R109, R186). -/
theorem calStore_sameLever {r : Region} {first : Nat} {es : List CalEntry} (he : es ≠ [])
    (h : (s.cst.storeAll first es).factory.working.option.leverDemand = s.cst.factory.working.option.leverDemand) :
    calStore r first es s =
      quietMove (resetHammers (perKeyChanged s.cst (s.cst.storeAll first es))
        (onCst (fun _ => (s.cst.storeAll first es).markModified r) s)) := by
  rw [calStore, if_neg he, installCst_sameLever (by rw [Cst.markModified_factory, h]), perKeyChanged_markModified]

/-- Settles O45: the request taken, its entries stored as they passed, and the store installed under the same lever
mode. -/
theorem calWriteStoresEntries : Obligations.CalWriteStoresEntries := by
  intro l args r first es s h hl ha hp hb ho
  rw [exec_calWrite h, calWriteEffect_done (s := popRequest l s) hl ha hp hb ho]
  refine ⟨fun hne hlever => ?_, fun he => ?_⟩
  · rw [calStore_sameLever (s := popRequest l s) hne hlever]
    exact ⟨_, _, rfl, rfl, fun k => State.key_resetHammers _ k⟩
  · subst he
    rfl

end Sys2Proof.Machine
end

section
namespace Sys2Proof.Machine

variable {s t u : State}

/-! ## What holds across everything an event makes

The blocks an event is handed to act on the part by a few operations only. A relation between states that is closed under
those holds across the handling of the whole event. -/

/-- A relation that holds across each operation by which the handling of an event changes the part. -/
structure EventClosed (R : State → State → Prop) : Prop where
  refl : ∀ s, R s s
  trans : ∀ {a b c}, R a b → R b c → R a c
  vas : ∀ f s, R s (onVas f s)
  tks : ∀ f s, R s (onTks f s)
  ply : ∀ f s, R s (onPly f s)
  raised : ∀ c s, R s (raiseAll c s)
  appended : ∀ e s, R s (appendEvent e s)
  refused : ∀ s, R s (refuseVoice s)
  stolen : ∀ s, R s { s with faults := { s.faults with steals := satInc s.faults.steals } }
  takeFull : ∀ s, R s (reportFault .takeFull s)

namespace EventClosed

variable {R : State → State → Prop} (c : EventClosed R)

include c

/-! ### The voice assigner -/

protected theorem queueOrder (o : VoiceOrder) (s : State) : R s (queueOrder o s) := by
  unfold queueOrder
  dsimp only
  split
  · exact c.trans (c.vas _ _) (c.raised _ _)
  · exact c.vas _ _

protected theorem dampOrder (n : Slot) (x : Nat) (s : State) : R s (dampOrder n x s) := by
  unfold dampOrder
  dsimp only
  split
  · exact c.trans (c.vas _ _) (c.vas _ _)
  · split
    · exact c.trans (c.vas _ _) (c.queueOrder _ _)
    · exact c.vas _ _

protected theorem recomputeSlot (n : Slot) (s : State) : R s (recomputeSlot n s) := by
  unfold recomputeSlot
  dsimp only
  split
  · exact c.refl _
  · split
    · exact c.trans (c.vas _ _) (c.dampOrder _ _ _)
    · exact c.vas _ _

protected theorem recomputeWhere (p : Voice → Bool) (s : State) : R s (recomputeWhere p s) := by
  refine foldl_rel c.refl c.trans (fun s n => ?_) _ _
  split
  · split
    · exact c.recomputeSlot _ _
    · exact c.refl _
  · exact c.refl _

protected theorem assignSlot (n : Slot) (li : Fin 4) (k : Key) (src : Source) (v : Nat) (retrigger steal : Bool) (s : State) :
    R s (assignSlot n li k src v retrigger steal s) :=
  c.trans (c.trans (c.trans (c.vas _ _) (c.vas _ _)) (c.queueOrder _ _)) (c.recomputeSlot _ _)

protected theorem strikeLayer (k : Key) (src : Source) (v : Nat) (acc : State × List Slot) (li : Fin 4) :
    R acc.1 (strikeLayer k src v acc li).1 := by
  unfold strikeLayer
  dsimp only
  split
  · split
    · exact c.refused _
    · split
      · exact c.assignSlot _ _ _ _ _ _ _ _
      · split
        · exact c.assignSlot _ _ _ _ _ _ _ _
        · split
          · exact c.trans (c.stolen _) (c.assignSlot _ _ _ _ _ _ _ _)
          · exact c.refl _
  · exact c.refl _

protected theorem voiceStrike (k : Key) (src : Source) (v : Nat) (s : State) : R s (voiceStrike k src v s) := by
  have hfold : ∀ (ls : List (Fin 4)) (acc : State × List Slot), R acc.1 (ls.foldl (strikeLayer k src v) acc).1 := by
    intro ls
    induction ls with
    | nil => exact fun acc => c.refl acc.1
    | cons l ls ih => exact fun acc => c.trans (c.strikeLayer k src v acc l) (ih _)
  unfold voiceStrike
  split
  · exact hfold _ (s, [])
  · exact c.refl _

protected theorem voiceEvent (e : Event) (s : State) : R s (voiceEvent e s) := by
  unfold voiceEvent
  split
  · split
    · exact c.voiceStrike _ _ _ _
    · exact c.refl _
  · exact c.refl _

protected theorem softOrder (src : Source) (s : State) : R s (softOrder src s) := by
  unfold softOrder
  dsimp only
  split
  · exact c.trans (c.vas _ _) (c.queueOrder _ _)
  · exact c.vas _ _

protected theorem softChanged (src : Source) (s : State) : R s (softChanged src s) := by
  unfold softChanged
  dsimp only
  split
  · exact c.softOrder _ _
  · exact c.refl _

/-! ### The take store -/

protected theorem onTake (n : TakeNo) (f : TakeEntry → TakeEntry) (s : State) : R s (onTake n f s) := c.tks _ s

protected theorem allocateBlock (n : TakeNo) (s : State) : R s (allocateBlock n s) := by
  unfold allocateBlock
  split
  · exact c.refl _
  · dsimp only
    split
    · exact c.trans (c.tks _ _) (c.tks _ _)
    · exact c.trans (c.tks _ _) (c.tks _ _)

protected theorem appendRecord (n : TakeNo) (s : State) (r : TakeRec) : R s (appendRecord n s r) := by
  have hblock : R s (if 256 * (takeChain s n).length ≤ (s.take n).count then allocateBlock n s else s) := by
    split
    · exact c.allocateBlock n s
    · exact c.refl s
  have hwrite : ∀ (u : State) (i : Nat), R u (match recordAddr u n i with
      | some a => onTks (fun k => { k with mem := TakeMem.write k.mem a r }) u
      | none => u) := by
    intro u i
    split
    · exact c.tks _ _
    · exact c.refl u
  exact c.trans (c.trans hblock (hwrite _ _)) (c.onTake _ _ _)

protected theorem appendRecords (n : TakeNo) (rs : List TakeRec) (s : State) : R s (appendRecords n rs s) :=
  foldl_rel c.refl c.trans (c.appendRecord n) rs s

protected theorem truncateTake (n : TakeNo) (s : State) : R s (truncateTake n s) :=
  c.trans (c.trans (c.trans (c.tks _ _) (c.tks _ _)) (c.takeFull _)) (c.raised _ _)

protected theorem writeRecord (n : TakeNo) (ms : Nat) (k : TakeKind) (key : Key) (v : Nat) (s : State) :
    R s (writeRecord n ms k key v s) := by
  unfold writeRecord
  dsimp only
  split
  · exact c.appendRecords _ _ _
  · exact c.truncateTake _ _

protected theorem recordLive (n : TakeNo) (r : RecInfo) (e : Event) (s : State) : R s (recordLive n r e s) := by
  unfold recordLive
  split
  · exact c.refl _
  · exact c.trans (c.tks _ _) (c.writeRecord _ _ _ _ _ _)

protected theorem startTake (n : TakeNo) (start : Clock) (s : State) : R s (startTake n start s) :=
  c.trans (c.tks _ _) (c.appendRecords _ _ _)

protected theorem recorderEvent (e : Event) (s : State) : R s (recorderEvent e s) := by
  unfold recorderEvent
  split
  · split
    · exact c.refl _
    · split
      · dsimp only
        split
        · exact c.trans (c.startTake _ _ _) (c.trans (c.recordLive _ _ _ _) (c.raised _ _))
        · exact c.startTake _ _ _
      · exact c.refl _
    · exact c.recordLive _ _ _ _
  · exact c.refl _

/-! ### The player -/

protected theorem playbackEvent (k : EventKind) (key : Option Nat) (v : Nat) (guide : Bool) (s : State) :
    R s (playbackEvent k key v guide s) :=
  c.trans (c.trans (c.appended _ _) (c.voiceEvent _ _)) (c.recorderEvent _ _)

protected theorem playMark (m : Mark) (n : TakeNo) (s : State) : R s (playMark m n s) := c.playbackEvent _ _ _ _ _

protected theorem setPlayKeys (S : KeySet) (s : State) : R s (setPlayKeys S s) := by
  unfold setPlayKeys
  dsimp only
  split
  · exact c.ply _ _
  · exact c.trans (c.ply _ _) (c.recomputeWhere _ _)

protected theorem setPlaySost (on : Bool) (S : KeySet) (s : State) : R s (setPlaySost on S s) := by
  unfold setPlaySost
  dsimp only
  split
  · exact c.ply _ _
  · exact c.trans (c.ply _ _) (c.recomputeWhere _ _)

protected theorem setPlayDamper (x : Nat) (s : State) : R s (setPlayDamper x s) := by
  unfold setPlayDamper
  dsimp only
  split
  · exact c.ply _ _
  · exact c.trans (c.ply _ _) (c.recomputeWhere _ _)

protected theorem setPlaySoft (x : Nat) (s : State) : R s (setPlaySoft x s) := by
  unfold setPlaySoft
  dsimp only
  split
  · exact c.ply _ _
  · exact c.trans (c.ply _ _) (c.softChanged _ _)

protected theorem playRecord (r : TakeRec) (s : State) : R s (playRecord r s) := by
  unfold playRecord
  dsimp only
  split
  · split
    · exact c.playbackEvent _ _ _ _ _
    · exact c.trans (c.setPlayKeys _ _) (c.playbackEvent _ _ _ _ _)
  · split
    · split
      · exact c.setPlayKeys _ _
      · exact c.trans (c.setPlayKeys _ _) (c.playbackEvent _ _ _ _ _)
    · exact c.trans (c.setPlayKeys _ _) (c.playbackEvent _ _ _ _ _)
  · exact c.trans (c.setPlayDamper _ _) (c.playbackEvent _ _ _ _ _)
  · exact c.trans (c.setPlaySoft _ _) (c.playbackEvent _ _ _ _ _)
  · split
    · split
      · exact c.playbackEvent _ _ _ _ _
      · exact c.trans (c.setPlaySost _ _ _) (c.playbackEvent _ _ _ _ _)
    · split
      · exact c.trans (c.setPlaySost _ _ _) (c.playbackEvent _ _ _ _ _)
      · exact c.playbackEvent _ _ _ _ _
  · exact c.refl _

protected theorem advanceCursor (s : State) : R s (advanceCursor s) := by
  unfold advanceCursor
  dsimp only
  split
  · split
    · exact c.trans (c.ply _ _) (c.ply _ _)
    · exact c.ply _ _
  · exact c.ply _ _

protected theorem collectChord (n : Nat) (rs : List (TakeRec × Nat)) (s : State) : R s (collectChord n rs s) := by
  unfold collectChord
  dsimp only
  split
  · exact c.refl _
  · exact c.trans (c.trans (c.ply _ _) (c.playMark _ _ _)) (c.raised _ _)

protected theorem playFrom (rs : List (TakeRec × Nat)) (s : State) : R s (playFrom rs s) := by
  induction rs generalizing s with
  | nil => exact c.refl s
  | cons x rs ih =>
    unfold playFrom
    split
    · exact c.refl s
    · split
      · split
        · exact c.collectChord _ _ _
        · exact c.trans (c.trans (c.playRecord _ _) (c.advanceCursor _)) (ih _)
      · exact c.refl s

protected theorem playDue (s : State) : R s (playDue s) := by
  unfold playDue
  split
  · exact c.playFrom _ _
  · exact c.refl _

protected theorem endPlayback (m : Mark) (s : State) : R s (endPlayback m s) := by
  unfold endPlayback
  split
  · exact c.refl _
  · have hvalues := c.trans (c.trans (c.trans (c.setPlayKeys KeySet.empty s) (c.setPlaySost false KeySet.empty _))
      (c.setPlayDamper 0 _)) (c.setPlaySoft 0 _)
    exact c.trans (c.trans (c.trans hvalues (c.ply _ _)) (c.playMark _ _ _)) (c.trans (c.ply _ _) (c.raised _ _))

protected theorem endIfPast (s : State) : R s (endIfPast s) := by
  unfold endIfPast
  split
  · split
    · exact c.endPlayback _ _
    · exact c.refl _
  · exact c.refl _

protected theorem endWait (m : Mark) (n : TakeNo) (s : State) : R s (endWait m n s) :=
  c.trans (c.trans (c.trans (c.playMark _ _ _) (c.ply _ _)) (c.raised _ _)) (c.trans (c.playDue _) (c.endIfPast _))

protected theorem playerEvent (e : Event) (s : State) : R s (playerEvent e s) := by
  unfold playerEvent
  split
  · split
    · split
      · dsimp only
        split
        · exact c.trans (c.ply _ _) (c.endWait _ _ _)
        · exact c.ply _ _
      · exact c.refl _
    · exact c.refl _
  · exact c.refl _

/-! ### The events of the tracker and of the pedal unit -/

protected theorem pedalEvent (e : Event) (s : State) : R s (pedalEvent e s) :=
  c.trans (c.trans (c.appended _ _) (c.voiceEvent _ _)) (c.recorderEvent _ _)

protected theorem trackerEvent (e : Event) (s : State) : R s (trackerEvent e s) := c.trans (c.pedalEvent e s) (c.playerEvent e _)

end EventClosed

end Sys2Proof.Machine
end

section
namespace Sys2Proof.Machine

variable {s t u : State}

/-! ## The faults of the sensors under an event (R33, R39) -/

/-- The count of missed strikes and the flag SENSOR_FAIL are the same. -/
def SensingFaultsKept (s t : State) : Prop :=
  t.faults.missed = s.faults.missed ∧ t.faults.flags.getLsbD 2 = s.faults.flags.getLsbD 2

theorem SensingFaultsKept.of_faults (h : t.faults = s.faults) : SensingFaultsKept s t := by
  simp [SensingFaultsKept, h]

theorem SensingFaultsKept.trans (h : SensingFaultsKept s t) (g : SensingFaultsKept t u) : SensingFaultsKept s u :=
  ⟨g.1.trans h.1, g.2.trans h.2⟩

/-- No event counts a missed strike or reports a sensor. -/
theorem sensingFaultsKept_closed : EventClosed SensingFaultsKept where
  refl _ := .of_faults rfl
  trans := .trans
  vas _ _ := .of_faults rfl
  tks _ _ := .of_faults rfl
  ply _ _ := .of_faults rfl
  raised _ _ := .of_faults rfl
  appended _ _ := .of_faults rfl
  refused _ := ⟨rfl, (reportFault_flag _ 2).trans (by simp [FaultKind.code])⟩
  stolen _ := ⟨rfl, rfl⟩
  takeFull _ := ⟨rfl, (reportFault_flag _ 2).trans (by simp [FaultKind.code])⟩

/-! ## The tracker's events (R22) -/

/-- Before the player is handed it, an event is in the journal and has reached voices and recorder (R22, log 49). -/
theorem pedalEvent_eq (e : Event) :
    ∃ vas tks links faults, pedalEvent e s =
      { s with ajn := s.ajn.push e, vas := vas, tks := tks, links := links, faults := faults } := by
  obtain ⟨vas, _, _, hv⟩ := voiceEvent_only (s := appendEvent e s) e
  obtain ⟨tks, links, faults, hr⟩ := recorderEvent_only (s := voiceEvent e (appendEvent e s)) e
  refine ⟨vas, tks, links, faults, ?_⟩
  rw [pedalEvent, hr, hv]
  rfl

/-- An event changes no key's record. -/
theorem trackerEvent_keys (e : Event) : (trackerEvent e s).keys = s.keys := by
  obtain ⟨_, _, _, _, hp⟩ := pedalEvent_eq (s := s) e
  obtain ⟨_, _, _, _, _, h⟩ := playerEvent_only (s := pedalEvent e s) e
  rw [trackerEvent, ← pedalEvent, h, hp]

theorem finOf_val {n : Nat} (i : Fin n) : finOf n i.val = some i := by
  simp [finOf]

/-- A player that does not wait for the key does nothing with its strike (R158). -/
theorem playerEvent_not_awaited {e : Event} {k : Key} (hk : e.key = some k.val)
    (h : s.ply.isWaiting = false ∨ s.ply.expected.has k = false) : playerEvent e s = s := by
  unfold playerEvent
  split
  · rename_i hw
    have hhas : s.ply.expected.has k = false := h.resolve_left (by simp [hw.2.2])
    split
    · rename_i k' _ hk' _
      obtain rfl : k = k' := by simpa [hk, finOf_val] using hk'
      rw [if_neg (by simp [hhas])]
    · rfl
  · rfl

/-- A player that waits for the key and for others no longer waits for the key (R158). -/
theorem playerEvent_awaited {e : Event} {k : Key} (hk : e.key = some k.val) (hl : e.source = .live)
    (hs : e.kind = .strike ∨ e.kind = .restrike) (hw : s.ply.isWaiting = true) (hhas : s.ply.expected.has k = true)
    (hne : s.ply.expected.drop k ≠ KeySet.empty) :
    playerEvent e s = onPly (fun p => { p with expected := s.ply.expected.drop k }) s := by
  obtain ⟨ss, hss⟩ : ∃ ss, s.ply.session = some ss := by
    cases h : s.ply.session with
    | none => simp [Ply.isWaiting, h] at hw
    | some ss => exact ⟨ss, rfl⟩
  simp [playerEvent, hl, hs, hw, hk, finOf_val, hss, hhas, hne]

/-- A failed or recovered key is no take record (R133). -/
theorem recorderEvent_of_health {e : Event} (h : e.kind = .keyFail ∨ e.kind = .keyRecover) : recorderEvent e s = s := by
  have hrec : ∀ S, recordOf S e = none := fun S => by
    rcases h with h | h <;> simp [recordOf, h]
  have hstrike : ¬(e.kind = .strike ∨ e.kind = .restrike) := by
    rcases h with h | h <;> simp [h]
  unfold recorderEvent
  split
  · split
    · rfl
    · rfl
    · simp [recordLive, hrec]
  · rfl

/-- A failed or recovered key reaches the journal alone (R22, R39, R41). -/
theorem trackerEvent_of_health {e : Event} (h : e.kind = .keyFail ∨ e.kind = .keyRecover) :
    trackerEvent e s = appendEvent e s := by
  have hstrike : ¬(e.kind = .strike ∨ e.kind = .restrike) := by
    rcases h with h | h <;> simp [h]
  rw [trackerEvent, voiceEvent_of_not_strike hstrike, recorderEvent_of_health h, playerEvent_of_not_strike hstrike]

/-! ## The hammer machine (R30 to R32) -/

/-- Two changes that agree on the record as it stands are one. -/
theorem onKey_congr {k : Key} {f g : KeyRec → KeyRec} (h : f (s.key k) = g (s.key k)) : onKey k f s = onKey k g s := by
  have hv : f s.keys[k] = g s.keys[k] := h
  simp only [onKey, vmodify, hv]

/-- The upward crossing of a height by a key's last hammer sample and this one (R28). -/
def HammerParams.cross (hp : HammerParams) (r : KeyRec) (time : Clock) (h T : Nat) : Option Clock :=
  crossing (hp.gateTimeoutMs * 1000) T r.hammerTime r.height time h

/-- No re-arm hold runs at a time: there is none, or it has expired (R32). -/
def HammerParams.free (hp : HammerParams) (r : KeyRec) (time : Clock) : Prop :=
  r.rearm = none ∨ ∃ t0, r.rearm = some t0 ∧ hp.reboundMs * 1000 ≤ elapsed time t0

section HammerMachine

variable {hp : HammerParams} {gates : Gates} {bank b : Side} {route : Route} {r : KeyRec} {time g1 g2 t0 : Clock} {h : Nat}

theorem gateTwo_strikes {tmo : Nat} {rearm : Option Clock} (he : elapsed g2 g1 ≤ tmo) :
    gateTwo tmo b g1 g2 rearm = { state := .spent, rearm := rearm, strike := some (b, elapsed g2 g1) } := if_pos he

theorem gateTwo_misses {tmo : Nat} {rearm : Option Clock} (he : tmo < elapsed g2 g1) :
    gateTwo tmo b g1 g2 rearm = { state := .ready, rearm := rearm, missed := true } := if_neg (Nat.not_le.mpr he)

/-- A READY hammer under no hold goes by the two gates of the bank in force (R30, R32). -/
theorem hammerMachine_ready_free (hr : r.hammer = .ready) (hf : hp.free r time) :
    hammerMachine hp gates bank route r time h =
      (hp.cross r time h (gates.bank bank).gate1).elim { state := .ready, rearm := none } fun g1 =>
        (hp.cross r time h (gates.bank bank).gate2).elim { state := .armed bank g1, rearm := none } fun g2 =>
          gateTwo (hp.gateTimeoutMs * 1000) bank g1 g2 none := by
  simp only [hammerMachine, HammerParams.cross, hr]
  generalize crossing (hp.gateTimeoutMs * 1000) (gates.bank bank).gate1 r.hammerTime r.height time h = c1
  generalize crossing (hp.gateTimeoutMs * 1000) (gates.bank bank).gate2 r.hammerTime r.height time h = c2
  rcases hf with hn | ⟨t0, hs, he⟩
  · rw [hn]
    cases c1 <;> cases c2 <;> rfl
  · simp only [hs, if_pos he]
    cases c1 <;> cases c2 <;> rfl

theorem hammerMachine_ready_stays (hr : r.hammer = .ready) (hf : hp.free r time)
    (h1 : hp.cross r time h (gates.bank bank).gate1 = none) :
    hammerMachine hp gates bank route r time h = { state := .ready, rearm := none } := by
  rw [hammerMachine_ready_free hr hf, h1, Option.elim_none]

theorem hammerMachine_ready_armed (hr : r.hammer = .ready) (hf : hp.free r time)
    (h1 : hp.cross r time h (gates.bank bank).gate1 = some g1) (h2 : hp.cross r time h (gates.bank bank).gate2 = none) :
    hammerMachine hp gates bank route r time h = { state := .armed bank g1, rearm := none } := by
  rw [hammerMachine_ready_free hr hf, h1, h2, Option.elim_some, Option.elim_none]

theorem hammerMachine_ready_both (hr : r.hammer = .ready) (hf : hp.free r time)
    (h1 : hp.cross r time h (gates.bank bank).gate1 = some g1) (h2 : hp.cross r time h (gates.bank bank).gate2 = some g2) :
    hammerMachine hp gates bank route r time h = gateTwo (hp.gateTimeoutMs * 1000) bank g1 g2 none := by
  rw [hammerMachine_ready_free hr hf, h1, h2, Option.elim_some, Option.elim_some]

theorem hammerMachine_ready_held (hr : r.hammer = .ready) (ht : r.rearm = some t0)
    (he : elapsed time t0 < hp.reboundMs * 1000) :
    hammerMachine hp gates bank route r time h = { state := .ready, rearm := some t0 } := by
  simp only [hammerMachine, hr, ht, if_neg (Nat.not_le.mpr he)]
  split <;> rfl

theorem hammerMachine_armed_crosses (hr : r.hammer = .armed b g1)
    (h2 : hp.cross r time h (gates.bank b).gate2 = some g2) :
    hammerMachine hp gates bank route r time h = gateTwo (hp.gateTimeoutMs * 1000) b g1 g2 r.rearm := by
  unfold HammerParams.cross at h2
  simp only [hammerMachine, hr, h2]

theorem hammerMachine_armed_lost (hr : r.hammer = .armed b g1) (h2 : hp.cross r time h (gates.bank b).gate2 = none)
    (hl : h < hp.rearmHeight ∨ hp.gateTimeoutMs * 1000 < elapsed time g1) :
    hammerMachine hp gates bank route r time h = { state := .ready, rearm := r.rearm, missed := true } := by
  unfold HammerParams.cross at h2
  simp only [hammerMachine, hr, h2]
  split_ifs with h1 h3
  · rfl
  · rfl
  · exact absurd hl (by omega)

theorem hammerMachine_armed_stays (hr : r.hammer = .armed b g1) (h2 : hp.cross r time h (gates.bank b).gate2 = none)
    (hh : hp.rearmHeight ≤ h) (he : elapsed time g1 ≤ hp.gateTimeoutMs * 1000) :
    hammerMachine hp gates bank route r time h =
      { state := .armed b ((hp.cross r time h (gates.bank b).gate1).getD g1), rearm := r.rearm } := by
  unfold HammerParams.cross at h2 ⊢
  simp only [hammerMachine, hr, h2, if_neg (Nat.not_lt.mpr hh), if_neg (Nat.not_lt.mpr he)]
  cases crossing (hp.gateTimeoutMs * 1000) (gates.bank b).gate1 r.hammerTime r.height time h <;> rfl

theorem hammerMachine_spent_stays (hr : r.hammer = .spent) (hh : hp.rearmHeight ≤ h) :
    hammerMachine hp gates bank route r time h = { state := .spent, rearm := r.rearm } := by
  simp only [hammerMachine, hr, if_neg (Nat.not_lt.mpr hh)]

theorem hammerMachine_spent_ready (hr : r.hammer = .spent) (hh : h < hp.rearmHeight) :
    hammerMachine hp gates bank route r time h =
      { state := .ready, rearm := if route = .silent ∧ 0 < hp.reboundMs then some time else none } := by
  simp only [hammerMachine, hr, if_pos hh]
  split <;> rfl

end HammerMachine

/-! ## A hammer sample (R29 to R33, R37, R38) -/

/-- What the hammer machine makes of a sample of key `k` (R30 to R32). -/
def hammerOut (k : Key) (time : Clock) (h : Nat) (s : State) : HammerOutcome :=
  hammerMachine s.cst.user.working.hammer (s.cst.factory.working.gates[k]) (gateBank s) (soundRoute s) (s.key k) time h

/-- A key's record after a sample of its hammer, up to the strike it may make. -/
def KeyRec.swung (time : Clock) (h : Nat) (hammer : HammerState) (rearm : Option Clock) (r : KeyRec) : KeyRec :=
  { r with height := h, hammerTime := some time, hammer := hammer, rearm := rearm }

/-- A key's record after a strike (R37, R38). -/
def KeyRec.struck (r : KeyRec) : KeyRec :=
  { r with sounding := true, hammer := .spent, state := if r.state = .up then .down else r.state }

/-- One missed strike counted (R33). -/
def countMissed (s : State) : State := { s with faults := { s.faults with missed := satInc s.faults.missed } }

/-- The event of a strike (R34 to R38). -/
def strikeEvent (k : Key) (time : Clock) (bank : Side) (interval : Nat) (s : State) : Event :=
  keyEvent (if (s.key k).sounding then .restrike else .strike) k
    (strikeLevel s.cst.user.working.curve s.cst.user.working.trim[k] ((s.cst.factory.working.gates[k]).bank bank).spacing
      interval)
    { bank := some bank, transit := s.rlc.state.inTransit, calDefault := s.cst.defaultMarking } time

theorem hammerSample_alone {k : Key} {first : Bool} (h : (s.key k).heldOut = true ∨ first = true) (time : Clock) (height : Nat) :
    hammerSample k time first height s = onKey k (fun q => { q with height := height, hammerTime := some time }) s := by
  rcases h with h | h <;> simp [hammerSample, h]

theorem hammerSample_normal {k : Key} (hh : (s.key k).heldOut = false) (time : Clock) (h : Nat) :
    hammerSample k time false h s = hammerSampleNormal k time h s := by
  simp [hammerSample, hh]

section HammerSample

variable {k : Key} {time : Clock} {h : Nat} {st : HammerState} {rearm : Option Clock}

/-- A sample that makes no strike and misses none. -/
theorem hammerSample_moves (hh : (s.key k).heldOut = false) (ho : hammerOut k time h s = { state := st, rearm := rearm }) :
    hammerSample k time false h s = onKey k (KeyRec.swung time h st rearm) s := by
  rw [hammerSample_normal hh]
  unfold hammerOut at ho
  simp only [hammerSampleNormal, ho]
  rfl

/-- A sample that misses a strike (R33). -/
theorem hammerSample_misses (hh : (s.key k).heldOut = false)
    (ho : hammerOut k time h s = { state := st, rearm := rearm, missed := true }) :
    hammerSample k time false h s = countMissed (onKey k (KeyRec.swung time h st rearm) s) := by
  rw [hammerSample_normal hh]
  unfold hammerOut at ho
  simp only [hammerSampleNormal, ho]
  rfl

/-- A sample that makes a strike (R37, R38). -/
theorem hammerSample_strikes (hh : (s.key k).heldOut = false) {bank : Side} {interval : Nat}
    (ho : hammerOut k time h s = { state := st, rearm := rearm, strike := some (bank, interval) }) :
    hammerSample k time false h s =
      trackerEvent (strikeEvent k time bank interval s) (onKey k (fun r => (r.swung time h st rearm).struck) s) := by
  rw [hammerSample_normal hh]
  unfold hammerOut at ho
  simp only [hammerSampleNormal, ho, makeStrike, Bool.false_eq_true, if_false, State.key_onKey_same, onKey_onKey]
  rfl

end HammerSample

end Sys2Proof.Machine
end

section
namespace Sys2Proof.Machine

variable {s t u : State}

/-! ## What a hammer sample leaves (R29 to R33, R37, R38) -/

section HammerSample

variable {k : Key} {time : Clock} {h : Nat} {st : HammerState} {rearm : Option Clock}

/-- A sample touches no other key, and always sets height and sample time (R29). -/
theorem hammerSample_key (hh : (s.key k).heldOut = false) :
    let t := hammerSample k time false h s
    ((t.key k).height = h ∧ (t.key k).hammerTime = some time)
      ∧ (t.key k).heldOut = false ∧ (t.key k).depthFailed = (s.key k).depthFailed
      ∧ (t.key k).hammerFailed = (s.key k).hammerFailed := by
  intro t
  rw [show t = hammerSampleNormal k time h s from hammerSample_normal hh time h]
  unfold hammerSampleNormal makeStrike
  dsimp only
  have hkey : ∀ (e : Event) (u : State), (trackerEvent e u).key k = u.key k := fun e u => by
    rw [State.key, trackerEvent_keys]
    rfl
  have hmissed : ∀ (b : Bool) (u : State),
      (if b then { u with faults := { u.faults with missed := satInc u.faults.missed } } else u).key k = u.key k := by
    intro b u
    cases b <;> rfl
  split
  · rw [hkey, State.key_onKey_same, hmissed, State.key_onKey_same]
    exact ⟨⟨rfl, rfl⟩, hh, rfl, rfl⟩
  · rw [hmissed, State.key_onKey_same]
    exact ⟨⟨rfl, rfl⟩, hh, rfl, rfl⟩

/-- A strike: the key's record, the event in the journal before the player is handed it, and what the player makes of it
(R37, R38, R158, log 49). -/
theorem hammerSample_strikeMade (hh : (s.key k).heldOut = false) {bank : Side} {interval : Nat}
    (ho : hammerOut k time h s = { state := .spent, rearm := rearm, strike := some (bank, interval) }) :
    let r := s.key k
    let e := strikeEvent k time bank interval s
    let t := hammerSample k time false h s
    t.key k = (r.swung time h .spent rearm).struck
      ∧ t.faults.missed = s.faults.missed
      ∧ ∃ u, t = playerEvent e u ∧ u.ajn = s.ajn.push e ∧ u.ply = s.ply ∧ u.key k = t.key k
        ∧ (s.ply.isWaiting = false ∨ s.ply.expected.has k = false → t = u)
        ∧ (s.ply.isWaiting = true → s.ply.expected.has k = true → s.ply.expected.drop k ≠ KeySet.empty →
            t = { u with ply := { s.ply with expected := s.ply.expected.drop k } }) := by
  intro r e t
  generalize hs1 : onKey k (fun r => (r.swung time h .spent rearm).struck) s = s1
  have ht : t = trackerEvent e s1 := hs1 ▸ hammerSample_strikes hh ho
  obtain ⟨vas, tks, links, faults, hu⟩ := pedalEvent_eq (s := s1) e
  have hkey : ∀ v : State, v.keys = s1.keys → v.key k = (r.swung time h .spent rearm).struck := fun v hv => by
    rw [State.key, hv, ← hs1]
    exact State.key_onKey_same _ _
  have hplayer : t = playerEvent e (pedalEvent e s1) := ht
  have hply : (pedalEvent e s1).ply = s.ply := by rw [hu, ← hs1]; rfl
  have hkeyt : t.key k = (r.swung time h .spent rearm).struck := hkey t (by rw [ht, trackerEvent_keys])
  have hstrike : e.kind = .strike ∨ e.kind = .restrike := by
    have hkind : e.kind = if r.sounding then .restrike else .strike := rfl
    rw [hkind]
    split
    · exact .inr rfl
    · exact .inl rfl
  refine ⟨hkeyt, ?_, pedalEvent e s1, hplayer, by rw [hu, ← hs1]; rfl, hply, ?_, fun hn => ?_, fun hw hhas hne => ?_⟩
  · rw [ht, (sensingFaultsKept_closed.trackerEvent e s1).1, ← hs1]
    rfl
  · rw [hkeyt]
    exact hkey _ (by rw [hu])
  · rw [hplayer]
    exact playerEvent_not_awaited (k := k) rfl (by rwa [hply])
  · rw [hplayer, playerEvent_awaited (k := k) rfl rfl hstrike (by rwa [hply]) (by rwa [hply]) (by rwa [hply]), onPly, hply]

end HammerSample

/-! ## Failure and recovery of a key's channel (R39, R41) -/

/-- A key's record as its channel is reported FAILED, before the key is held out (R39). -/
def KeyRec.channelLost (hammer : Bool) (r : KeyRec) : KeyRec :=
  { (if hammer then { r with hammerFailed := true } else { r with depthFailed := true }) with
    hammer := .ready
    rearm := none }

/-- The record of a key held out by a failure (R39). -/
def KeyRec.failed (hammer : Bool) (r : KeyRec) : KeyRec :=
  { r with
    depthFailed := r.depthFailed || !hammer
    hammerFailed := r.hammerFailed || hammer
    hammer := .ready
    rearm := none
    hammerTime := if hammer then none else r.hammerTime
    sounding := false
    heldOut := true
    state := .up
    lift := 0 }

/-- A key's record with one channel HEALTHY again (R41). -/
def KeyRec.channelBack (hammer : Bool) (r : KeyRec) : KeyRec :=
  if hammer then { r with hammerFailed := false } else { r with depthFailed := false }

/-- The other channel of a key is FAILED (R41). -/
def KeyRec.otherFailed (hammer : Bool) (r : KeyRec) : Bool := if hammer then r.depthFailed else r.hammerFailed

/-- A test for quiet is made only where a move waits for it (R109). -/
theorem quietMove_of_no_move (hu : s.rlc.state ≠ .unknown) (hw : ∀ w, s.rlc.state ≠ .waiting w) : quietMove s = s := by
  unfold quietMove
  split
  · exact absurd ‹_› hu
  · exact absurd ‹_› (hw _)
  · rfl

theorem raiseAll_key (c : EventClass) (k : Key) : (raiseAll c s).key k = s.key k := rfl

theorem appendEvent_key (e : Event) (k : Key) : (appendEvent e s).key k = s.key k := rfl

theorem setKeyLift_key (k : Key) (x : Nat) : (setKeyLift k x s).key k = { s.key k with lift := x } := by
  obtain ⟨_, _, _, h⟩ := setKeyLift_eq (s := s) k x
  rw [h]
  exact State.key_onKey_same _ _

/-- A key's lift is heard by the voice assigner alone (R26). -/
theorem setKeyLift_keeps (k : Key) (x : Nat) :
    let t := setKeyLift k x s
    t.ply = s.ply ∧ t.pdu = s.pdu ∧ t.sfe = s.sfe ∧ t.rlc = s.rlc ∧ t.ajn = s.ajn := by
  intro t
  obtain ⟨_, _, _, h⟩ := setKeyLift_eq (s := s) k x
  rw [show t = _ from h]
  exact ⟨rfl, rfl, rfl, rfl, rfl⟩

/-- A test for quiet changes the rail, and what its move reports (R109). -/
theorem quietMove_keeps : (quietMove s).ply = s.ply ∧ (quietMove s).pdu = s.pdu ∧ (quietMove s).sfe = s.sfe := by
  obtain ⟨_, _, _, _, h⟩ := quietMove_only (s := s)
  rw [h]
  exact ⟨rfl, rfl, rfl⟩

theorem quietMove_key (k : Key) : (quietMove s).key k = s.key k := by
  obtain ⟨_, _, _, _, h⟩ := quietMove_only (s := s)
  rw [h]
  rfl

/-- The RELEASE that ends a sounding key whose channel fails (R39, step 3). -/
def releaseFailed (k : Key) (time : Clock) (s : State) : State :=
  if (s.key k).sounding then
    onKey k (fun r => { r with sounding := false }) (trackerEvent (keyEvent .release k 1 { failed := true } time) s)
  else s

/-- The RELEASE reaches the journal and the recorder, and the key is silent (R39). -/
theorem releaseFailed_eq (k : Key) (time : Clock) :
    ∃ tks links faults, releaseFailed k time s = onKey k (fun r => { r with sounding := false })
      { s with
        ajn := if (s.key k).sounding then s.ajn.push (keyEvent .release k 1 { failed := true } time) else s.ajn
        tks := tks, links := links, faults := faults } := by
  unfold releaseFailed
  by_cases hs : (s.key k).sounding = true
  · obtain ⟨tks, links, faults, he⟩ := trackerEvent_of_not_strike (s := s)
      (e := keyEvent .release k 1 { failed := true } time) (by simp [keyEvent])
    refine ⟨tks, links, faults, ?_⟩
    rw [if_pos hs, if_pos hs, he]
  · refine ⟨s.tks, s.links, s.faults, ?_⟩
    rw [if_neg hs, if_neg hs]
    exact (onKey_eq_self (by rw [← Bool.eq_false_iff.mpr hs])).symm

theorem releaseFailed_key (k : Key) (time : Clock) : (releaseFailed k time s).key k = { s.key k with sounding := false } := by
  obtain ⟨_, _, _, h⟩ := releaseFailed_eq (s := s) k time
  rw [h]
  exact State.key_onKey_same _ _

theorem releaseFailed_ajn (k : Key) (time : Clock) : (releaseFailed k time s).ajn =
    if (s.key k).sounding then s.ajn.push (keyEvent .release k 1 { failed := true } time) else s.ajn := by
  obtain ⟨_, _, _, h⟩ := releaseFailed_eq (s := s) k time
  rw [h]
  rfl

theorem releaseFailed_keeps (k : Key) (time : Clock) :
    let t := releaseFailed k time s
    t.ply = s.ply ∧ t.pdu = s.pdu ∧ t.sfe = s.sfe ∧ t.rlc = s.rlc := by
  intro t
  obtain ⟨_, _, _, h⟩ := releaseFailed_eq (s := s) k time
  rw [show t = _ from h]
  exact ⟨rfl, rfl, rfl, rfl⟩

/-- The failure of a channel in its steps: the record, the test for quiet, the RELEASE, the key held out, KEY_FAIL. -/
theorem keyChannelFailed_steps (hammer : Bool) (k : Key) (time : Clock) :
    keyChannelFailed hammer k time s =
      raiseAll .keyFail (appendEvent (keyEvent .keyFail k (if hammer then 2 else 1) {} time)
        (onKey k (fun r => { r with hammerTime := if hammer then none else r.hammerTime })
          (setKeyLift k 0 (onKey k (fun r => { r with heldOut := true, state := .up })
            (releaseFailed k time (quietMove (onKey k (KeyRec.channelLost hammer) s))))))) := by
  have htime : ∀ v : State, (if hammer then onKey k (fun r => { r with hammerTime := none }) v else v) =
      onKey k (fun r => { r with hammerTime := if hammer then none else r.hammerTime }) v := fun v => by
    cases hammer with
    | true => rfl
    | false => exact (onKey_eq_self rfl).symm
  rw [← htime, ← trackerEvent_of_health (.inl rfl)]
  rfl

/-- The key of a failing channel is held out, UP and silent, with its hammer READY and no hold (R39, log 25). -/
theorem keyChannelFailed_key (hammer : Bool) (k : Key) (time : Clock) :
    (keyChannelFailed hammer k time s).key k = (s.key k).failed hammer := by
  rw [keyChannelFailed_steps]
  simp only [raiseAll_key, appendEvent_key, State.key_onKey_same, setKeyLift_key, releaseFailed_key, quietMove_key]
  cases hammer <;> simp [KeyRec.failed, KeyRec.channelLost]

/-- A failing channel leaves player, pedals and front end alone (R39). -/
theorem keyChannelFailed_frame (hammer : Bool) (k : Key) (time : Clock) :
    let t := keyChannelFailed hammer k time s
    t.ply = s.ply ∧ t.pdu = s.pdu ∧ t.sfe = s.sfe := by
  intro t
  obtain ⟨hply, hpdu, hsfe⟩ := quietMove_keeps (s := onKey k (KeyRec.channelLost hammer) s)
  rw [show t = _ from keyChannelFailed_steps hammer k time]
  simp [setKeyLift_keeps, releaseFailed_keeps, hply, hpdu, hsfe]

/-- With no move waiting for a quiet action, a failing channel leaves the rail alone, and the journal has its RELEASE and
its KEY_FAIL (R39, R109). -/
theorem keyChannelFailed_events (hammer : Bool) (k : Key) (time : Clock) (hu : s.rlc.state ≠ .unknown)
    (hw : ∀ w, s.rlc.state ≠ .waiting w) :
    let t := keyChannelFailed hammer k time s
    t.rlc = s.rlc ∧ t.ajn = (if (s.key k).sounding then s.ajn.push (keyEvent .release k 1 { failed := true } time)
      else s.ajn).push (keyEvent .keyFail k (if hammer then 2 else 1) {} time) := by
  intro t
  have hq : quietMove (onKey k (KeyRec.channelLost hammer) s) = onKey k (KeyRec.channelLost hammer) s :=
    quietMove_of_no_move hu hw
  have hsound : ((s.key k).channelLost hammer).sounding = (s.key k).sounding := by
    cases hammer <;> rfl
  rw [show t = _ from keyChannelFailed_steps hammer k time, hq]
  simp [setKeyLift_keeps, releaseFailed_keeps, releaseFailed_ajn, hsound]

/-- A failing channel counts no missed strike and leaves SENSOR_FAIL to its reporter (R39). -/
theorem keyChannelFailed_faults (hammer : Bool) (k : Key) (time : Clock) :
    SensingFaultsKept s (keyChannelFailed hammer k time s) := by
  have c := sensingFaultsKept_closed
  have hquiet : ∀ v : State, SensingFaultsKept v (quietMove v) := fun v => .of_faults quietMove_frame.1
  have hkey : ∀ f (v : State), SensingFaultsKept v (onKey k f v) := fun _ _ => .of_faults rfl
  have hrelease : ∀ v : State, SensingFaultsKept v (releaseFailed k time v) := fun v => by
    unfold releaseFailed
    split
    · exact (c.trackerEvent _ _).trans (hkey _ _)
    · exact c.refl v
  have hlift : ∀ v : State, SensingFaultsKept v (setKeyLift k 0 v) := fun v => by
    unfold setKeyLift
    split
    · exact c.refl v
    · exact (hkey _ _).trans (c.recomputeWhere _ _)
  rw [keyChannelFailed_steps]
  exact ((((((hkey _ _).trans (hquiet _)).trans (hrelease _)).trans (hkey _ _)).trans (hlift _)).trans (hkey _ _)).trans
    ((c.appended _ _).trans (c.raised _ _))

/-- What a recovered channel leaves, for whatever the test for quiet made of the rail (R41). -/
theorem keyChannelRecovered_eq (hammer : Bool) (k : Key) (time : Clock) {rlc : Rlc} {ajn : Ajn}
    {links : PerLink LinkState} {faults : FaultRecord}
    (hq : quietMove (onKey k (KeyRec.channelBack hammer) s) =
      { onKey k (KeyRec.channelBack hammer) s with rlc := rlc, ajn := ajn, links := links, faults := faults }) :
    ∃ links faults, keyChannelRecovered hammer k time s = onKey k (KeyRec.channelBack hammer)
      { s with
        rlc := rlc
        ajn := if (s.key k).otherFailed hammer then ajn else ajn.push (keyEvent .keyRecover k 0 {} time)
        links := links, faults := faults } := by
  have hother : (((quietMove (onKey k (KeyRec.channelBack hammer) s)).key k).depthFailed
      || ((quietMove (onKey k (KeyRec.channelBack hammer) s)).key k).hammerFailed) = (s.key k).otherFailed hammer := by
    rw [quietMove_key, State.key_onKey_same]
    cases hammer
    · exact Bool.false_or _
    · exact Bool.or_false _
  have hsteps : keyChannelRecovered hammer k time s =
      if ((quietMove (onKey k (KeyRec.channelBack hammer) s)).key k).depthFailed
          || ((quietMove (onKey k (KeyRec.channelBack hammer) s)).key k).hammerFailed then
        quietMove (onKey k (KeyRec.channelBack hammer) s)
      else appendEvent (keyEvent .keyRecover k 0 {} time) (quietMove (onKey k (KeyRec.channelBack hammer) s)) := by
    rw [← trackerEvent_of_health (.inr rfl)]
    rfl
  rw [hsteps, hother, hq]
  split
  · exact ⟨_, _, rfl⟩
  · exact ⟨_, _, rfl⟩

/-- A recovered channel clears its own flag alone, and leaves player, pedals, voices and takes alone (R41). -/
theorem keyChannelRecovered_frame (hammer : Bool) (k : Key) (time : Clock) :
    let t := keyChannelRecovered hammer k time s
    t.key k = (s.key k).channelBack hammer ∧ t.ply = s.ply ∧ t.pdu = s.pdu ∧ t.vas = s.vas ∧ t.tks = s.tks := by
  intro t
  obtain ⟨_, _, _, _, hq⟩ := quietMove_only (s := onKey k (KeyRec.channelBack hammer) s)
  obtain ⟨_, _, h⟩ := keyChannelRecovered_eq (s := s) hammer k time hq
  rw [show t = _ from h]
  exact ⟨State.key_onKey_same _ _, rfl, rfl, rfl, rfl⟩

/-- With no move waiting for a quiet action, a recovered channel leaves the rail alone, and KEY_RECOVER is journalled when
both channels are HEALTHY (R41, R109). -/
theorem keyChannelRecovered_events (hammer : Bool) (k : Key) (time : Clock) (hu : s.rlc.state ≠ .unknown)
    (hw : ∀ w, s.rlc.state ≠ .waiting w) :
    let t := keyChannelRecovered hammer k time s
    t.rlc = s.rlc ∧ t.ajn =
      (if (s.key k).otherFailed hammer then s.ajn else s.ajn.push (keyEvent .keyRecover k 0 {} time)) := by
  intro t
  obtain ⟨_, _, h⟩ := keyChannelRecovered_eq (s := s) hammer k time (rlc := s.rlc) (ajn := s.ajn) (links := s.links)
    (faults := s.faults) (quietMove_of_no_move hu hw)
  rw [show t = _ from h]
  exact ⟨rfl, rfl⟩

/-- What a result of group H does (R1). -/
theorem convertResult_hammer {g : Fin 11} {r : AinResult} {k : Key} (h : k.val = 8 * g.val + r.ain.val) (time : Clock) :
    convertResult (.h g) time s r = convertHammer k time r.raw s := by
  obtain rfl : k = groupKey g r.ain := Fin.ext h
  rfl

/-- Settles O56: the hammer machine case by case, the failures and recoveries, and the results of group H, each by its own
lemma above. -/
theorem hammerSamplesMakeStrikes : Obligations.HammerSamplesMakeStrikes := by
  refine ⟨fun k time h s hh => ?sample, fun hammer k time s => ?failed, fun hammer k time s => ?recovered,
    fun k time first h s hn => hammerSample_alone hn time h, fun g time r k s hk => ?result⟩
  case sample =>
    obtain ⟨⟨hheight, htime⟩, -⟩ := hammerSample_key (k := k) (time := time) (h := h) hh
    refine ⟨fun j hj => (hammerSample_keyOnly k time false h).key_ne hj, hheight, htime, fun hr hf h1 => ?_,
      fun g1 hr hf h1 h2 => ?_, fun g1 g2 hr hf h1 h2 => ⟨fun he => ?_, fun he => ?_⟩, fun t0 hr ht he => ?_,
      fun bank g1 g2 hr h2 he => ?_, fun bank g1 hr h2 hh' he => ?_, fun hr hh' => ?_, fun bank g1 hr hl => ?_,
      fun hr hh' => ?_⟩
    · exact (hammerSample_moves hh (hammerMachine_ready_stays hr hf h1)).trans (onKey_congr (by simp [KeyRec.swung, hr]))
    · exact hammerSample_moves hh (hammerMachine_ready_armed hr hf h1 h2)
    · exact hammerSample_strikeMade hh ((hammerMachine_ready_both hr hf h1 h2).trans (gateTwo_strikes he))
    · exact hammerSample_misses hh ((hammerMachine_ready_both hr hf h1 h2).trans (gateTwo_misses he))
    · exact (hammerSample_moves hh (hammerMachine_ready_held hr ht he)).trans
        (onKey_congr (by simp [KeyRec.swung, hr, ht]))
    · exact hammerSample_strikeMade hh ((hammerMachine_armed_crosses hr h2).trans (gateTwo_strikes he))
    · exact (hammerSample_moves hh (hammerMachine_armed_stays hr h2 hh' he)).trans (onKey_congr rfl)
    · exact (hammerSample_moves hh (hammerMachine_spent_stays hr hh')).trans (onKey_congr (by simp [KeyRec.swung, hr]))
    · have hout : hammerOut k time h s = { state := .ready, rearm := (s.key k).rearm, missed := true } := by
        rcases hl with ⟨g2, h2, he⟩ | ⟨h2, hl⟩
        · exact (hammerMachine_armed_crosses hr h2).trans (gateTwo_misses he)
        · exact hammerMachine_armed_lost hr h2 hl
      exact (hammerSample_misses hh hout).trans (congrArg countMissed (onKey_congr rfl))
    · exact hammerSample_moves hh (hammerMachine_spent_ready hr hh')
  case failed =>
    obtain ⟨hply, hpdu, hsfe⟩ := keyChannelFailed_frame (s := s) hammer k time
    exact ⟨keyChannelFailed_key hammer k time, fun j hj => (keyChannelFailed_keyOnly hammer k time).key_ne hj, hply, hpdu,
      hsfe, (keyChannelFailed_faults hammer k time).2, keyChannelFailed_events hammer k time⟩
  case recovered =>
    obtain ⟨hkey, hply, hpdu, hvas, htks⟩ := keyChannelRecovered_frame (s := s) hammer k time
    exact ⟨hkey, fun j hj => (keyChannelRecovered_keyOnly hammer k time).key_ne hj, hply, hpdu, hvas, htks,
      keyChannelRecovered_events hammer k time⟩
  case result =>
    simp only [convertResult_hammer hk]
    exact convert_order _ _ (fun u => keyChannelFailed true k time (reportFault .sensorFail u))
      (keyChannelRecovered true k time) (fun u => quietMove (hammerSample k time _ _ u)) _

end Sys2Proof.Machine
end

section
namespace Sys2Proof.Machine

variable {s t u : State}

/-! ## What keeps the keys -/

theorem LinksOnly.keys (h : LinksOnly s t) : t.keys = s.keys := by obtain ⟨_, rfl⟩ := h; rfl
theorem ReportOnly.keys (h : ReportOnly s t) : t.keys = s.keys := by obtain ⟨_, _, rfl⟩ := h; rfl
theorem RailOnly.keys (h : RailOnly s t) : t.keys = s.keys := by obtain ⟨_, _, _, _, rfl⟩ := h; rfl
theorem VoiceOnly.keys (h : VoiceOnly s t) : t.keys = s.keys := by obtain ⟨_, _, _, rfl⟩ := h; rfl
theorem TakeOnly.keys (h : TakeOnly s t) : t.keys = s.keys := by obtain ⟨_, _, _, rfl⟩ := h; rfl
theorem PlayOnly.keys (h : PlayOnly s t) : t.keys = s.keys := by obtain ⟨_, _, _, _, _, rfl⟩ := h; rfl

/-! ## What the requests touch -/

/-- A request is not taken, or it leaves the buffer, has its effect and is answered (R164). -/
theorem serve_cases (l : Link) (k : Byte) (effect : List Byte → State → State × Reply) :
    serve l k effect s = s
      ∨ ∃ args, serve l k effect s =
          putReply l k (effect args (popRequest l s)).2 (effect args (popRequest l s)).1 := by
  by_cases h : ∃ args, headRequest l s = some (k, args)
  · obtain ⟨args, h⟩ := h
    exact .inr ⟨args, serve_taken effect h⟩
  · exact .inl (serve_not_taken effect fun args ha => h ⟨args, ha⟩)

/-- A request whose effect leaves every key's record as it is. -/
def KeepsKeys (effect : List Byte → State → State × Reply) : Prop := ∀ args s, (effect args s).1.keys = s.keys

theorem serve_keys {effect : List Byte → State → State × Reply} (h : KeepsKeys effect) (l : Link) (k : Byte) :
    (serve l k effect s).keys = s.keys := by
  rcases serve_cases (s := s) l k effect with hs | ⟨args, hs⟩ <;> rw [hs]
  rw [putReply_keys, h, popRequest_keys]

theorem needs_keys {n : Nat} {args : List Byte} {go : State × Reply} (h : go.1.keys = s.keys) :
    (needs n args s go).1.keys = s.keys := by
  unfold needs
  split
  · rfl
  · exact h

theorem playerNeeds_keys {n : Nat} {args : List Byte} {go : State × Reply} (h : go.1.keys = s.keys) :
    (playerNeeds n args s go).1.keys = s.keys := by
  unfold playerNeeds
  split
  · rfl
  · exact h

/-! ### Links, journal, notices -/

theorem helloEffect_keys (l : Link) : KeepsKeys (helloEffect l) := fun _ _ => rfl

theorem setLinkEffect_keys (l : Link) : KeepsKeys (setLinkEffect l) := fun args s => by
  refine needs_keys ?_
  split
  · dsimp only
    split <;> rfl
  · rfl

theorem claimRoleEffect_keys (l : Link) : KeepsKeys (claimRoleEffect l) := fun args s => by
  unfold claimRoleEffect
  split
  · rfl
  · split
    · split_ifs
      · rfl
      · rfl
      · exact ((softClaimed_only .live).trans (softClaimed_only .playback)).keys
    · split_ifs <;> rfl
    · rfl

theorem readKeysEffect_keys (l : Link) : KeepsKeys (readKeysEffect l) := fun args s => by
  refine needs_keys ?_
  dsimp only
  split <;> rfl

theorem setWindowEffect_keys (l : Link) : KeepsKeys (setWindowEffect l) := fun args s => by
  refine needs_keys ?_
  split <;> rfl

theorem readWindowEffect_keys (l : Link) : KeepsKeys (readWindowEffect l) := fun args s => by
  refine needs_keys ?_
  dsimp only
  split <;> rfl

theorem depthStreamEffect_keys (l : Link) : KeepsKeys (depthStreamEffect l) := fun args s => by
  refine needs_keys ?_
  dsimp only
  split <;> rfl

theorem setScanListEffect_keys : KeepsKeys setScanListEffect := fun args s => by
  refine needs_keys ?_
  dsimp only
  split
  · rfl
  · split <;> rfl

theorem systemResetEffect_keys (l : Link) : KeepsKeys (systemResetEffect l) := fun args s => by
  unfold systemResetEffect
  split
  · unfold done
    split <;> rfl
  · rfl

theorem openJournalEffect_keys (l : Link) : KeepsKeys (openJournalEffect l) := fun args s => by
  refine needs_keys ?_
  dsimp only
  split <;> rfl

theorem readJournalEffect_keys (l : Link) : KeepsKeys (readJournalEffect l) := fun args s => by
  refine needs_keys ?_
  split <;> rfl

theorem closeJournalEffect_keys (l : Link) : KeepsKeys (closeJournalEffect l) := fun args s => by
  unfold closeJournalEffect
  split <;> rfl

theorem noticeSetEffect_keys (l : Link) : KeepsKeys (noticeSetEffect l) := fun args s => by
  refine needs_keys ?_
  split
  · rfl
  · split <;> rfl

theorem noticeMaskEffect_keys (l : Link) : KeepsKeys (noticeMaskEffect l) := fun args s => by
  refine needs_keys ?_
  dsimp only
  split <;> rfl

theorem readFaultsEffect_keys : KeepsKeys readFaultsEffect := fun args s => by
  refine needs_keys ?_
  split <;> rfl

theorem clearFaultsEffect_keys : KeepsKeys clearFaultsEffect := fun _ _ => needs_keys rfl

/-! ### Voices and rail -/

theorem setLayersEffect_keys : KeepsKeys setLayersEffect := fun args s => by
  refine needs_keys ?_
  split <;> rfl

theorem readVoicesEffect_keys (l : Link) : KeepsKeys (readVoicesEffect l) := fun args s => by
  refine needs_keys ?_
  dsimp only
  split <;> rfl

/-- The pairs of VOICE ENDED touch slots and the fault record alone (R97, R98). -/
theorem foldl_endPair_voice (pairs : List (Slot × Byte)) (acc : State × Nat × Nat) :
    VoiceOnly acc.1 (pairs.foldl endPair acc).1 := by
  induction pairs generalizing acc with
  | nil => exact .refl
  | cons x rest ih =>
    refine VoiceOnly.trans ?_ (ih _)
    unfold endPair
    dsimp only
    split
    · exact setSlot_only _ _
    · exact ⟨_, _, _, rfl⟩

theorem staleReported_only (n : Nat) : ReportOnly s (staleReported n s) := by
  unfold staleReported
  split
  · exact .refl
  · exact (reportFault_only _).trans (raiseAll_only _).report

theorem voiceEndedEffect_keys (l : Link) : KeepsKeys (voiceEndedEffect l) := fun args s => by
  unfold voiceEndedEffect
  split
  · split
    · rfl
    · exact ((foldl_endPair_voice _ (s, 0, 0)).trans (staleReported_only _).voice).keys
  · rfl

theorem railDemandEffect_keys (l : Link) : KeepsKeys (railDemandEffect l) := fun args s => by
  refine needs_keys ?_
  split
  · rfl
  · exact (setDemand_only _).keys

theorem railRecoverEffect_keys : KeepsKeys railRecoverEffect := fun args s => by
  unfold railRecoverEffect
  split
  · exact (((onRlc_only _).trans (railEnter_only _)).trans quietMove_only).keys
  · rfl

theorem readRailEffect_keys : KeepsKeys readRailEffect := fun _ _ => rfl

/-! ### Takes -/

theorem beginRecording_only (n : TakeNo) (immediate : Bool) (tag : Nat) : TakeOnly s (beginRecording n immediate tag s) := by
  have hstart : ∀ v : State, TakeOnly v
      (if immediate then startTake n s.clock v else onTks (fun k => { k with recorder := .armed n }) v) := fun v => by
    split
    · exact startTake_only _ _
    · exact onTks_only _
  exact (((onTake_only _ _).trans (allocateBlock_only _)).trans (hstart _)).trans (raiseAll_only _).report.take

theorem takeRecordEffect_keys : KeepsKeys takeRecordEffect := fun args s => by
  refine needs_keys ?_
  split
  · rfl
  · split_ifs
    · rfl
    · rfl
    · rfl
    · split
      · rfl
      · exact (beginRecording_only _ _ _).keys

theorem endRecording_only (n : TakeNo) : TakeOnly s (endRecording n s) := by
  unfold endRecording
  split
  · exact onTake_only _ _
  · exact emptyTake_only _

theorem endLoading_only (n : TakeNo) : TakeOnly s (endLoading n s) := by
  unfold endLoading
  split
  · exact onTake_only _ _
  · exact emptyTake_only _

theorem stopRecording_only (n : TakeNo) : TakeOnly s (stopRecording n s).1 :=
  ((onTks_only _).trans (endRecording_only n)).trans (raiseAll_only _).report.take

theorem takeStopEffect_keys : KeepsKeys takeStopEffect := fun args s => by
  unfold takeStopEffect
  split
  · rfl
  · exact (stopRecording_only _).keys
  · exact (stopRecording_only _).keys

theorem takeLoadEffect_keys : KeepsKeys takeLoadEffect := fun args s => by
  refine needs_keys ?_
  split
  · rfl
  · split_ifs <;> rfl

theorem writeTakeRecordsEffect_keys : KeepsKeys writeTakeRecordsEffect := fun args s => by
  refine needs_keys ?_
  split
  · rfl
  · split
    · rfl
    · split
      · rfl
      · split_ifs
        · rfl
        · rfl
        · exact (appendRecords_only _ _).keys

theorem loadEndEffect_keys : KeepsKeys loadEndEffect := fun args s => by
  refine needs_keys ?_
  split
  · rfl
  · split
    · rfl
    · exact ((endLoading_only _).trans (raiseAll_only _).report.take).keys

theorem keepEffect_keys (l : Link) (keep : Bool) : KeepsKeys (keepEffect l keep) := fun args s => by
  unfold keepEffect
  split
  · refine needs_keys ?_
    split
    · rfl
    · split_ifs <;> rfl
  · rfl

theorem takeEraseEffect_keys : KeepsKeys takeEraseEffect := fun args s => by
  refine needs_keys ?_
  split
  · rfl
  · split_ifs
    · rfl
    · rfl
    · rfl
    · rfl
    · exact ((emptyTake_only _).trans (raiseAll_only _).report.take).keys

theorem readTakeDirectoryEffect_keys (l : Link) : KeepsKeys (readTakeDirectoryEffect l) := fun args s => by
  refine needs_keys ?_
  dsimp only
  split <;> rfl

theorem readTakeRecordsEffect_keys (l : Link) : KeepsKeys (readTakeRecordsEffect l) := fun args s => by
  refine needs_keys ?_
  split
  · rfl
  · split <;> rfl

/-! ### The player -/

theorem setUpTake_only (n : TakeNo) (start : Nat) : PlayOnly s (setUpTake n start s) :=
  ((((((onPly_only _).trans (setPlayDamper_only _)).trans (setPlaySost_only _ _)).trans (setPlaySoft_only _)).trans
    (onPly_only _)).trans (playMark_only _ _)).trans playStateRaised_only

theorem startPlayback_only (n : TakeNo) (tempo : Option Nat) (start : Nat) : PlayOnly s (startPlayback n tempo start s) := by
  have hstop : PlayOnly s (if s.ply.session.isSome then stopPlayback s else s) := by
    split
    · exact endPlayback_only _
    · exact .refl
  unfold startPlayback
  dsimp only
  split
  · exact ((hstop.trans (onPly_only _)).trans (setUpTake_only _ _)).trans playDueThenEnd_only
  · exact (hstop.trans (setUpTake_only _ _)).trans playDueThenEnd_only

theorem takePlayEffect_keys : KeepsKeys takePlayEffect := fun args s => by
  refine playerNeeds_keys ?_
  split
  · rfl
  · split
    · rfl
    · dsimp only
      generalize (if bitOf args 1 1 then word32At args 3 else 0) = start
      split
      · rfl
      · exact (startPlayback_only _ _ _).keys

theorem stopEffect_keys : KeepsKeys stopEffect := fun args s => by
  unfold stopEffect
  split
  · exact (endPlayback_only _).keys
  · rfl

theorem pauseEffect_keys : KeepsKeys pauseEffect := fun args s => by
  unfold pauseEffect
  split
  · rfl
  · split
    · exact (((onPly_only _).trans (playMark_only _ _)).trans playStateRaised_only).keys
    · rfl

theorem resumeEffect_keys : KeepsKeys resumeEffect := fun args s => by
  unfold resumeEffect
  split
  · rfl
  · split
    · exact (((onPly_only _).trans (playMark_only _ _)).trans playStateRaised_only).keys
    · rfl

theorem setTempoEffect_keys : KeepsKeys setTempoEffect := fun _ _ => playerNeeds_keys rfl

theorem setLoop_only (ss : Session) (start stop : Nat) : PlayOnly s (setLoop ss start stop s) := by
  unfold setLoop
  dsimp only
  split
  · exact (onPly_only _).trans (loopJump_only _)
  · exact onPly_only _

theorem setLoopEffect_keys : KeepsKeys setLoopEffect := fun args s => by
  refine playerNeeds_keys ?_
  split
  · rfl
  · dsimp only
    split
    · exact (setLoop_only _ _ _).keys
    · rfl

theorem clearLoopEffect_keys : KeepsKeys clearLoopEffect := fun _ _ => rfl

theorem clearExpected_only (ss : Session) : PlayOnly s (clearExpected ss s) := by
  unfold clearExpected
  dsimp only
  split
  · exact (onPly_only _).trans (endWait_only _ _)
  · exact ((onPly_only _).trans (playMark_only _ _)).trans (onSession_only _)
  · exact (onPly_only _).trans (playMark_only _ _)

theorem setGuide_only (mode : GuideMode) (low high : Key) (window : Nat) : PlayOnly s (setGuide mode low high window s) := by
  unfold setGuide
  dsimp only
  split
  · split
    · exact (onPly_only _).trans (clearExpected_only _)
    · exact (onPly_only _).trans (onPly_only _)
  · exact (onPly_only _).trans (onPly_only _)

theorem setGuideEffect_keys : KeepsKeys setGuideEffect := fun args s => by
  refine playerNeeds_keys ?_
  split
  · split
    · rfl
    · exact (setGuide_only _ _ _ _).keys
  · rfl

theorem finishStep_only : PlayOnly s (finishStep s) := by
  unfold finishStep
  dsimp only
  split
  · split
    · exact playDue_only.trans (loopJump_only _)
    · exact playDue_only.trans endIfPast_only
  · exact playDue_only

/-! ### The calibration store -/

theorem calReadEffect_keys (l : Link) : KeepsKeys (calReadEffect l) := fun args s => by
  refine needs_keys ?_
  split
  · rfl
  · dsimp only
    split <;> rfl

theorem calCommitEffect_keys (l : Link) : KeepsKeys (calCommitEffect l) := fun args s => by
  unfold calCommitEffect
  split
  · rfl
  · refine needs_keys ?_
    split
    · rfl
    · split <;> rfl

/-- A new working copy acts on the hammers of the keys it changes, and on no other record (R42). -/
theorem installCst_keys (new : Cst) : (installCst new s).keys = (resetHammers (perKeyChanged s.cst new) s).keys := by
  unfold installCst
  dsimp only
  split
  · exact quietMove_only.keys
  · exact (quietMove_only.trans deriveLever_only).keys

/-- Some hammers are acted on by R42, or none. -/
def HammersReset (s t : State) : Prop := t.keys = s.keys ∨ ∃ changed, t.keys = (resetHammers changed s).keys

theorem calWriteEffect_keys (l : Link) (args : List Byte) : HammersReset s (calWriteEffect l args s).1 := by
  unfold calWriteEffect
  split
  · exact .inl rfl
  · split
    · exact .inl rfl
    · split_ifs
      · exact .inl rfl
      · exact .inl rfl
      · exact .inl rfl
      · unfold calStore done
        dsimp only
        split
        · exact .inl rfl
        · exact .inr ⟨_, installCst_keys _⟩

theorem calDefaultsEffect_keys (l : Link) (args : List Byte) : HammersReset s (calDefaultsEffect l args s).1 := by
  unfold calDefaultsEffect needs
  split
  · exact .inl rfl
  · split
    · exact .inl rfl
    · split
      · exact .inl rfl
      · split_ifs
        · exact .inl rfl
        · exact .inl rfl
        · exact .inr ⟨_, installCst_keys _⟩

theorem serve_hammersReset {effect : List Byte → State → State × Reply}
    (h : ∀ args u, HammersReset u (effect args u).1) (l : Link) (k : Byte) : HammersReset s (serve l k effect s) := by
  rcases serve_cases (s := s) l k effect with hs | ⟨args, hs⟩ <;> rw [hs]
  · exact .inl rfl
  · exact h args (popRequest l s)

end Sys2Proof.Machine
end

section
namespace Sys2Proof.Machine

variable {s t u : State}

/-! ## What the other commands touch of the keys -/

theorem linkReset_keys (l : Link) : (linkReset l s).keys = s.keys := by
  have htone : (if holdsTone s l then toneTeardown s else s).keys = s.keys := by
    split
    · exact toneTeardown_keys
    · rfl
  have hdemand : ∀ v : State, v.keys = s.keys →
      (setDemand (v.rlc.demand.setLink l false) v).keys = s.keys := fun v hv => (setDemand_only _).keys.trans hv
  have hroles : ∀ (b : Bool) (v : State), v.keys = s.keys → (if b then raiseAll .roleChange v else v).keys = s.keys := by
    intro b v hv
    cases b <;> exact hv
  have harrives : ∀ v : State, v.keys = s.keys →
      (if v.sysReset = .awaitingReply l then resetArrives v else v).keys = s.keys := by
    intro v hv
    split <;> exact hv
  exact harrives _ (hroles _ _ (hdemand _ htone))

theorem discardFrame_keys (l : Link) : (discardFrame l s).keys = s.keys := rfl

theorem completeFrame_keys (l : Link) (payload : List Byte) : (completeFrame l payload s).keys = s.keys := by
  unfold completeFrame
  split
  · exact linkReset_keys l
  · rfl

theorem takeByte_keys (l : Link) (b : Byte) (stopLow : Bool) : (takeByte l b stopLow s).keys = s.keys := by
  unfold takeByte
  split
  · split <;> rfl
  · split <;> rfl
  · split_ifs <;> rfl
  · split
    · exact completeFrame_keys l _
    · rfl

theorem refillStale_only : VoiceOnly s (refillStale s) := by
  refine foldl_rel (R := VoiceOnly) (fun _ => .refl) .trans (fun s n => ?_) _ _
  dsimp only
  split
  · split
    · exact (setSlot_only _ _).trans (queueOrder_only _)
    · exact .refl
  · exact .refl

theorem drainOrders_keys (l : Link) : (drainOrders l s).keys = s.keys := refillStale_only.keys

theorem nextEntry_onlyKeys (pos : WalkPos) : (nextEntry pos s).keys = s.keys := (nextEntry_keys pos).1

theorem reportInvalid_only (passes : Bool) : ReportOnly s (reportInvalid passes s) := by
  cases passes
  · exact (reportFault_only _).trans (raiseAll_only _).report
  · exact .refl

theorem loadRegions_keys : (loadRegions s).keys = s.keys :=
  ((reportInvalid_only (s := onCst Cst.load { s with phase := .loading }) _).trans (reportInvalid_only _)).keys

theorem startUp_keys : (startUp s).keys = s.keys := by
  unfold startUp
  split
  · rfl
  · exact loadRegions_keys

theorem startFrame_keys : (startFrame s).keys = s.keys := by
  rw [startFrame_eq]

/-- What a command does to the keys: nothing, or a reset, or the hammers that R42 acts on, or the samples of a group. -/
inductive KeyStep (s t : State) : Prop
  | kept (h : t.keys = s.keys)
  | cleared (h : t.keys = Vector.replicate 88 {})
  | calibrated (changed : Key → Bool) (h : t.keys = (resetHammers changed s).keys)
  | sampled (g : Group) (time : Clock) (rs : List AinResult) (h : t.keys = (rs.foldl (convertResult g time) s).keys)

theorem HammersReset.keyStep (h : HammersReset s t) : KeyStep s t := by
  rcases h with h | ⟨changed, h⟩
  · exact .kept h
  · exact .calibrated changed h

/-- The command that runs to `u` leaves no other state. -/
theorem KeyStep.of_next {o : Host.Outcome State Fault Refusal} (hu : o = .next u) (ht : o = .next t) (h : KeyStep s u) :
    KeyStep s t := by
  rw [hu] at ht
  cases ht
  exact h

/-- A request whose effect keeps the keys. -/
theorem KeyStep.of_serve {effect : List Byte → State → State × Reply} {l : Link} {k : Byte} (h : KeepsKeys effect)
    (ht : Host.Outcome.next (serve l k effect s) = (.next t : Host.Outcome State Fault Refusal)) : KeyStep s t :=
  .of_next rfl ht (.kept (serve_keys h l k))

/-- A command that may do nothing keeps what the command that acts keeps. -/
theorem ite_keys {c : Prop} [Decidable c] (h : t.keys = s.keys) : (if c then t else s).keys = s.keys := by
  split
  · exact h
  · rfl

/-- What each command does to the keys. -/
theorem exec_keyStep {i : Instr} (h : exec i s = .next t) : KeyStep s t := by
  cases i with
  | powerOnReset => exact .of_next rfl h (.cleared startUp_keys)
  | resetnLow =>
    refine .of_next rfl h (.kept ?_)
    dsimp only
    split_ifs <;> rfl
  | systemResetEffect =>
    refine .of_next rfl h ?_
    split
    · exact .cleared startUp_keys
    · exact .kept rfl
  | receiveByte l b stopLow =>
    refine .of_next rfl h (.kept ?_)
    split
    · rw [takeByte_keys]
      exact ite_keys (discardFrame_keys l)
    · rfl
  | interByteGapTimeout l => exact .of_next rfl h (.kept (ite_keys (discardFrame_keys l)))
  | lineBreak l =>
    refine .of_next rfl h (.kept ?_)
    dsimp only
    split_ifs
    · rfl
    · exact linkReset_keys l
    · rfl
  | transmitFrameStart l =>
    refine .of_next rfl h (.kept (ite_keys ?_))
    split <;> rfl
  | pendingNoticeQueued l =>
    refine .of_next rfl h (.kept ?_)
    split <;> rfl
  | voiceOrderDrain =>
    refine .of_next rfl h (.kept ?_)
    split
    · exact drainOrders_keys _
    · rfl
  | unknownRequest l =>
    refine .of_next rfl h (.kept ?_)
    split
    · exact ite_keys rfl
    · rfl
  | hello l => exact .of_serve (helloEffect_keys l) h
  | setLink l => exact .of_serve (setLinkEffect_keys l) h
  | claimRole l => exact .of_serve (claimRoleEffect_keys l) h
  | readKeys l => exact .of_serve (readKeysEffect_keys l) h
  | setWindow l => exact .of_serve (setWindowEffect_keys l) h
  | readWindow l => exact .of_serve (readWindowEffect_keys l) h
  | depthStream l => exact .of_serve (depthStreamEffect_keys l) h
  | setScanList l => exact .of_serve setScanListEffect_keys h
  | openJournal l => exact .of_serve (openJournalEffect_keys l) h
  | readJournal l => exact .of_serve (readJournalEffect_keys l) h
  | closeJournal l => exact .of_serve (closeJournalEffect_keys l) h
  | setLayers l => exact .of_serve setLayersEffect_keys h
  | readVoices l => exact .of_serve (readVoicesEffect_keys l) h
  | voiceEnded l => exact .of_serve (voiceEndedEffect_keys l) h
  | railDemand l => exact .of_serve (railDemandEffect_keys l) h
  | railRecover l => exact .of_serve railRecoverEffect_keys h
  | readRail l => exact .of_serve readRailEffect_keys h
  | takeRecord l => exact .of_serve takeRecordEffect_keys h
  | takeStop l => exact .of_serve takeStopEffect_keys h
  | takeLoad l => exact .of_serve takeLoadEffect_keys h
  | writeTakeRecords l => exact .of_serve writeTakeRecordsEffect_keys h
  | loadEnd l => exact .of_serve loadEndEffect_keys h
  | takeKeep l => exact .of_serve (keepEffect_keys l true) h
  | takeUnkeep l => exact .of_serve (keepEffect_keys l false) h
  | takeErase l => exact .of_serve takeEraseEffect_keys h
  | readTakeDirectory l => exact .of_serve (readTakeDirectoryEffect_keys l) h
  | readTakeRecords l => exact .of_serve (readTakeRecordsEffect_keys l) h
  | takePlay l => exact .of_serve takePlayEffect_keys h
  | stop l => exact .of_serve stopEffect_keys h
  | pause l => exact .of_serve pauseEffect_keys h
  | resume l => exact .of_serve resumeEffect_keys h
  | setTempo l => exact .of_serve setTempoEffect_keys h
  | setLoop l => exact .of_serve setLoopEffect_keys h
  | clearLoop l => exact .of_serve clearLoopEffect_keys h
  | setGuide l => exact .of_serve setGuideEffect_keys h
  | calRead l => exact .of_serve (calReadEffect_keys l) h
  | calWrite l => exact .of_next rfl h (serve_hammersReset (fun args u => calWriteEffect_keys l args) l kCalWrite).keyStep
  | calCommit l => exact .of_serve (calCommitEffect_keys l) h
  | calDefaults l => exact .of_next rfl h (serve_hammersReset (fun args u => calDefaultsEffect_keys l args) l kCalDefaults).keyStep
  | commitComplete r equal =>
    refine .of_next rfl h (.kept (ite_keys ?_))
    cases equal <;> rfl
  | noticeSet l => exact .of_serve (noticeSetEffect_keys l) h
  | noticeMask l => exact .of_serve (noticeMaskEffect_keys l) h
  | readFaults l => exact .of_serve readFaultsEffect_keys h
  | clearFaults l => exact .of_serve clearFaultsEffect_keys h
  | systemReset l => exact .of_serve (systemResetEffect_keys l) h
  | frameStart => exact .of_next rfl h (.kept (ite_keys startFrame_keys))
  | settleEnd =>
    refine .of_next rfl h (.kept ?_)
    split <;> rfl
  | conversionEnd results =>
    refine .of_next rfl h ?_
    split
    · exact .sampled _ _ results (nextEntry_onlyKeys _)
    · exact .kept rfl
  | recorderSecondStep =>
    refine .of_next rfl h (.kept ?_)
    split <;> rfl
  | millisecondStep =>
    refine .of_next rfl h (.kept ?_)
    split
    · exact ((onPly_only _).trans finishStep_only).keys
    · rfl
  | silentInputChange low =>
    refine .of_next rfl h (.kept ?_)
    split <;> rfl
  | leverDebounceExpiry => exact .of_next rfl h (.kept (ite_keys deriveLever_only.keys))
  | railHomingStart => exact .of_next rfl h (.kept (ite_keys startHoming_only.keys))
  | railQuietMoveStart =>
    refine .of_next rfl h (.kept ?_)
    split
    · exact (startMove_only _ _).keys
    · rfl
  | railCurrentChange current => exact .of_next rfl h (.kept rfl)
  | inrushBlankingEnd => exact .of_next rfl h (.kept (ite_keys rfl))
  | stall =>
    refine .of_next rfl h (.kept ?_)
    split
    · exact (stallLeg_only _).keys
    · rfl
  | maximumTravelTimeout => exact .of_next rfl h (.kept (ite_keys (railFault_only _).keys))
  | backoffTimeEnd =>
    refine .of_next rfl h (.kept ?_)
    split
    · exact (retreatEnd_only _ _).keys
    · rfl
  | retryDelayEnd =>
    refine .of_next rfl h (.kept ?_)
    split
    · split
      · exact (startMove_only _ _).keys
      · exact (enterWaiting_only _ _).keys
    · rfl
  | railHeld =>
    refine .of_next rfl h (.kept ?_)
    split <;> rfl
  | resetnHigh => exact .of_next rfl h (.kept (ite_keys (s := { s with resetnLow := false }) loadRegions_keys))
  | lineReturnsHigh l => exact .of_next rfl h (.kept (ite_keys rfl))
  | powerLoss =>
    refine .of_next rfl h ?_
    split
    · exact .kept rfl
    · exact .cleared rfl
  | regionsLoaded => exact .of_next rfl h (.kept (ite_keys startFrame_keys))

end Sys2Proof.Machine
end

section
namespace Sys2Proof.Machine

variable {s t u : State}

/-! ## Held-out keys (R26, R39 to R41) -/

/-- A key that is not held out has no FAILED channel. -/
theorem KeyRec.quietWhenHeldOut.healthy {r : KeyRec} (hq : r.quietWhenHeldOut) (hh : r.heldOut = false) :
    r.depthFailed = false ∧ r.hammerFailed = false := by
  have hn : ¬(r.depthFailed = true ∨ r.hammerFailed = true) := fun hf => absurd ((hq.1 hf).symm.trans hh) (by decide)
  simpa using hn

/-- A key that is not held out is as required when its channels are HEALTHY. -/
theorem KeyRec.quiet_of_healthy {r : KeyRec} (hh : r.heldOut = false) (hd : r.depthFailed = false)
    (hm : r.hammerFailed = false) : r.quietWhenHeldOut := by
  simp [KeyRec.quietWhenHeldOut, hh, hd, hm]

theorem KeyRec.failed_quiet (hammer : Bool) (r : KeyRec) : (r.failed hammer).quietWhenHeldOut :=
  ⟨fun _ => rfl, fun _ => ⟨rfl, rfl, rfl, rfl⟩⟩

theorem KeyRec.channelBack_quiet (hammer : Bool) {r : KeyRec} (hq : r.quietWhenHeldOut) :
    (r.channelBack hammer).quietWhenHeldOut := by
  obtain ⟨hheld, hquiet⟩ := hq
  cases hammer
  · exact ⟨fun hf => hheld (.inr (hf.resolve_left Bool.false_ne_true)), hquiet⟩
  · exact ⟨fun hf => hheld (.inl (hf.resolve_right Bool.false_ne_true)), hquiet⟩

theorem KeyRec.calibrated_quiet {r : KeyRec} (hq : r.quietWhenHeldOut) : r.calibrated.quietWhenHeldOut :=
  ⟨hq.1, fun hh => ⟨(hq.2 hh).1, rfl, (hq.2 hh).2.2⟩⟩

/-- A hammer sample keeps its key as required (R40). -/
theorem hammerSample_quiet {k : Key} (time : Clock) (first : Bool) (h : Nat) (hq : (s.key k).quietWhenHeldOut) :
    ((hammerSample k time first h s).key k).quietWhenHeldOut := by
  by_cases hn : (s.key k).heldOut = true ∨ first = true
  · rw [hammerSample_alone hn, State.key_onKey_same]
    exact hq
  · obtain ⟨hh, hf⟩ := not_or.mp hn
    have hh : (s.key k).heldOut = false := Bool.eq_false_iff.mpr hh
    obtain rfl : first = false := Bool.eq_false_iff.mpr hf
    obtain ⟨-, hheld, hd, hm⟩ := hammerSample_key (k := k) (time := time) (h := h) hh
    obtain ⟨hd', hm'⟩ := hq.healthy hh
    exact KeyRec.quiet_of_healthy hheld (hd.trans hd') (hm.trans hm')

/-- A sample handled by the tests of R24 leaves the health of its key as it is. -/
theorem keySampleNormal_health (k : Key) (time : Clock) (d : Nat) :
    let r := (keySampleNormal k time d s).key k
    r.heldOut = (s.key k).heldOut ∧ r.depthFailed = (s.key k).depthFailed ∧ r.hammerFailed = (s.key k).hammerFailed := by
  intro r
  rcases hout : keyTests s.cst.user.working.profile time d 4 {} (s.key k).state none with ⟨st, rel⟩
  by_cases hq : rel = none ∨ (s.key k).sounding = false
  · obtain ⟨_, _, _, he⟩ := keySampleNormal_silent hout hq
    rw [show r = _ from congrArg (fun v => v.key k) he, State.key_onKey_same]
    exact ⟨rfl, rfl, rfl⟩
  · obtain ⟨hrel, hs⟩ := not_or.mp hq
    obtain ⟨t0, rfl⟩ := Option.ne_none_iff_exists'.mp hrel
    obtain ⟨_, _, _, _, he⟩ := keySampleNormal_release hout (eq_true_of_ne_false hs)
    rw [show r = _ from congrArg (fun v => v.key k) he, State.key_onKey_same]
    exact ⟨rfl, rfl, rfl⟩

/-- A key set up afresh is not held out (R41, R44). -/
theorem deriveKey_health (k : Key) (d : Nat) :
    let r := (deriveKey k d s).key k
    r.heldOut = false ∧ r.depthFailed = (s.key k).depthFailed ∧ r.hammerFailed = (s.key k).hammerFailed := by
  intro r
  obtain ⟨_, _, _, he⟩ := deriveKey_eq (s := s) k d
  rw [show r = _ from congrArg (fun v => v.key k) he, State.key_onKey_same]
  exact ⟨rfl, rfl, rfl⟩

/-- A key-depth sample keeps its key as required (R26, R40, R41). -/
theorem keyDepthSample_quiet {k : Key} (time : Clock) (first : Bool) (d : Nat) (hq : (s.key k).quietWhenHeldOut) :
    ((keyDepthSample k time first d s).key k).quietWhenHeldOut := by
  have hfresh (hd : (s.key k).depthFailed = false) (hm : (s.key k).hammerFailed = false) :
      ((deriveKey k d s).key k).quietWhenHeldOut := by
    obtain ⟨hheld, hd', hm'⟩ := deriveKey_health (s := s) k d
    exact KeyRec.quiet_of_healthy hheld (hd'.trans hd) (hm'.trans hm)
  by_cases hh : (s.key k).heldOut = true
  · by_cases hf : (s.key k).depthFailed = true ∨ (s.key k).hammerFailed = true
    · rw [keyDepthSample_heldOut hh hf, State.key_onKey_same]
      exact hq
    · obtain ⟨hd, hm⟩ : (s.key k).depthFailed = false ∧ (s.key k).hammerFailed = false := by simpa using hf
      rw [keyDepthSample_fresh (.inl ⟨hh, hd, hm⟩)]
      exact hfresh hd hm
  · have hh : (s.key k).heldOut = false := Bool.eq_false_iff.mpr hh
    obtain ⟨hd, hm⟩ := hq.healthy hh
    cases first with
    | true =>
      rw [keyDepthSample_fresh (.inr ⟨hh, rfl⟩)]
      exact hfresh hd hm
    | false =>
      obtain ⟨hheld, hd', hm'⟩ := keySampleNormal_health (s := s) k time d
      rw [keyDepthSample_normal hh]
      exact KeyRec.quiet_of_healthy (hheld.trans hh) (hd'.trans hd) (hm'.trans hm)

/-! ## The results of a group and the held-out keys -/

/-- Key `k` is as required after, if it was before. -/
def KeyStaysQuiet (k : Key) (s t : State) : Prop := (s.key k).quietWhenHeldOut → (t.key k).quietWhenHeldOut

theorem keyChannelFailed_quiet (hammer : Bool) (k : Key) (time : Clock) :
    KeyStaysQuiet k s (keyChannelFailed hammer k time s) := fun _ => by
  rw [keyChannelFailed_key]
  exact KeyRec.failed_quiet hammer _

theorem keyChannelRecovered_quiet (hammer : Bool) (k : Key) (time : Clock) :
    KeyStaysQuiet k s (keyChannelRecovered hammer k time s) := fun hq => by
  rw [(keyChannelRecovered_frame hammer k time).1]
  exact KeyRec.channelBack_quiet hammer hq

theorem convertKey_quiet (k : Key) (time : Clock) (raw : Nat) : KeyStaysQuiet k s (convertKey k time raw s) :=
  convert_rel (R := KeyStaysQuiet k) (fun _ => id) (fun h g => g ∘ h)
    (failed := fun u => keyChannelFailed false k time (reportFault .sensorFail u))
    (fun u => keyChannelFailed_quiet (s := reportFault .sensorFail u) false k time)
    (fun _ => keyChannelRecovered_quiet false k time) (fun _ => keyDepthSample_quiet time _ _) _ _ _
    (onSfe (fun f => { f with keyCh := f.keyCh.set k (channelTest s.sfe.keyCh[k] raw).record }) s)

theorem quietMove_hammerSample_quiet {k : Key} (time : Clock) (first : Bool) (h : Nat) :
    KeyStaysQuiet k s (quietMove (hammerSample k time first h s)) := fun hq => by
  rw [quietMove_key]
  exact hammerSample_quiet time first h hq

theorem convertHammer_quiet (k : Key) (time : Clock) (raw : Nat) : KeyStaysQuiet k s (convertHammer k time raw s) :=
  convert_rel (R := KeyStaysQuiet k) (fun _ => id) (fun h g => g ∘ h)
    (failed := fun u => keyChannelFailed true k time (reportFault .sensorFail u))
    (fun u => keyChannelFailed_quiet (s := reportFault .sensorFail u) true k time)
    (fun _ => keyChannelRecovered_quiet true k time)
    (fun _ => quietMove_hammerSample_quiet time _ _) _ _ _
    (onSfe (fun f => { f with hammerCh := f.hammerCh.set k (channelTest s.sfe.hammerCh[k] raw).record }) s)

/-- A result that concerns one key keeps every key as required when it keeps that one. -/
theorem KeyStaysQuiet.heldOutKeysQuiet {k : Key} (hk : KeyStaysQuiet k s t) (hne : ∀ j, j ≠ k → t.key j = s.key j)
    (hq : HeldOutKeysQuiet s) : HeldOutKeysQuiet t := fun j => by
  by_cases hj : j = k
  · subst hj
    exact hk (hq j)
  · rw [hne j hj]
    exact hq j

theorem HeldOutKeysQuiet.of_keys (hq : HeldOutKeysQuiet s) (h : t.keys = s.keys) : HeldOutKeysQuiet t := fun k => by
  rw [State.key, h]
  exact hq k

theorem pedalSample_keys (p : Pedal) (time : Clock) (first : Bool) (d : Nat) : (pedalSample p time first d s).keys = s.keys := by
  by_cases hp : p = .sostenuto
  · subst hp
    unfold pedalSample sostenutoTest
    dsimp only
    split_ifs
    · rfl
    · obtain ⟨_, _, _, _, h⟩ := sostenutoOff_eq (s := setPedalDepth .sostenuto d s) time
      rw [h]
      rfl
    · rfl
    · obtain ⟨_, _, _, _, h⟩ := sostenutoOn_eq (s := setPedalDepth .sostenuto d s) time
      rw [h]
      rfl
    · rfl
  · cases first with
    | true =>
      obtain ⟨_, _, _, h⟩ := pedalSample_first (s := s) hp time d
      rw [h]
    | false => exact (pedalSample_reports hp time d).2.2.2.1

theorem convertPedal_keys (p : Pedal) (time : Clock) (raw : Nat) : (convertPedal p time raw s).keys = s.keys :=
  convert_rel (R := fun s t => t.keys = s.keys) (fun _ => rfl) (fun h g => g.trans h)
    (failed := fun u => pedalChannelFailed p time (reportFault .sensorFail u))
    (fun u => (pedalChannelFailed_frame (s := reportFault .sensorFail u) p time).1)
    (recovered := pedalChannelRecovered p) (fun _ => rfl) (fun _ => pedalSample_keys p time _ _) _ _ _
    (onSfe (fun f => { f with pedalCh := f.pedalCh.set p.index (channelTest s.sfe.pedalCh[p.index] raw).record }) s)

/-- One result of a converted group keeps every key as required (R39 to R41). -/
theorem convertResult_heldOutKeysQuiet (g : Group) (time : Clock) (r : AinResult) (hq : HeldOutKeysQuiet s) :
    HeldOutKeysQuiet (convertResult g time s r) := by
  unfold convertResult
  cases g with
  | k n => exact (convertKey_quiet _ time r.raw).heldOutKeysQuiet (fun _ => (convertKey_keyOnly _ _ _).key_ne) hq
  | h n => exact (convertHammer_quiet _ time r.raw).heldOutKeysQuiet (fun _ => (convertHammer_keyOnly _ _ _).key_ne) hq
  | p =>
    cases groupPedal r.ain with
    | none => exact hq
    | some p => exact hq.of_keys (convertPedal_keys p time r.raw)

/-! ## Every step keeps held-out keys quiet -/

theorem KeyStep.heldOutKeysQuiet (h : KeyStep s t) (hq : HeldOutKeysQuiet s) : HeldOutKeysQuiet t := by
  cases h with
  | kept h => exact hq.of_keys h
  | cleared h =>
    refine reset_heldOutKeysQuiet.of_keys ?_
    rw [h]
    rfl
  | calibrated changed h =>
    refine HeldOutKeysQuiet.of_keys (fun k => ?_) h
    rw [State.key_resetHammers]
    split
    · exact KeyRec.calibrated_quiet (hq k)
    · exact hq k
  | sampled g time rs h =>
    have hfold : HeldOutKeysQuiet (rs.foldl (convertResult g time) s) :=
      foldl_rel (R := fun s t => HeldOutKeysQuiet s → HeldOutKeysQuiet t) (fun _ => id) (fun h g => g ∘ h)
        (fun _ r => convertResult_heldOutKeysQuiet g time r) rs s hq
    exact hfold.of_keys h

/-- A microsecond passing touches no key. -/
theorem tick_keys : (tick s).keys = s.keys := by
  rw [tick_eq]

theorem idle_heldOutKeysQuiet (hq : HeldOutKeysQuiet s) (h : idle s = .next t) : HeldOutKeysQuiet t := by
  unfold idle at h
  split at h
  · split at h
    · exact (exec_keyStep h).heldOutKeysQuiet hq
    · cases h
      exact hq.of_keys (by split <;> simp only [tick_keys])
  · cases h
    exact hq

/-- Settles O15: what each command does to the keys, and for the samples of a group each of its results. -/
theorem heldOutKeysStayQuiet : Obligations.HeldOutKeysStayQuiet := by
  intro s t hq h
  unfold step at h
  split at h
  · exact idle_heldOutKeysQuiet hq h
  · exact (exec_keyStep h).heldOutKeysQuiet hq

end Sys2Proof.Machine
end

section
namespace Sys2Proof.Machine

variable {s t u : State}

/-! ## What voice orders touch

Recomputing slots and telling of a soft level touch the voice assigner and, by VOICE_ATTENTION, links. -/

/-- At most the voice assigner and links differ. -/
def OrdersOnly (s t : State) : Prop := t = { s with vas := t.vas, links := t.links }

theorem OrdersOnly.refl : OrdersOnly s s := rfl

theorem OrdersOnly.trans (h : OrdersOnly s t) (g : OrdersOnly t u) : OrdersOnly s u := by
  unfold OrdersOnly at *
  rw [g, h]

theorem OrdersOnly.voice (h : OrdersOnly s t) : VoiceOnly s t := ⟨t.vas, t.links, s.faults, h⟩

theorem onVas_orders (f : Vas → Vas) : OrdersOnly s (onVas f s) := rfl
theorem setSlot_orders (n : Slot) (sl : VoiceSlot) : OrdersOnly s (setSlot n sl s) := rfl
theorem raiseAll_orders (c : EventClass) : OrdersOnly s (raiseAll c s) := rfl

theorem queueOrder_orders (o : VoiceOrder) : OrdersOnly s (queueOrder o s) := by
  unfold queueOrder
  dsimp only
  split
  · exact (onVas_orders _).trans (raiseAll_orders _)
  · exact onVas_orders _

theorem dampOrder_orders (n : Slot) (x : Nat) : OrdersOnly s (dampOrder n x s) := by
  unfold dampOrder
  dsimp only
  split
  · exact (onVas_orders _).trans (setSlot_orders _ _)
  · split
    · exact (setSlot_orders _ _).trans (queueOrder_orders _)
    · exact setSlot_orders _ _

theorem recomputeSlot_orders (n : Slot) : OrdersOnly s (recomputeSlot n s) := by
  unfold recomputeSlot
  dsimp only
  split
  · exact .refl
  · split
    · exact (setSlot_orders _ _).trans (dampOrder_orders _ _)
    · exact setSlot_orders _ _

/-- What the recomputation of the selected slots does at one of them (R89). -/
def recomputeIf (p : Voice → Bool) (s : State) (n : Slot) : State :=
  match (s.slot n).voice with
  | some v => if p v then recomputeSlot n s else s
  | none => s

theorem recomputeWhere_eq (p : Voice → Bool) : recomputeWhere p s = (List.finRange 128).foldl (recomputeIf p) s := rfl

theorem recomputeIf_orders (p : Voice → Bool) (n : Slot) : OrdersOnly s (recomputeIf p s n) := by
  unfold recomputeIf
  split
  · split
    · exact recomputeSlot_orders n
    · exact .refl
  · exact .refl

theorem foldl_recomputeIf_orders (p : Voice → Bool) (ns : List Slot) (s : State) :
    OrdersOnly s (ns.foldl (recomputeIf p) s) :=
  foldl_rel (R := OrdersOnly) (fun _ => .refl) .trans (fun _ n => recomputeIf_orders p n) ns s

theorem recomputeWhere_orders (p : Voice → Bool) : OrdersOnly s (recomputeWhere p s) := foldl_recomputeIf_orders p _ s

theorem softOrder_orders (src : Source) : OrdersOnly s (softOrder src s) := by
  unfold softOrder
  dsimp only
  split
  · exact (onVas_orders _).trans (queueOrder_orders _)
  · exact onVas_orders _

theorem softChanged_orders (src : Source) : OrdersOnly s (softChanged src s) := by
  unfold softChanged
  dsimp only
  split
  · exact softOrder_orders src
  · exact .refl

/-! ### The values the voice assigner reads -/

theorem setPlayKeys_orders (S : KeySet) : OrdersOnly (onPly (fun p => { p with keys := S }) s) (setPlayKeys S s) := by
  unfold setPlayKeys
  dsimp only
  split
  · exact .refl
  · exact recomputeWhere_orders _

theorem setPlaySost_orders (on : Bool) (S : KeySet) :
    OrdersOnly (onPly (fun p => { p with sostOn := on, sostSet := S }) s) (setPlaySost on S s) := by
  unfold setPlaySost
  dsimp only
  split
  · exact .refl
  · exact recomputeWhere_orders _

theorem setPlayDamper_orders (x : Nat) : OrdersOnly (onPly (fun p => { p with damper := x }) s) (setPlayDamper x s) := by
  unfold setPlayDamper
  dsimp only
  split
  · exact .refl
  · exact recomputeWhere_orders _

theorem setPlaySoft_orders (x : Nat) : OrdersOnly (onPly (fun p => { p with soft := x }) s) (setPlaySoft x s) := by
  unfold setPlaySoft
  dsimp only
  split
  · exact .refl
  · exact softChanged_orders _

end Sys2Proof.Machine
end

section
namespace Sys2Proof.Machine

variable {s t u : State}

/-! ## What keeps the pedal unit and the player -/

/-- The pedal unit and the player are as they were. -/
def PlayKept (s t : State) : Prop := t.pdu = s.pdu ∧ t.ply = s.ply

theorem PlayKept.refl : PlayKept s s := ⟨rfl, rfl⟩
theorem PlayKept.trans (h : PlayKept s t) (g : PlayKept t u) : PlayKept s u := ⟨g.1.trans h.1, g.2.trans h.2⟩

theorem LinksOnly.playKept (h : LinksOnly s t) : PlayKept s t := by obtain ⟨_, rfl⟩ := h; exact ⟨rfl, rfl⟩
theorem ReportOnly.playKept (h : ReportOnly s t) : PlayKept s t := by obtain ⟨_, _, rfl⟩ := h; exact ⟨rfl, rfl⟩
theorem RailOnly.playKept (h : RailOnly s t) : PlayKept s t := by obtain ⟨_, _, _, _, rfl⟩ := h; exact ⟨rfl, rfl⟩
theorem VoiceOnly.playKept (h : VoiceOnly s t) : PlayKept s t := by obtain ⟨_, _, _, rfl⟩ := h; exact ⟨rfl, rfl⟩
theorem TakeOnly.playKept (h : TakeOnly s t) : PlayKept s t := by obtain ⟨_, _, _, rfl⟩ := h; exact ⟨rfl, rfl⟩

theorem onKey_playKept (k : Key) (f : KeyRec → KeyRec) : PlayKept s (onKey k f s) := ⟨rfl, rfl⟩
theorem appendEvent_playKept (e : Event) : PlayKept s (appendEvent e s) := ⟨rfl, rfl⟩

/-- A command that may do nothing keeps what the command that acts keeps. -/
theorem ite_playKept {c : Prop} [Decidable c] (h : PlayKept s t) : PlayKept s (if c then t else s) := by
  split
  · exact h
  · exact .refl

/-- An event reaches pedal unit and player by the player alone, and one that the player makes reaches neither (R49, R149). -/
theorem pedalEvent_playKept (e : Event) : PlayKept s (pedalEvent e s) :=
  ((appendEvent_playKept e).trans (voiceEvent_only e).playKept).trans (recorderEvent_only e).playKept

theorem playbackEvent_playKept (kind : EventKind) (key : Option Nat) (value : Nat) (guide : Bool) :
    PlayKept s (playbackEvent kind key value guide s) := pedalEvent_playKept _

theorem playMark_playKept (m : Mark) (n : TakeNo) : PlayKept s (playMark m n s) := playbackEvent_playKept _ _ _ _

/-! ### Requests that reach neither -/

/-- A request whose effect leaves the pedal unit and the player as they are. -/
def KeepsPlay (effect : List Byte → State → State × Reply) : Prop := ∀ args s, PlayKept s (effect args s).1

/-- What holds across a request's effect holds across the request (R164). -/
theorem serve_rel {R : State → State → Prop} (refl : ∀ s, R s s) (trans : ∀ {a b c}, R a b → R b c → R a c)
    (links : ∀ {a b}, LinksOnly a b → R a b) {effect : List Byte → State → State × Reply}
    (h : ∀ args s, R s (effect args s).1) (l : Link) (k : Byte) (s : State) : R s (serve l k effect s) := by
  rcases serve_cases (s := s) l k effect with hs | ⟨args, hs⟩ <;> rw [hs]
  · exact refl s
  · exact trans (trans (links (popRequest_only l)) (h args _)) (links (putReply_only l k _))

theorem serve_playKept {effect : List Byte → State → State × Reply} (h : KeepsPlay effect) (l : Link) (k : Byte) :
    PlayKept s (serve l k effect s) :=
  serve_rel (R := PlayKept) (fun _ => .refl) .trans LinksOnly.playKept h l k s

theorem needs_playKept {n : Nat} {args : List Byte} {go : State × Reply} (h : PlayKept s go.1) :
    PlayKept s (needs n args s go).1 := by
  unfold needs
  split
  · exact .refl
  · exact h

/-! #### Links, journal, notices -/

theorem helloEffect_keepsPlay (l : Link) : KeepsPlay (helloEffect l) := fun _ _ => .refl

theorem setLinkEffect_keepsPlay (l : Link) : KeepsPlay (setLinkEffect l) := fun args s => by
  refine needs_playKept ?_
  split
  · dsimp only
    split <;> exact ⟨rfl, rfl⟩
  · exact .refl

theorem claimRoleEffect_keepsPlay (l : Link) : KeepsPlay (claimRoleEffect l) := fun args s => by
  unfold claimRoleEffect
  split
  · exact .refl
  · split
    · split_ifs
      · exact .refl
      · exact .refl
      · exact ((softClaimed_only .live).trans (softClaimed_only .playback)).playKept
    · split_ifs <;> exact ⟨rfl, rfl⟩
    · exact .refl

theorem readKeysEffect_keepsPlay (l : Link) : KeepsPlay (readKeysEffect l) := fun args s => by
  refine needs_playKept ?_
  dsimp only
  split <;> exact .refl

theorem setWindowEffect_keepsPlay (l : Link) : KeepsPlay (setWindowEffect l) := fun args s => by
  refine needs_playKept ?_
  split <;> exact ⟨rfl, rfl⟩

theorem readWindowEffect_keepsPlay (l : Link) : KeepsPlay (readWindowEffect l) := fun args s => by
  refine needs_playKept ?_
  dsimp only
  split <;> exact .refl

theorem depthStreamEffect_keepsPlay (l : Link) : KeepsPlay (depthStreamEffect l) := fun args s => by
  refine needs_playKept ?_
  dsimp only
  split <;> exact ⟨rfl, rfl⟩

theorem setScanListEffect_keepsPlay : KeepsPlay setScanListEffect := fun args s => by
  refine needs_playKept ?_
  dsimp only
  split
  · exact .refl
  · split <;> exact ⟨rfl, rfl⟩

theorem systemResetEffect_keepsPlay (l : Link) : KeepsPlay (systemResetEffect l) := fun args s => by
  unfold systemResetEffect
  split
  · unfold done
    split <;> exact ⟨rfl, rfl⟩
  · exact .refl

theorem openJournalEffect_keepsPlay (l : Link) : KeepsPlay (openJournalEffect l) := fun args s => by
  refine needs_playKept ?_
  dsimp only
  split <;> exact ⟨rfl, rfl⟩

theorem readJournalEffect_keepsPlay (l : Link) : KeepsPlay (readJournalEffect l) := fun args s => by
  refine needs_playKept ?_
  split <;> exact ⟨rfl, rfl⟩

theorem closeJournalEffect_keepsPlay (l : Link) : KeepsPlay (closeJournalEffect l) := fun args s => by
  unfold closeJournalEffect
  split <;> exact ⟨rfl, rfl⟩

theorem noticeSetEffect_keepsPlay (l : Link) : KeepsPlay (noticeSetEffect l) := fun args s => by
  refine needs_playKept ?_
  split
  · exact .refl
  · split <;> exact ⟨rfl, rfl⟩

theorem noticeMaskEffect_keepsPlay (l : Link) : KeepsPlay (noticeMaskEffect l) := fun args s => by
  refine needs_playKept ?_
  dsimp only
  split <;> exact ⟨rfl, rfl⟩

theorem readFaultsEffect_keepsPlay : KeepsPlay readFaultsEffect := fun args s => by
  refine needs_playKept ?_
  split <;> exact .refl

theorem clearFaultsEffect_keepsPlay : KeepsPlay clearFaultsEffect := fun _ _ => needs_playKept ⟨rfl, rfl⟩

/-! #### Voices and rail -/

theorem setLayersEffect_keepsPlay : KeepsPlay setLayersEffect := fun args s => by
  refine needs_playKept ?_
  split <;> exact ⟨rfl, rfl⟩

theorem readVoicesEffect_keepsPlay (l : Link) : KeepsPlay (readVoicesEffect l) := fun args s => by
  refine needs_playKept ?_
  dsimp only
  split <;> exact .refl

theorem voiceEndedEffect_keepsPlay (l : Link) : KeepsPlay (voiceEndedEffect l) := fun args s => by
  unfold voiceEndedEffect
  split
  · split
    · exact .refl
    · exact ((foldl_endPair_voice _ (s, 0, 0)).trans (staleReported_only _).voice).playKept
  · exact .refl

theorem railDemandEffect_keepsPlay (l : Link) : KeepsPlay (railDemandEffect l) := fun args s => by
  refine needs_playKept ?_
  split
  · exact .refl
  · exact (setDemand_only _).playKept

theorem railRecoverEffect_keepsPlay : KeepsPlay railRecoverEffect := fun args s => by
  unfold railRecoverEffect
  split
  · exact (((onRlc_only _).trans (railEnter_only _)).trans quietMove_only).playKept
  · exact .refl

theorem readRailEffect_keepsPlay : KeepsPlay readRailEffect := fun _ _ => .refl

/-! #### Takes -/

theorem takeRecordEffect_keepsPlay : KeepsPlay takeRecordEffect := fun args s => by
  refine needs_playKept ?_
  split
  · exact .refl
  · split_ifs
    · exact .refl
    · exact .refl
    · exact .refl
    · split
      · exact .refl
      · exact (beginRecording_only _ _ _).playKept

theorem takeStopEffect_keepsPlay : KeepsPlay takeStopEffect := fun args s => by
  unfold takeStopEffect
  split
  · exact .refl
  · exact (stopRecording_only _).playKept
  · exact (stopRecording_only _).playKept

theorem takeLoadEffect_keepsPlay : KeepsPlay takeLoadEffect := fun args s => by
  refine needs_playKept ?_
  split
  · exact .refl
  · split_ifs <;> exact ⟨rfl, rfl⟩

theorem writeTakeRecordsEffect_keepsPlay : KeepsPlay writeTakeRecordsEffect := fun args s => by
  refine needs_playKept ?_
  split
  · exact .refl
  · split
    · exact .refl
    · split
      · exact .refl
      · split_ifs
        · exact .refl
        · exact .refl
        · exact (appendRecords_only _ _).playKept

theorem loadEndEffect_keepsPlay : KeepsPlay loadEndEffect := fun args s => by
  refine needs_playKept ?_
  split
  · exact .refl
  · split
    · exact .refl
    · exact ((endLoading_only _).trans (raiseAll_only _).report.take).playKept

theorem keepEffect_keepsPlay (l : Link) (keep : Bool) : KeepsPlay (keepEffect l keep) := fun args s => by
  unfold keepEffect
  split
  · refine needs_playKept ?_
    split
    · exact .refl
    · split_ifs <;> exact ⟨rfl, rfl⟩
  · exact .refl

theorem takeEraseEffect_keepsPlay : KeepsPlay takeEraseEffect := fun args s => by
  refine needs_playKept ?_
  split
  · exact .refl
  · split_ifs
    · exact .refl
    · exact .refl
    · exact .refl
    · exact .refl
    · exact ((emptyTake_only _).trans (raiseAll_only _).report.take).playKept

theorem readTakeDirectoryEffect_keepsPlay (l : Link) : KeepsPlay (readTakeDirectoryEffect l) := fun args s => by
  refine needs_playKept ?_
  dsimp only
  split <;> exact .refl

theorem readTakeRecordsEffect_keepsPlay (l : Link) : KeepsPlay (readTakeRecordsEffect l) := fun args s => by
  refine needs_playKept ?_
  split
  · exact .refl
  · split <;> exact .refl

/-! #### The calibration store -/

theorem resetHammers_playKept (changed : Key → Bool) : PlayKept s (resetHammers changed s) := by
  unfold resetHammers
  exact ⟨rfl, rfl⟩

/-- A new working copy acts on hammers and the rail, on no pedal and not on the player (R42). -/
theorem installCst_playKept (new : Cst) : PlayKept s (installCst new s) := by
  have hcst : PlayKept s (onCst (fun _ => new) s) := ⟨rfl, rfl⟩
  have hquiet := (hcst.trans (resetHammers_playKept (perKeyChanged s.cst new))).trans quietMove_only.playKept
  unfold installCst
  dsimp only
  split
  · exact hquiet
  · exact hquiet.trans deriveLever_only.playKept

theorem calReadEffect_keepsPlay (l : Link) : KeepsPlay (calReadEffect l) := fun args s => by
  refine needs_playKept ?_
  split
  · exact .refl
  · dsimp only
    split <;> exact .refl

theorem calWriteEffect_keepsPlay (l : Link) : KeepsPlay (calWriteEffect l) := fun args s => by
  unfold calWriteEffect
  split
  · exact .refl
  · split
    · exact .refl
    · split_ifs
      · exact .refl
      · exact .refl
      · exact .refl
      · unfold calStore done
        dsimp only
        split
        · exact .refl
        · exact installCst_playKept _

theorem calCommitEffect_keepsPlay (l : Link) : KeepsPlay (calCommitEffect l) := fun args s => by
  unfold calCommitEffect
  split
  · exact .refl
  · refine needs_playKept ?_
    split
    · exact .refl
    · split <;> exact ⟨rfl, rfl⟩

theorem calDefaultsEffect_keepsPlay (l : Link) : KeepsPlay (calDefaultsEffect l) := fun args s => by
  unfold calDefaultsEffect
  split
  · exact .refl
  · refine needs_playKept ?_
    split
    · exact .refl
    · split_ifs
      · exact .refl
      · exact .refl
      · exact installCst_playKept _

/-! ### The lines -/

theorem linkReset_playKept (l : Link) : PlayKept s (linkReset l s) := by
  have htone : PlayKept s (if holdsTone s l then toneTeardown s else s) := ite_playKept toneTeardown_only.playKept
  have hport : ∀ v : State, PlayKept v (onLink l (LinkState.afterReset s.clock) { v with roles := v.roles.without l }) :=
    fun _ => ⟨rfl, rfl⟩
  have hroles : ∀ (b : Bool) (v : State), PlayKept v (if b then raiseAll .roleChange v else v) := fun b v => by
    cases b <;> exact ⟨rfl, rfl⟩
  have harrives : ∀ v : State, PlayKept v (if v.sysReset = .awaitingReply l then resetArrives v else v) :=
    fun v => ite_playKept ⟨rfl, rfl⟩
  exact (((htone.trans (hport _)).trans (setDemand_only _).playKept).trans (hroles _ _)).trans (harrives _)

theorem discardFrame_playKept (l : Link) : PlayKept s (discardFrame l s) := ⟨rfl, rfl⟩

theorem completeFrame_playKept (l : Link) (payload : List Byte) : PlayKept s (completeFrame l payload s) := by
  unfold completeFrame
  split
  · exact linkReset_playKept l
  · exact ⟨rfl, rfl⟩

theorem takeByte_playKept (l : Link) (b : Byte) (stopLow : Bool) : PlayKept s (takeByte l b stopLow s) := by
  unfold takeByte
  split
  · exact ite_playKept ⟨rfl, rfl⟩
  · split <;> exact ⟨rfl, rfl⟩
  · split_ifs <;> exact ⟨rfl, rfl⟩
  · split
    · exact completeFrame_playKept l _
    · exact ⟨rfl, rfl⟩

theorem drainOrders_playKept (l : Link) : PlayKept s (drainOrders l s) :=
  ((onLink_only l _).playKept.trans (onVas_only _).playKept).trans refillStale_only.playKept

/-! ### The front end -/

theorem startFrame_playKept : PlayKept s (startFrame s) := by
  rw [startFrame_eq]
  exact ⟨rfl, rfl⟩

/-- Whatever comes next in a walk reaches neither (R4, R5, R13). -/
theorem nextEntry_playKept (pos : WalkPos) : PlayKept s (nextEntry pos s) := by
  have hend : ∀ b : Bool, PlayKept s (endWalk b s) := fun b => by
    obtain ⟨_, _, _, _, _, he⟩ := endWalk_frame (s := s) b
    rw [he]
    exact ⟨rfl, rfl⟩
  unfold nextEntry
  dsimp only
  split_ifs
  · exact hend false
  · exact hend true
  · rw [beginEntry_eq]
    exact ⟨rfl, rfl⟩

end Sys2Proof.Machine
end

section
namespace Sys2Proof.Machine

variable {s t u : State}

/-! ## The sostenuto sets under the player (R150)

Each operation of the player keeps both sostenuto sets empty while their states are OFF. Only `setPlaySost` gives the
playback set a value, and it is called with the state ON or with the empty set. -/

/-- The sostenuto sets are empty while OFF after, if they were before. -/
def SostenutoKept (s t : State) : Prop := SostenutoSetsEmptyWhileOff s → SostenutoSetsEmptyWhileOff t

theorem SostenutoKept.refl : SostenutoKept s s := id
theorem SostenutoKept.trans (h : SostenutoKept s t) (g : SostenutoKept t u) : SostenutoKept s u := g ∘ h

theorem PlayKept.sostenutoKept (h : PlayKept s t) : SostenutoKept s t := fun hs => by
  obtain ⟨hpdu, hply⟩ := h
  unfold SostenutoSetsEmptyWhileOff
  rw [hpdu, hply]
  exact hs

theorem LinksOnly.sostenutoKept (h : LinksOnly s t) : SostenutoKept s t := h.playKept.sostenutoKept
theorem OrdersOnly.sostenutoKept (h : OrdersOnly s t) : SostenutoKept s t := h.voice.playKept.sostenutoKept

/-- A change of the player that leaves the playback sostenuto state and set. -/
theorem onPly_sostenutoKept {f : Ply → Ply}
    (h : ∀ p, (f p).sostOn = p.sostOn ∧ (f p).sostSet = p.sostSet := by exact fun _ => ⟨rfl, rfl⟩) :
    SostenutoKept s (onPly f s) := fun ⟨hlive, hplay⟩ => by
  obtain ⟨hon, hset⟩ := h s.ply
  exact ⟨hlive, fun hoff => hset.trans (hplay (hon.symm.trans hoff))⟩

theorem onSession_sostenutoKept (f : Session → Session) : SostenutoKept s (onSession f s) :=
  onPly_sostenutoKept

theorem playStateRaised_sostenutoKept : SostenutoKept s (playStateRaised s) := (raiseAll_only _).sostenutoKept

theorem playMark_sostenutoKept (m : Mark) (n : TakeNo) : SostenutoKept s (playMark m n s) :=
  (playMark_playKept m n).sostenutoKept

/-! ### The values the voice assigner reads (R144) -/

/-- The playback sostenuto state and set become ON and any set, or OFF and the empty one (R150). -/
theorem setPlaySost_sostenutoKept {on : Bool} {S : KeySet} (h : on = false → S = KeySet.empty) :
    SostenutoKept s (setPlaySost on S s) := fun hs =>
  (setPlaySost_orders on S).sostenutoKept ⟨hs.1, h⟩

theorem setPlayKeys_sostenutoKept (S : KeySet) : SostenutoKept s (setPlayKeys S s) :=
  (onPly_sostenutoKept).trans (setPlayKeys_orders S).sostenutoKept

theorem setPlayDamper_sostenutoKept (x : Nat) : SostenutoKept s (setPlayDamper x s) :=
  (onPly_sostenutoKept).trans (setPlayDamper_orders x).sostenutoKept

theorem setPlaySoft_sostenutoKept (x : Nat) : SostenutoKept s (setPlaySoft x s) :=
  (onPly_sostenutoKept).trans (setPlaySoft_orders x).sostenutoKept

/-! ### Playing records (R149, R150, R156 to R159) -/

theorem playbackEvent_sostenutoKept (kind : EventKind) (key : Option Nat) (value : Nat) (guide : Bool) :
    SostenutoKept s (playbackEvent kind key value guide s) := (playbackEvent_playKept kind key value guide).sostenutoKept

theorem playRecord_sostenutoKept (r : TakeRec) : SostenutoKept s (playRecord r s) := by
  have hevent {kind key value guide} {v : State} (hv : SostenutoKept s v) :
      SostenutoKept s (playbackEvent kind key value guide v) := hv.trans (playbackEvent_sostenutoKept _ _ _ _)
  unfold playRecord
  dsimp only
  split
  · split
    · exact hevent .refl
    · exact hevent (setPlayKeys_sostenutoKept _)
  · split
    · split
      · exact setPlayKeys_sostenutoKept _
      · exact hevent (setPlayKeys_sostenutoKept _)
    · exact hevent (setPlayKeys_sostenutoKept _)
  · exact hevent (setPlayDamper_sostenutoKept _)
  · exact hevent (setPlaySoft_sostenutoKept _)
  · split_ifs
    · exact hevent .refl
    · exact hevent (setPlaySost_sostenutoKept fun h => absurd h (by decide))
    · exact hevent (setPlaySost_sostenutoKept fun _ => rfl)
    · exact hevent .refl
  · exact .refl

theorem advanceCursor_sostenutoKept : SostenutoKept s (advanceCursor s) := by
  unfold advanceCursor
  dsimp only
  split
  · split
    · exact (onSession_sostenutoKept _).trans onPly_sostenutoKept
    · exact onSession_sostenutoKept _
  · exact onSession_sostenutoKept _

theorem collectChord_sostenutoKept (T : Nat) (ahead : List (TakeRec × Nat)) : SostenutoKept s (collectChord T ahead s) := by
  unfold collectChord
  dsimp only
  split
  · exact .refl
  · exact ((onPly_sostenutoKept).trans (playMark_sostenutoKept _ _)).trans playStateRaised_sostenutoKept

theorem playFrom_sostenutoKept (ahead : List (TakeRec × Nat)) : SostenutoKept s (playFrom ahead s) := by
  induction ahead generalizing s with
  | nil => exact .refl
  | cons x rest ih =>
    unfold playFrom
    split
    · exact .refl
    · split_ifs
      · exact collectChord_sostenutoKept _ _
      · exact ((playRecord_sostenutoKept _).trans advanceCursor_sostenutoKept).trans ih
      · exact .refl

theorem playDue_sostenutoKept : SostenutoKept s (playDue s) := by
  unfold playDue
  split
  · exact playFrom_sostenutoKept _
  · exact .refl

/-! ### The end of playback, loops and waits (R151, R154, R158) -/

theorem endPlayback_sostenutoKept (m : Mark) : SostenutoKept s (endPlayback m s) := by
  have hvalues : SostenutoKept s
      (setPlaySoft 0 (setPlayDamper 0 (setPlaySost false KeySet.empty (setPlayKeys KeySet.empty s)))) :=
    (((setPlayKeys_sostenutoKept _).trans (setPlaySost_sostenutoKept fun _ => rfl)).trans
      (setPlayDamper_sostenutoKept 0)).trans (setPlaySoft_sostenutoKept 0)
  unfold endPlayback
  dsimp only
  split
  · exact .refl
  · exact ((hvalues.trans onPly_sostenutoKept).trans (playMark_sostenutoKept _ _)).trans
      ((onPly_sostenutoKept).trans playStateRaised_sostenutoKept)

theorem endIfPast_sostenutoKept : SostenutoKept s (endIfPast s) := by
  unfold endIfPast
  split
  · split
    · exact endPlayback_sostenutoKept _
    · exact .refl
  · exact .refl

theorem playDueThenEnd_sostenutoKept : SostenutoKept s (playDueThenEnd s) :=
  playDue_sostenutoKept.trans endIfPast_sostenutoKept

theorem loopJump_sostenutoKept (lp : Loop) : SostenutoKept s (loopJump lp s) := by
  have hwaited (w : Bool) (v : State) : SostenutoKept v (if w then playStateRaised v else v) := by
    cases w
    · exact .refl
    · exact playStateRaised_sostenutoKept
  have hplay (v : State) : SostenutoKept v (if v.ply.isPlaying then playDue v else v) := by
    split
    · exact playDue_sostenutoKept
    · exact .refl
  have hcleared : SostenutoKept s (setPlayDamper 0 (setPlaySost s.ply.sostOn KeySet.empty (setPlayKeys KeySet.empty s))) :=
    ((setPlayKeys_sostenutoKept _).trans (setPlaySost_sostenutoKept fun _ => rfl)).trans (setPlayDamper_sostenutoKept 0)
  have hsnapshot (v : State) :
      SostenutoKept v (setPlaySoft lp.soft (setPlaySost lp.sostOn KeySet.empty (setPlayDamper lp.damper v))) :=
    ((setPlayDamper_sostenutoKept _).trans (setPlaySost_sostenutoKept fun _ => rfl)).trans (setPlaySoft_sostenutoKept _)
  unfold loopJump
  dsimp only
  split
  · exact .refl
  · exact ((((hcleared.trans onPly_sostenutoKept).trans (hsnapshot _)).trans
      (playMark_sostenutoKept _ _)).trans (hwaited _ _)).trans (hplay _)

theorem endWait_sostenutoKept (m : Mark) (n : TakeNo) : SostenutoKept s (endWait m n s) :=
  (((playMark_sostenutoKept m n).trans (onSession_sostenutoKept _)).trans playStateRaised_sostenutoKept).trans
    playDueThenEnd_sostenutoKept

theorem playerEvent_sostenutoKept (e : Event) : SostenutoKept s (playerEvent e s) := by
  unfold playerEvent
  dsimp only
  split
  · split
    · split_ifs
      · exact (onPly_sostenutoKept).trans (endWait_sostenutoKept _ _)
      · exact onPly_sostenutoKept
      · exact .refl
    · exact .refl
  · exact .refl

theorem trackerEvent_sostenutoKept (e : Event) : SostenutoKept s (trackerEvent e s) :=
  (pedalEvent_playKept e).sostenutoKept.trans (playerEvent_sostenutoKept e)

/-! ### The player's requests and its millisecond step (R146 to R148, R151 to R155) -/

theorem setUpTake_sostenutoKept (n : TakeNo) (start : Nat) : SostenutoKept s (setUpTake n start s) := by
  have hvalues (x y : Nat) (on : Bool) (v : State) :
      SostenutoKept v (setPlaySoft x (setPlaySost on KeySet.empty (setPlayDamper y v))) :=
    ((setPlayDamper_sostenutoKept _).trans (setPlaySost_sostenutoKept fun _ => rfl)).trans (setPlaySoft_sostenutoKept _)
  exact ((((onPly_sostenutoKept).trans (hvalues _ _ _ _)).trans
    onPly_sostenutoKept).trans (playMark_sostenutoKept _ _)).trans playStateRaised_sostenutoKept

theorem startPlayback_sostenutoKept (n : TakeNo) (tempo : Option Nat) (start : Nat) :
    SostenutoKept s (startPlayback n tempo start s) := by
  have hstop : SostenutoKept s (if s.ply.session.isSome then stopPlayback s else s) := by
    split
    · exact endPlayback_sostenutoKept _
    · exact .refl
  unfold startPlayback
  dsimp only
  cases tempo with
  | none => exact (hstop.trans (setUpTake_sostenutoKept _ _)).trans playDueThenEnd_sostenutoKept
  | some x =>
    exact ((hstop.trans onPly_sostenutoKept).trans (setUpTake_sostenutoKept _ _)).trans
      playDueThenEnd_sostenutoKept

theorem setLoop_sostenutoKept (ss : Session) (start stop : Nat) : SostenutoKept s (setLoop ss start stop s) := by
  unfold setLoop
  dsimp only
  split
  · exact (onPly_sostenutoKept).trans (loopJump_sostenutoKept _)
  · exact onPly_sostenutoKept

theorem clearExpected_sostenutoKept (ss : Session) : SostenutoKept s (clearExpected ss s) := by
  have hcleared : SostenutoKept s (onPly (fun p => { p with expected := KeySet.empty, limit := none }) s) :=
    onPly_sostenutoKept
  unfold clearExpected
  dsimp only
  split
  · exact hcleared.trans (endWait_sostenutoKept _ _)
  · exact (hcleared.trans (playMark_sostenutoKept _ _)).trans (onSession_sostenutoKept _)
  · exact hcleared.trans (playMark_sostenutoKept _ _)

theorem setGuide_sostenutoKept (mode : GuideMode) (low high : Key) (window : Nat) :
    SostenutoKept s (setGuide mode low high window s) := by
  have hset : SostenutoKept s
      (onPly (fun p => { p with guide := mode, low := low, high := high, chordWindow := min window 100 }) s) :=
    onPly_sostenutoKept
  unfold setGuide
  dsimp only
  split
  · split
    · exact hset.trans (clearExpected_sostenutoKept _)
    · exact hset.trans onPly_sostenutoKept
  · exact hset.trans onPly_sostenutoKept

theorem finishStep_sostenutoKept : SostenutoKept s (finishStep s) := by
  unfold finishStep
  dsimp only
  split
  · split
    · exact playDue_sostenutoKept.trans (loopJump_sostenutoKept _)
    · exact playDue_sostenutoKept.trans endIfPast_sostenutoKept
  · exact playDue_sostenutoKept

/-- A request whose effect keeps the sostenuto sets empty while OFF. -/
def KeepsSostenuto (effect : List Byte → State → State × Reply) : Prop := ∀ args s, SostenutoKept s (effect args s).1

theorem serve_sostenutoKept {effect : List Byte → State → State × Reply} (h : KeepsSostenuto effect) (l : Link) (k : Byte) :
    SostenutoKept s (serve l k effect s) :=
  serve_rel (R := SostenutoKept) (fun _ => .refl) .trans LinksOnly.sostenutoKept h l k s

theorem playerNeeds_sostenutoKept {n : Nat} {args : List Byte} {go : State × Reply} (h : SostenutoKept s go.1) :
    SostenutoKept s (playerNeeds n args s go).1 := by
  unfold playerNeeds
  split
  · exact .refl
  · exact h

theorem takePlayEffect_keepsSostenuto : KeepsSostenuto takePlayEffect := fun args s => by
  refine playerNeeds_sostenutoKept ?_
  split
  · exact .refl
  · split
    · exact .refl
    · dsimp only
      generalize (if bitOf args 1 1 then word32At args 3 else 0) = start
      split
      · exact .refl
      · exact startPlayback_sostenutoKept _ _ _

theorem stopEffect_keepsSostenuto : KeepsSostenuto stopEffect := fun args s => by
  unfold stopEffect
  split
  · exact endPlayback_sostenutoKept _
  · exact .refl

theorem pauseEffect_keepsSostenuto : KeepsSostenuto pauseEffect := fun args s => by
  unfold pauseEffect
  split
  · exact .refl
  · split
    · exact ((onPly_sostenutoKept).trans (playMark_sostenutoKept _ _)).trans
        playStateRaised_sostenutoKept
    · exact .refl

theorem resumeEffect_keepsSostenuto : KeepsSostenuto resumeEffect := fun args s => by
  unfold resumeEffect
  split
  · exact .refl
  · split
    · exact ((onPly_sostenutoKept).trans (playMark_sostenutoKept _ _)).trans
        playStateRaised_sostenutoKept
    · exact .refl

theorem setTempoEffect_keepsSostenuto : KeepsSostenuto setTempoEffect := fun _ _ =>
  playerNeeds_sostenutoKept onPly_sostenutoKept

theorem setLoopEffect_keepsSostenuto : KeepsSostenuto setLoopEffect := fun args s => by
  refine playerNeeds_sostenutoKept ?_
  split
  · exact .refl
  · dsimp only
    split
    · exact setLoop_sostenutoKept _ _ _
    · exact .refl

theorem clearLoopEffect_keepsSostenuto : KeepsSostenuto clearLoopEffect := fun _ _ =>
  onPly_sostenutoKept

theorem setGuideEffect_keepsSostenuto : KeepsSostenuto setGuideEffect := fun args s => by
  refine playerNeeds_sostenutoKept ?_
  split
  · split
    · exact .refl
    · exact setGuide_sostenutoKept _ _ _ _
  · exact .refl

theorem millisecondStep_sostenutoKept (n : Clock) : SostenutoKept s (finishStep (onPly (advancePlayer n) s)) :=
  (onPly_sostenutoKept).trans finishStep_sostenutoKept

end Sys2Proof.Machine
end

section
namespace Sys2Proof.Machine

variable {s t u : State}

/-! ## The sostenuto sets under the results of a conversion (R50 to R53, R57) -/

/-! ### Keys and hammers -/

theorem convertKey_playKept (k : Key) (time : Clock) (raw : Nat) : PlayKept s (convertKey k time raw s) := by
  refine PlayKept.trans (t := onSfe (fun f => { f with keyCh := f.keyCh.set k (channelTest s.sfe.keyCh[k] raw).record }) s)
    ⟨rfl, rfl⟩ ?_
  refine convert_rel (R := PlayKept) (fun _ => .refl) .trans
    (failed := fun v => keyChannelFailed false k time (reportFault .sensorFail v))
    (fun v => (reportFault_only (s := v) .sensorFail).playKept.trans ?_) (fun v => ?_) (fun v => ?_) _ _ _ _
  · obtain ⟨hply, hpdu, -⟩ := keyChannelFailed_frame (s := reportFault .sensorFail v) false k time
    exact ⟨hpdu, hply⟩
  · obtain ⟨-, hply, hpdu, -, -⟩ := keyChannelRecovered_frame (s := v) false k time
    exact ⟨hpdu, hply⟩
  · obtain ⟨-, hply, hpdu, -, -⟩ := keyDepthSample_frame (s := v) k time (channelTest s.sfe.keyCh[k] raw).first
      (normalise (s.cst.factory.working.keySensor[k]).keyRest (s.cst.factory.working.keySensor[k]).keyBottom raw)
    exact ⟨hpdu, hply⟩

/-- A hammer's strike may end a wait of the player, which plays what is then due (R158). -/
theorem hammerSample_sostenutoKept (k : Key) (time : Clock) (first : Bool) (height : Nat) :
    SostenutoKept s (hammerSample k time first height s) := by
  have hmissed (b : Bool) (v : State) :
      SostenutoKept v (if b then { v with faults := { v.faults with missed := satInc v.faults.missed } } else v) := by
    cases b <;> exact id
  have hkey (f : KeyRec → KeyRec) (v : State) : SostenutoKept v (onKey k f v) := (onKey_playKept k f).sostenutoKept
  unfold hammerSample hammerSampleNormal
  dsimp only
  split
  · exact hkey _ _
  · split
    · exact ((hkey _ _).trans (hmissed _ _)).trans ((hkey _ _).trans (trackerEvent_sostenutoKept _))
    · exact (hkey _ _).trans (hmissed _ _)

theorem convertHammer_sostenutoKept (k : Key) (time : Clock) (raw : Nat) : SostenutoKept s (convertHammer k time raw s) := by
  refine SostenutoKept.trans
    (t := onSfe (fun f => { f with hammerCh := f.hammerCh.set k (channelTest s.sfe.hammerCh[k] raw).record }) s) id ?_
  refine convert_rel (R := SostenutoKept) (fun _ => .refl) .trans
    (failed := fun v => keyChannelFailed true k time (reportFault .sensorFail v))
    (fun v => (reportFault_only (s := v) .sensorFail).playKept.sostenutoKept.trans ?_) (fun v => ?_)
    (fun _ => (hammerSample_sostenutoKept k time _ _).trans quietMove_only.playKept.sostenutoKept) _ _ _ _
  · obtain ⟨hply, hpdu, -⟩ := keyChannelFailed_frame (s := reportFault .sensorFail v) true k time
    exact PlayKept.sostenutoKept ⟨hpdu, hply⟩
  · obtain ⟨-, hply, hpdu, -, -⟩ := keyChannelRecovered_frame (s := v) true k time
    exact PlayKept.sostenutoKept ⟨hpdu, hply⟩

/-! ### Pedals -/

/-- A change of one pedal's record leaves the sostenuto state and set. -/
theorem onPdu_modify_sostenutoKept (p : Pedal) (f : PedalRec → PedalRec) :
    SostenutoKept s (onPdu (fun v => v.modify p f) s) := fun ⟨hlive, hplay⟩ =>
  ⟨fun hoff => (Pdu.modify_sostSet _ p f).trans (hlive ((Pdu.modify_sostOn _ p f).symm.trans hoff)), hplay⟩

theorem setPedalLift_sostenutoKept (p : Pedal) (x : Nat) : SostenutoKept s (setPedalLift p x s) := by
  obtain ⟨_, _, _, h⟩ := setPedalLift_eq (s := s) p x
  rw [h]
  exact onPdu_modify_sostenutoKept p _

theorem reportPedal_sostenutoKept (p : Pedal) (x : Nat) (time : Clock) : SostenutoKept s (reportPedal p x time s) :=
  (onPdu_modify_sostenutoKept p _).trans (pedalEvent_playKept _).sostenutoKept

/-- An ON pedal may hold any set (R52). -/
theorem sostenutoOn_sostenutoKept (time : Clock) : SostenutoKept s (sostenutoOn time s) := fun hs => by
  obtain ⟨_, _, _, _, h⟩ := sostenutoOn_eq (s := s) time
  rw [h]
  exact ⟨fun hoff => absurd (show true = false from hoff) (by decide), hs.2⟩

/-- A pedal that goes OFF empties its set (R53). -/
theorem sostenutoOff_sostenutoKept (time : Clock) : SostenutoKept s (sostenutoOff time s) := fun hs => by
  obtain ⟨_, _, _, _, h⟩ := sostenutoOff_eq (s := s) time
  rw [h]
  exact ⟨fun _ => rfl, hs.2⟩

theorem sostenutoTest_sostenutoKept (time : Clock) (d : Nat) : SostenutoKept s (sostenutoTest time d s) := by
  unfold sostenutoTest
  dsimp only
  split_ifs
  · exact sostenutoOff_sostenutoKept time
  · exact .refl
  · exact sostenutoOn_sostenutoKept time
  · exact .refl

theorem pedalSample_sostenutoKept (p : Pedal) (time : Clock) (first : Bool) (d : Nat) :
    SostenutoKept s (pedalSample p time first d s) := by
  have hdepth : SostenutoKept s (setPedalDepth p d s) := onPdu_modify_sostenutoKept p _
  by_cases hp : p = .sostenuto
  · subst hp
    cases first
    · exact hdepth.trans (sostenutoTest_sostenutoKept time d)
    · exact hdepth
  · have hlift := hdepth.trans (setPedalLift_sostenutoKept p (pedalLiftOf s.cst.user.working.pedals p d))
    rw [pedalSample_of_ne hp]
    dsimp only
    split_ifs
    · exact hlift.trans (onPdu_modify_sostenutoKept p _)
    · exact hlift.trans (reportPedal_sostenutoKept p _ time)
    · exact hlift

theorem pedalChannelFailed_sostenutoKept (p : Pedal) (time : Clock) : SostenutoKept s (pedalChannelFailed p time s) := by
  have hraised (v : State) : SostenutoKept v (raiseAll .pedalFail (reportFault .pedalFail v)) :=
    ((reportFault_only _).trans (raiseAll_only _).report).playKept.sostenutoKept
  have hfailed := onPdu_modify_sostenutoKept (s := s) p fun r => { r with failed := true }
  unfold pedalChannelFailed
  dsimp only
  refine SostenutoKept.trans ?_ (hraised _)
  split
  · split
    · exact hfailed.trans (sostenutoOff_sostenutoKept time)
    · exact hfailed
  · split
    · exact (hfailed.trans (setPedalLift_sostenutoKept _ 0)).trans (reportPedal_sostenutoKept _ 0 time)
    · exact hfailed.trans (setPedalLift_sostenutoKept _ 0)

theorem convertPedal_sostenutoKept (p : Pedal) (time : Clock) (raw : Nat) : SostenutoKept s (convertPedal p time raw s) := by
  refine SostenutoKept.trans
    (t := onSfe (fun f => { f with pedalCh := f.pedalCh.set p.index (channelTest s.sfe.pedalCh[p.index] raw).record }) s) id ?_
  exact convert_rel (R := SostenutoKept) (fun _ => .refl) .trans
    (failed := fun v => pedalChannelFailed p time (reportFault .sensorFail v))
    (fun v => (reportFault_only (s := v) .sensorFail).playKept.sostenutoKept.trans (pedalChannelFailed_sostenutoKept p time))
    (fun _ => onPdu_modify_sostenutoKept p _) (fun _ => pedalSample_sostenutoKept p time _ _) _ _ _ _

theorem convertResult_sostenutoKept (g : Group) (time : Clock) (s : State) (r : AinResult) :
    SostenutoKept s (convertResult g time s r) := by
  unfold convertResult
  cases g with
  | k n => exact (convertKey_playKept _ time r.raw).sostenutoKept
  | h n => exact convertHammer_sostenutoKept _ time r.raw
  | p =>
    cases groupPedal r.ain with
    | none => exact .refl
    | some p => exact convertPedal_sostenutoKept p time r.raw

theorem foldl_convertResult_sostenutoKept (g : Group) (time : Clock) (rs : List AinResult) (s : State) :
    SostenutoKept s (rs.foldl (convertResult g time) s) :=
  foldl_rel (R := SostenutoKept) (fun _ => .refl) .trans (convertResult_sostenutoKept g time) rs s

/-! ## The sostenuto sets under every command -/

theorem loadRegions_playKept : PlayKept s (loadRegions s) :=
  PlayKept.trans (t := onCst Cst.load { s with phase := .loading }) ⟨rfl, rfl⟩
    ((reportInvalid_only _).trans (reportInvalid_only _)).playKept

theorem startUp_playKept : PlayKept s (startUp s) := by
  unfold startUp
  split
  · exact ⟨rfl, rfl⟩
  · exact loadRegions_playKept

/-- The reset values have both states OFF and both sets empty (R45, R144). -/
theorem resetBlocks_sostenuto : SostenutoSetsEmptyWhileOff (resetBlocks s) := ⟨fun _ => rfl, fun _ => rfl⟩

theorem coldBlocks_sostenuto : SostenutoSetsEmptyWhileOff (coldBlocks s) := ⟨fun _ => rfl, fun _ => rfl⟩

/-- The command that runs to `u` leaves no other state. -/
theorem SostenutoKept.of_next {o : Host.Outcome State Fault Refusal} (hu : o = .next u) (ht : o = .next t)
    (h : SostenutoKept s u) : SostenutoKept s t := by
  rw [hu] at ht
  cases ht
  exact h

/-- As `SostenutoKept.of_next`, for a command that keeps pedal unit and player. -/
theorem PlayKept.of_next {o : Host.Outcome State Fault Refusal} (hu : o = .next u) (ht : o = .next t)
    (h : PlayKept s u) : SostenutoKept s t := SostenutoKept.of_next hu ht h.sostenutoKept

theorem KeepsPlay.of_serve {effect : List Byte → State → State × Reply} {l : Link} {k : Byte} (h : KeepsPlay effect)
    (ht : Host.Outcome.next (serve l k effect s) = (.next t : Host.Outcome State Fault Refusal)) : SostenutoKept s t :=
  PlayKept.of_next rfl ht (serve_playKept h l k)

theorem KeepsSostenuto.of_serve {effect : List Byte → State → State × Reply} {l : Link} {k : Byte} (h : KeepsSostenuto effect)
    (ht : Host.Outcome.next (serve l k effect s) = (.next t : Host.Outcome State Fault Refusal)) : SostenutoKept s t :=
  SostenutoKept.of_next rfl ht (serve_sostenutoKept h l k)

/-- Every command keeps the sostenuto sets empty while OFF. -/
theorem exec_sostenutoKept {i : Instr} (h : exec i s = .next t) : SostenutoKept s t := by
  cases i with
  | powerOnReset => exact .of_next rfl h fun _ => startUp_playKept.sostenutoKept coldBlocks_sostenuto
  | resetnLow =>
    refine PlayKept.of_next rfl h ?_
    dsimp only
    split_ifs <;> exact ⟨rfl, rfl⟩
  | systemResetEffect =>
    refine .of_next rfl h ?_
    split
    · exact fun _ => startUp_playKept.sostenutoKept resetBlocks_sostenuto
    · exact .refl
  | receiveByte l b stopLow =>
    refine PlayKept.of_next rfl h ?_
    split
    · exact (ite_playKept (discardFrame_playKept l)).trans (takeByte_playKept l b stopLow)
    · exact .refl
  | interByteGapTimeout l => exact PlayKept.of_next rfl h (ite_playKept (discardFrame_playKept l))
  | lineBreak l =>
    refine PlayKept.of_next rfl h ?_
    dsimp only
    split_ifs
    · exact .refl
    · exact (onLink_only l _).playKept.trans (linkReset_playKept l)
    · exact ⟨rfl, rfl⟩
  | transmitFrameStart l =>
    refine PlayKept.of_next rfl h (ite_playKept ?_)
    split <;> exact ⟨rfl, rfl⟩
  | pendingNoticeQueued l =>
    refine PlayKept.of_next rfl h ?_
    split <;> exact ⟨rfl, rfl⟩
  | voiceOrderDrain =>
    refine PlayKept.of_next rfl h ?_
    split
    · exact drainOrders_playKept _
    · exact .refl
  | unknownRequest l =>
    refine PlayKept.of_next rfl h ?_
    split
    · exact ite_playKept ⟨rfl, rfl⟩
    · exact .refl
  | hello l => exact (helloEffect_keepsPlay l).of_serve h
  | setLink l => exact (setLinkEffect_keepsPlay l).of_serve h
  | claimRole l => exact (claimRoleEffect_keepsPlay l).of_serve h
  | readKeys l => exact (readKeysEffect_keepsPlay l).of_serve h
  | setWindow l => exact (setWindowEffect_keepsPlay l).of_serve h
  | readWindow l => exact (readWindowEffect_keepsPlay l).of_serve h
  | depthStream l => exact (depthStreamEffect_keepsPlay l).of_serve h
  | setScanList l => exact setScanListEffect_keepsPlay.of_serve h
  | openJournal l => exact (openJournalEffect_keepsPlay l).of_serve h
  | readJournal l => exact (readJournalEffect_keepsPlay l).of_serve h
  | closeJournal l => exact (closeJournalEffect_keepsPlay l).of_serve h
  | setLayers l => exact setLayersEffect_keepsPlay.of_serve h
  | readVoices l => exact (readVoicesEffect_keepsPlay l).of_serve h
  | voiceEnded l => exact (voiceEndedEffect_keepsPlay l).of_serve h
  | railDemand l => exact (railDemandEffect_keepsPlay l).of_serve h
  | railRecover l => exact railRecoverEffect_keepsPlay.of_serve h
  | readRail l => exact readRailEffect_keepsPlay.of_serve h
  | takeRecord l => exact takeRecordEffect_keepsPlay.of_serve h
  | takeStop l => exact takeStopEffect_keepsPlay.of_serve h
  | takeLoad l => exact takeLoadEffect_keepsPlay.of_serve h
  | writeTakeRecords l => exact writeTakeRecordsEffect_keepsPlay.of_serve h
  | loadEnd l => exact loadEndEffect_keepsPlay.of_serve h
  | takeKeep l => exact (keepEffect_keepsPlay l true).of_serve h
  | takeUnkeep l => exact (keepEffect_keepsPlay l false).of_serve h
  | takeErase l => exact takeEraseEffect_keepsPlay.of_serve h
  | readTakeDirectory l => exact (readTakeDirectoryEffect_keepsPlay l).of_serve h
  | readTakeRecords l => exact (readTakeRecordsEffect_keepsPlay l).of_serve h
  | takePlay l => exact takePlayEffect_keepsSostenuto.of_serve h
  | stop l => exact stopEffect_keepsSostenuto.of_serve h
  | pause l => exact pauseEffect_keepsSostenuto.of_serve h
  | resume l => exact resumeEffect_keepsSostenuto.of_serve h
  | setTempo l => exact setTempoEffect_keepsSostenuto.of_serve h
  | setLoop l => exact setLoopEffect_keepsSostenuto.of_serve h
  | clearLoop l => exact clearLoopEffect_keepsSostenuto.of_serve h
  | setGuide l => exact setGuideEffect_keepsSostenuto.of_serve h
  | calRead l => exact (calReadEffect_keepsPlay l).of_serve h
  | calWrite l => exact (calWriteEffect_keepsPlay l).of_serve h
  | calCommit l => exact (calCommitEffect_keepsPlay l).of_serve h
  | calDefaults l => exact (calDefaultsEffect_keepsPlay l).of_serve h
  | commitComplete r equal =>
    refine PlayKept.of_next rfl h (ite_playKept ?_)
    cases equal <;> exact ⟨rfl, rfl⟩
  | noticeSet l => exact (noticeSetEffect_keepsPlay l).of_serve h
  | noticeMask l => exact (noticeMaskEffect_keepsPlay l).of_serve h
  | readFaults l => exact readFaultsEffect_keepsPlay.of_serve h
  | clearFaults l => exact clearFaultsEffect_keepsPlay.of_serve h
  | systemReset l => exact (systemResetEffect_keepsPlay l).of_serve h
  | frameStart => exact PlayKept.of_next rfl h (ite_playKept startFrame_playKept)
  | settleEnd =>
    refine PlayKept.of_next rfl h ?_
    split <;> exact ⟨rfl, rfl⟩
  | conversionEnd results =>
    refine .of_next rfl h ?_
    split
    · exact (foldl_convertResult_sostenutoKept _ _ results s).trans (nextEntry_playKept _).sostenutoKept
    · exact .refl
  | recorderSecondStep =>
    refine PlayKept.of_next rfl h ?_
    split <;> exact ⟨rfl, rfl⟩
  | millisecondStep =>
    refine .of_next rfl h ?_
    split
    · exact millisecondStep_sostenutoKept _
    · exact .refl
  | silentInputChange low =>
    refine PlayKept.of_next rfl h ?_
    split <;> exact ⟨rfl, rfl⟩
  | leverDebounceExpiry => exact PlayKept.of_next rfl h (ite_playKept deriveLever_only.playKept)
  | railHomingStart => exact PlayKept.of_next rfl h (ite_playKept startHoming_only.playKept)
  | railQuietMoveStart =>
    refine PlayKept.of_next rfl h ?_
    split
    · exact (startMove_only _ _).playKept
    · exact .refl
  | railCurrentChange current => exact PlayKept.of_next rfl h ⟨rfl, rfl⟩
  | inrushBlankingEnd => exact PlayKept.of_next rfl h (ite_playKept ⟨rfl, rfl⟩)
  | stall =>
    refine PlayKept.of_next rfl h ?_
    split
    · exact (stallLeg_only _).playKept
    · exact .refl
  | maximumTravelTimeout => exact PlayKept.of_next rfl h (ite_playKept (railFault_only _).playKept)
  | backoffTimeEnd =>
    refine PlayKept.of_next rfl h ?_
    split
    · exact (retreatEnd_only _ _).playKept
    · exact .refl
  | retryDelayEnd =>
    refine PlayKept.of_next rfl h ?_
    split
    · split
      · exact (startMove_only _ _).playKept
      · exact (enterWaiting_only _ _).playKept
    · exact .refl
  | railHeld =>
    refine PlayKept.of_next rfl h ?_
    split <;> exact ⟨rfl, rfl⟩
  | resetnHigh =>
    exact PlayKept.of_next rfl h
      (PlayKept.trans (t := { s with resetnLow := false }) ⟨rfl, rfl⟩ (ite_playKept loadRegions_playKept))
  | lineReturnsHigh l => exact PlayKept.of_next rfl h (ite_playKept ⟨rfl, rfl⟩)
  | powerLoss =>
    refine .of_next rfl h ?_
    split
    · exact .refl
    · exact fun _ => coldBlocks_sostenuto (s := cutCommits s)
  | regionsLoaded =>
    exact PlayKept.of_next rfl h (ite_playKept (PlayKept.trans (t := takeUp s) ⟨rfl, rfl⟩ startFrame_playKept))

/-- A microsecond passing touches neither pedal unit nor player. -/
theorem tick_playKept : PlayKept s (tick s) := by
  rw [tick_eq]
  exact ⟨rfl, rfl⟩

theorem idle_sostenutoKept (h : idle s = .next t) : SostenutoKept s t := by
  unfold idle at h
  split at h
  · split at h
    · exact exec_sostenutoKept h
    · cases h
      split
      · exact .refl
      · exact tick_playKept.sostenutoKept
  · cases h
    exact .refl

/-- Settles O14: what each command does to the pedal unit and the player. -/
theorem sostenutoSetsStayEmptyWhileOff : Obligations.SostenutoSetsStayEmptyWhileOff := by
  intro s t hs h
  unfold step at h
  split at h
  · exact idle_sostenutoKept h hs
  · exact exec_sostenutoKept h hs

end Sys2Proof.Machine
end

section
namespace Sys2Proof.Machine

variable {s t u : State}

/-! ## One slot of the voice assigner -/

@[simp] theorem State.slot_setSlot_same (n : Slot) (sl : VoiceSlot) : (setSlot n sl s).slot n = sl := by
  simp [State.slot]

theorem State.slot_setSlot_ne {m n : Slot} (sl : VoiceSlot) (h : m ≠ n) : (setSlot n sl s).slot m = s.slot m := by
  have hv : n.val ≠ m.val := fun e => h (Fin.ext e.symm)
  simp [State.slot, hv]

/-- A change of the order queue alone. -/
def onQueue (f : List VoiceOrder → List VoiceOrder) (s : State) : State := onVas (fun va => { va with queue := f va.queue }) s

@[simp] theorem onQueue_queue (f : List VoiceOrder → List VoiceOrder) : (onQueue f s).vas.queue = f s.vas.queue := rfl
@[simp] theorem onQueue_slot (f : List VoiceOrder → List VoiceOrder) (n : Slot) : (onQueue f s).slot n = s.slot n := rfl
@[simp] theorem setSlot_queue (n : Slot) (sl : VoiceSlot) : (setSlot n sl s).vas.queue = s.vas.queue := rfl

@[simp] theorem setSlot_setSlot (n : Slot) (a b : VoiceSlot) : setSlot n a (setSlot n b s) = setSlot n a s := by
  simp [setSlot, onVas]

@[simp] theorem setSlot_onQueue_setSlot (n : Slot) (a b : VoiceSlot) (f : List VoiceOrder → List VoiceOrder) :
    setSlot n a (onQueue f (setSlot n b s)) = setSlot n a (onQueue f s) := by
  simp [setSlot, onQueue, onVas]

/-! ## The order queue (R91, R92) -/

/-- An order joins the tail, and the one that makes 40 raises VOICE_ATTENTION (R91). -/
theorem queueOrder_eq (o : VoiceOrder) : queueOrder o s =
    if s.vas.queue.length = 39 then raiseAll .voiceAttention (onQueue (· ++ [o]) s) else onQueue (· ++ [o]) s := by
  have hlen : (s.vas.queue ++ [o]).length = Config.queueAttention ↔ s.vas.queue.length = 39 := by
    simp [Config.queueAttention]
  exact if_congr hlen rfl rfl

@[simp] theorem queueOrder_slot (o : VoiceOrder) (n : Slot) : (queueOrder o s).slot n = s.slot n := by
  rw [queueOrder_eq]
  split <;> rfl

theorem queueRoom_iff : queueRoom s = true ↔ s.vas.queue.length < 48 := decide_eq_true_iff

/-- A VOICE DAMP is called for by the damp step, at an end, or by a stale slot (R90). -/
theorem dampCalled_iff {step x lastSent : Nat} {stale : Bool} : dampCalled step x lastSent stale = true ↔
    step ≤ x - lastSent ∨ step ≤ lastSent - x ∨ ((x = 0 ∨ x = 255) ∧ x ≠ lastSent) ∨ stale = true := by
  have hgap : step ≤ x - lastSent + (lastSent - x) ↔ step ≤ x - lastSent ∨ step ≤ lastSent - x := by omega
  simp only [dampCalled, Bool.or_eq_true, Bool.and_eq_true, decide_eq_true_eq, hgap, or_assoc]

section Damp

variable {n : Slot} {v : Voice}

/-- The VOICE DAMP that waits for the slot's generation takes the new lift (R92). -/
theorem dampOrder_coalesced (x : Nat) (h : s.vas.queue.any (VoiceOrder.isDampOf n (s.slot n).gen) = true) :
    dampOrder n x s =
      setSlot n { s.slot n with stale := false, voice := (s.slot n).voice.map fun v => { v with lastSent := x } }
        (onQueue (·.map fun o => if o.isDampOf n (s.slot n).gen then o.withLift x else o) s) :=
  if_pos h

theorem dampOrder_queued (x : Nat) (h : s.vas.queue.any (VoiceOrder.isDampOf n (s.slot n).gen) = false)
    (hroom : s.vas.queue.length < 48) :
    dampOrder n x s = queueOrder (.damp n (s.slot n).gen x)
      (setSlot n { s.slot n with stale := false, voice := (s.slot n).voice.map fun v => { v with lastSent := x } } s) :=
  (if_neg (Bool.eq_false_iff.mp h)).trans (if_pos (queueRoom_iff.mpr hroom))

theorem dampOrder_dropped (x : Nat) (h : s.vas.queue.any (VoiceOrder.isDampOf n (s.slot n).gen) = false)
    (hfull : 48 ≤ s.vas.queue.length) : dampOrder n x s = setSlot n { s.slot n with stale := true } s :=
  (if_neg (Bool.eq_false_iff.mp h)).trans (if_neg fun hr => absurd (queueRoom_iff.mp hr) (Nat.not_lt.mpr hfull))

/-! ## The recomputation of one slot (R90) -/

/-- The voice with its applied lift and its state as the key, pedals and sets give them (R88, R90). -/
def Voice.recomputed (v : Voice) (x : Nat) : Voice := { v with applied := x, damped := x == 0 }

theorem recomputeSlot_free (h : (s.slot n).voice = none) : recomputeSlot n s = s := by
  simp [recomputeSlot, h]

theorem recomputeSlot_eq (h : (s.slot n).voice = some v) : recomputeSlot n s =
    let s1 := setSlot n { s.slot n with voice := some (v.recomputed (appliedLift s v)) } s
    if dampCalled s.cst.user.working.dampStep (appliedLift s v) v.lastSent (s.slot n).stale then
      dampOrder n (appliedLift s v) s1
    else s1 := by
  simp [recomputeSlot, h, Voice.recomputed]

/-- A VOICE DAMP is called for when slot `n`, which holds `v`, is recomputed (R90). -/
def SlotCalls (s : State) (n : Slot) (v : Voice) : Prop :=
  let x := appliedLift s v
  s.cst.user.working.dampStep ≤ x - v.lastSent ∨ s.cst.user.working.dampStep ≤ v.lastSent - x
    ∨ ((x = 0 ∨ x = 255) ∧ x ≠ v.lastSent) ∨ (s.slot n).stale = true

theorem recomputeSlot_uncalled (h : (s.slot n).voice = some v) (hc : ¬SlotCalls s n v) :
    recomputeSlot n s = setSlot n { s.slot n with voice := some (v.recomputed (appliedLift s v)) } s := by
  rw [recomputeSlot_eq h]
  exact if_neg (mt dampCalled_iff.mp hc)

theorem recomputeSlot_called (h : (s.slot n).voice = some v) (hc : SlotCalls s n v) :
    recomputeSlot n s = dampOrder n (appliedLift s v)
      (setSlot n { s.slot n with voice := some (v.recomputed (appliedLift s v)) } s) := by
  rw [recomputeSlot_eq h]
  exact if_pos (dampCalled_iff.mpr hc)

theorem recomputeSlot_coalesced (h : (s.slot n).voice = some v) (hc : SlotCalls s n v)
    (hw : s.vas.queue.any (VoiceOrder.isDampOf n (s.slot n).gen) = true) :
    let x := appliedLift s v
    recomputeSlot n s =
      setSlot n { s.slot n with stale := false, voice := some { v.recomputed x with lastSent := x } }
        (onQueue (·.map fun o => if o.isDampOf n (s.slot n).gen then o.withLift x else o) s) := by
  intro x
  rw [recomputeSlot_called h hc, dampOrder_coalesced _ (by simpa using hw)]
  simp [x]

theorem recomputeSlot_queued (h : (s.slot n).voice = some v) (hc : SlotCalls s n v)
    (hw : s.vas.queue.any (VoiceOrder.isDampOf n (s.slot n).gen) = false) (hroom : s.vas.queue.length < 48) :
    let x := appliedLift s v
    recomputeSlot n s = queueOrder (.damp n (s.slot n).gen x)
      (setSlot n { s.slot n with stale := false, voice := some { v.recomputed x with lastSent := x } } s) := by
  intro x
  rw [recomputeSlot_called h hc, dampOrder_queued _ (by simpa using hw) (by simpa using hroom)]
  simp [x]

theorem recomputeSlot_dropped (h : (s.slot n).voice = some v) (hc : SlotCalls s n v)
    (hw : s.vas.queue.any (VoiceOrder.isDampOf n (s.slot n).gen) = false) (hfull : 48 ≤ s.vas.queue.length) :
    recomputeSlot n s = setSlot n { s.slot n with stale := true, voice := some (v.recomputed (appliedLift s v)) } s := by
  rw [recomputeSlot_called h hc, dampOrder_dropped _ (by simpa using hw) (by simpa using hfull)]
  simp

/-! ## What a recomputation leaves in the slots (R89, R90) -/

/-- Slot `sl` holds voice `v` at generation `g` with the applied lift that `u` gives it, and DAMPED exactly at 0. -/
def HoldsRecomputed (u : State) (v : Voice) (g : BitVec 8) (sl : VoiceSlot) : Prop :=
  ∃ w, sl.voice = some w ∧ w.applied = appliedLift u v ∧ w.damped = (w.applied == 0)
    ∧ w.key = v.key ∧ w.source = v.source ∧ w.layer = v.layer ∧ w.level = v.level ∧ w.startOrder = v.startOrder
    ∧ sl.gen = g

/-- A voice of a layer that does not follow the pedals is never damped; another takes the largest of what its source gives
(R55, R88). -/
theorem appliedLift_eq (v : Voice) : appliedLift s v =
    if v.follows = false then 255
    else match v.source with
      | .live => max (max (s.key v.key).lift (if s.pdu.sostSet.has v.key then 255 else 0)) s.pdu.damper.lift
      | .playback =>
        max (max (if s.ply.keys.has v.key then 255 else 0) (if s.ply.sostSet.has v.key then 255 else 0)) s.ply.damper := by
  unfold appliedLift
  cases v.follows <;> rfl

/-- The applied lift is read from keys, pedals and player, which no order touches (R88). -/
theorem OrdersOnly.appliedLift (h : OrdersOnly s t) (v : Voice) : appliedLift t v = Sys2Proof.Machine.appliedLift s v := by
  rw [h]
  rfl

theorem recomputeSlot_holds (h : (s.slot n).voice = some v) :
    HoldsRecomputed s v (s.slot n).gen ((recomputeSlot n s).slot n) := by
  by_cases hc : SlotCalls s n v
  · cases hw : s.vas.queue.any (VoiceOrder.isDampOf n (s.slot n).gen) with
    | true =>
      rw [recomputeSlot_coalesced h hc hw, State.slot_setSlot_same]
      exact ⟨_, rfl, rfl, rfl, rfl, rfl, rfl, rfl, rfl, rfl⟩
    | false =>
      by_cases hroom : s.vas.queue.length < 48
      · rw [recomputeSlot_queued h hc hw hroom, queueOrder_slot, State.slot_setSlot_same]
        exact ⟨_, rfl, rfl, rfl, rfl, rfl, rfl, rfl, rfl, rfl⟩
      · rw [recomputeSlot_dropped h hc hw (Nat.not_lt.mp hroom), State.slot_setSlot_same]
        exact ⟨_, rfl, rfl, rfl, rfl, rfl, rfl, rfl, rfl, rfl⟩
  · rw [recomputeSlot_uncalled h hc, State.slot_setSlot_same]
    exact ⟨_, rfl, rfl, rfl, rfl, rfl, rfl, rfl, rfl, rfl⟩

theorem dampOrder_slot_ne {m : Slot} (x : Nat) (hm : m ≠ n) : (dampOrder n x s).slot m = s.slot m := by
  unfold dampOrder
  dsimp only
  split_ifs
  · exact State.slot_setSlot_ne _ hm
  · rw [queueOrder_slot]
    exact State.slot_setSlot_ne _ hm
  · exact State.slot_setSlot_ne _ hm

theorem recomputeSlot_slot_ne {m : Slot} (hm : m ≠ n) : (recomputeSlot n s).slot m = s.slot m := by
  cases h : (s.slot n).voice with
  | none => rw [recomputeSlot_free h]
  | some v =>
    rw [recomputeSlot_eq h]
    dsimp only
    split_ifs
    · rw [dampOrder_slot_ne _ hm]
      exact State.slot_setSlot_ne _ hm
    · exact State.slot_setSlot_ne _ hm

end Damp

/-! ## The recomputation of the slots a change bears on (R89) -/

theorem recomputeIf_selected {p : Voice → Bool} {n : Slot} {v : Voice} (h : (s.slot n).voice = some v) (hp : p v = true) :
    recomputeIf p s n = recomputeSlot n s := by
  simp [recomputeIf, h, hp]

theorem recomputeIf_unselected {p : Voice → Bool} {n : Slot} (h : ∀ v, (s.slot n).voice = some v → p v = false) :
    recomputeIf p s n = s := by
  unfold recomputeIf
  split
  · rename_i v hv
    simp [h v hv]
  · rfl

theorem recomputeIf_slot_ne (p : Voice → Bool) {m n : Slot} (hm : m ≠ n) : (recomputeIf p s n).slot m = s.slot m := by
  unfold recomputeIf
  split
  · split
    · exact recomputeSlot_slot_ne hm
    · rfl
  · rfl

theorem foldl_recomputeIf_slot_absent (p : Voice → Bool) {m : Slot} {ns : List Slot} (hm : m ∉ ns) (s : State) :
    (ns.foldl (recomputeIf p) s).slot m = s.slot m := by
  induction ns generalizing s with
  | nil => rfl
  | cons n ns ih =>
    exact (ih (List.not_mem_of_not_mem_cons hm) _).trans (recomputeIf_slot_ne p (List.ne_of_not_mem_cons hm))

/-- Each slot is visited once, and by then only orders have changed (R89, log 13). -/
theorem recomputeWhere_visits (p : Voice → Bool) (n : Slot) (s : State) :
    ∃ u, OrdersOnly s u ∧ u.slot n = s.slot n ∧ (recomputeWhere p s).slot n = (recomputeIf p u n).slot n := by
  obtain ⟨before, after, hsplit⟩ := List.append_of_mem (List.mem_finRange n)
  have hnd : (before ++ n :: after).Nodup := hsplit ▸ List.nodup_finRange 128
  have hafter : n ∉ after := (List.nodup_cons.mp (List.nodup_append.mp hnd).2.1).1
  have hbefore : n ∉ before := fun hn => (List.nodup_append.mp hnd).2.2 n hn n (List.mem_cons_self ..) rfl
  refine ⟨before.foldl (recomputeIf p) s, foldl_recomputeIf_orders p before s,
    foldl_recomputeIf_slot_absent p hbefore s, ?_⟩
  rw [recomputeWhere_eq, hsplit, List.foldl_append, List.foldl_cons]
  exact foldl_recomputeIf_slot_absent p hafter _

theorem recomputeWhere_selected {p : Voice → Bool} {n : Slot} {v : Voice} (h : (s.slot n).voice = some v)
    (hp : p v = true) : HoldsRecomputed s v (s.slot n).gen ((recomputeWhere p s).slot n) := by
  obtain ⟨u, hu, hslot, heq⟩ := recomputeWhere_visits p n s
  rw [← hslot] at h
  obtain ⟨w, hw, hx, hrest⟩ := recomputeSlot_holds h
  rw [heq, recomputeIf_selected h hp, ← hslot]
  exact ⟨w, hw, hx.trans (hu.appliedLift v), hrest⟩

theorem recomputeWhere_unselected {p : Voice → Bool} {n : Slot} (h : ∀ v, (s.slot n).voice = some v → p v = false) :
    (recomputeWhere p s).slot n = s.slot n := by
  obtain ⟨u, -, hslot, heq⟩ := recomputeWhere_visits p n s
  rw [← hslot] at h
  rw [heq, recomputeIf_unselected h, hslot]

/-- From `u` to `t` the voices that `P` selects are recomputed, every other slot stays, and beside the slots at most the
order queue and links differ. -/
def VoicesFollow (P : Voice → Prop) (u t : State) : Prop :=
  OrdersOnly u t
    ∧ ∀ n, (∀ v, (u.slot n).voice = some v → P v → HoldsRecomputed u v (u.slot n).gen (t.slot n))
      ∧ ((∀ v, (u.slot n).voice = some v → ¬P v) → t.slot n = u.slot n)

theorem recomputeWhere_follow {p : Voice → Bool} {P : Voice → Prop} (h : ∀ v, p v = true ↔ P v) :
    VoicesFollow P s (recomputeWhere p s) :=
  ⟨recomputeWhere_orders p, fun _ =>
    ⟨fun v hv hP => recomputeWhere_selected hv ((h v).mpr hP),
      fun hn => recomputeWhere_unselected fun v hv => Bool.eq_false_iff.mpr fun hp => hn v hv ((h v).mp hp)⟩⟩

/-! ### The changes that bear on voices (R55, R88, R89) -/

theorem setKeyLift_follow (k : Key) (x : Nat) :
    (x = (s.key k).lift → setKeyLift k x s = s)
      ∧ (x ≠ (s.key k).lift → VoicesFollow (fun v => v.source = .live ∧ v.key = k)
          (onKey k (fun r => { r with lift := x }) s) (setKeyLift k x s)) := by
  refine ⟨fun h => if_pos h, fun h => ?_⟩
  rw [setKeyLift, if_neg h]
  exact recomputeWhere_follow fun v => by simp

theorem setSostSet_follow (S : KeySet) :
    (S = s.pdu.sostSet → setSostSet S s = s)
      ∧ (S ≠ s.pdu.sostSet → VoicesFollow (fun v => v.source = .live ∧ s.pdu.sostSet.has v.key ≠ S.has v.key)
          { s with pdu := { s.pdu with sostSet := S } } (setSostSet S s)) := by
  refine ⟨fun h => ?_, fun h => ?_⟩
  · subst h
    exact if_pos rfl
  · rw [setSostSet, if_neg h]
    exact recomputeWhere_follow fun v => by simp

theorem setPedalLift_damper_follow (x : Nat) :
    (x = s.pdu.damper.lift → setPedalLift .damper x s = s)
      ∧ (x ≠ s.pdu.damper.lift → VoicesFollow (fun v => v.source = .live)
          { s with pdu := { s.pdu with damper := { s.pdu.damper with lift := x } } } (setPedalLift .damper x s)) := by
  refine ⟨fun h => ?_, fun h => ?_⟩
  · subst h
    exact if_pos rfl
  · rw [show setPedalLift .damper x s = recomputeLive (onPdu (fun u => u.modify .damper fun r => { r with lift := x }) s)
      from if_neg h]
    exact recomputeWhere_follow fun v => by simp

theorem setPlayKeys_follow (S : KeySet) :
    (S = s.ply.keys → setPlayKeys S s = s)
      ∧ (S ≠ s.ply.keys → VoicesFollow (fun v => v.source = .playback ∧ s.ply.keys.has v.key ≠ S.has v.key)
          { s with ply := { s.ply with keys := S } } (setPlayKeys S s)) := by
  refine ⟨fun h => ?_, fun h => ?_⟩
  · subst h
    exact if_pos rfl
  · rw [setPlayKeys, if_neg h]
    exact recomputeWhere_follow fun v => by simp

theorem setPlaySost_follow (on : Bool) (S : KeySet) :
    (S = s.ply.sostSet → setPlaySost on S s = { s with ply := { s.ply with sostOn := on } })
      ∧ (S ≠ s.ply.sostSet → VoicesFollow (fun v => v.source = .playback ∧ s.ply.sostSet.has v.key ≠ S.has v.key)
          { s with ply := { s.ply with sostOn := on, sostSet := S } } (setPlaySost on S s)) := by
  refine ⟨fun h => ?_, fun h => ?_⟩
  · subst h
    exact if_pos rfl
  · rw [setPlaySost, if_neg h]
    exact recomputeWhere_follow fun v => by simp

theorem setPlayDamper_follow (x : Nat) :
    (x = s.ply.damper → setPlayDamper x s = s)
      ∧ (x ≠ s.ply.damper → VoicesFollow (fun v => v.source = .playback)
          { s with ply := { s.ply with damper := x } } (setPlayDamper x s)) := by
  refine ⟨fun h => ?_, fun h => ?_⟩
  · subst h
    exact if_pos rfl
  · rw [setPlayDamper, if_neg h]
    exact recomputeWhere_follow fun v => by simp

/-! ## Soft levels (R56, R96, R100) -/

/-- The soft track of a source and the order queue replaced. -/
def putSoft (src : Source) (z : SoftTrack) (q : List VoiceOrder) (s : State) : State :=
  onVas (fun va => { va.setSoft src z with queue := q }) s

theorem softOrder_queued (src : Source) (h : s.vas.queue.length < 48) :
    let queued := putSoft src { sent := softLevel s src, stale := false } (s.vas.queue ++ [.soft src (softLevel s src)]) s
    softOrder src s = if s.vas.queue.length = 39 then raiseAll .voiceAttention queued else queued := by
  intro queued
  rw [softOrder, if_pos (queueRoom_iff.mpr h), queueOrder_eq]
  cases src <;> rfl

theorem softOrder_dropped (src : Source) (h : 48 ≤ s.vas.queue.length) :
    softOrder src s = putSoft src { s.vas.softTrack src with stale := true } s.vas.queue s := by
  rw [softOrder, if_neg fun hr => absurd (queueRoom_iff.mp hr) (Nat.not_lt.mpr h)]
  cases src <;> rfl

/-- A VOICE SOFT is called for by a change of a source's soft level (R96). -/
def SoftCalls (s : State) (src : Source) : Prop :=
  let x := softLevel s src
  let k := s.vas.softTrack src
  s.cst.user.working.dampStep ≤ x - k.sent ∨ s.cst.user.working.dampStep ≤ k.sent - x
    ∨ ((x = 0 ∨ x = 255) ∧ x ≠ k.sent) ∨ k.stale = true

theorem softChanged_uncalled (src : Source) (h : s.roles.tone = none ∨ ¬SoftCalls s src) : softChanged src s = s := by
  refine if_neg fun hc => ?_
  obtain ⟨htone, hcalled⟩ := Bool.and_eq_true_iff.mp hc
  rcases h with h | h
  · simp [h] at htone
  · exact h (dampCalled_iff.mp hcalled)

theorem softChanged_called (src : Source) (ht : s.roles.tone ≠ none) (h : SoftCalls s src) :
    softChanged src s = softOrder src s :=
  if_pos (Bool.and_eq_true_iff.mpr ⟨Option.isSome_iff_ne_none.mpr ht, dampCalled_iff.mpr h⟩)

theorem softClaimed_told (src : Source) (h : softLevel s src = (s.vas.softTrack src).sent) : softClaimed src s = s :=
  if_neg (not_not_intro h)

theorem softClaimed_untold (src : Source) (h : softLevel s src ≠ (s.vas.softTrack src).sent) :
    softClaimed src s = softOrder src s :=
  if_pos h

/-- What a change of a source's soft level does, and a claim of TONE (R96, R100). -/
theorem softLevel_told (src : Source) :
    let x := softLevel s src
    let k := s.vas.softTrack src
    let queued := putSoft src { sent := x, stale := false } (s.vas.queue ++ [.soft src x]) s
    let joined := if s.vas.queue.length = 39 then raiseAll .voiceAttention queued else queued
    let dropped := putSoft src { k with stale := true } s.vas.queue s
    (s.roles.tone = none ∨ ¬SoftCalls s src → softChanged src s = s)
      ∧ (s.roles.tone ≠ none → SoftCalls s src → s.vas.queue.length < 48 → softChanged src s = joined)
      ∧ (s.roles.tone ≠ none → SoftCalls s src → 48 ≤ s.vas.queue.length → softChanged src s = dropped)
      ∧ (x = k.sent → softClaimed src s = s)
      ∧ (x ≠ k.sent → s.vas.queue.length < 48 → softClaimed src s = joined)
      ∧ (x ≠ k.sent → 48 ≤ s.vas.queue.length → softClaimed src s = dropped) :=
  ⟨softChanged_uncalled src, fun ht hc hq => (softChanged_called src ht hc).trans (softOrder_queued src hq),
    fun ht hc hq => (softChanged_called src ht hc).trans (softOrder_dropped src hq), softClaimed_told src,
    fun hx hq => (softClaimed_untold src hx).trans (softOrder_queued src hq),
    fun hx hq => (softClaimed_untold src hx).trans (softOrder_dropped src hq)⟩

theorem setPedalLift_soft (x : Nat) :
    (x = s.pdu.soft.lift → setPedalLift .soft x s = s)
      ∧ (x ≠ s.pdu.soft.lift →
        setPedalLift .soft x s = softChanged .live { s with pdu := { s.pdu with soft := { s.pdu.soft with lift := x } } }) := by
  refine ⟨fun h => ?_, fun h => if_neg h⟩
  subst h
  exact if_pos rfl

theorem setPlaySoft_eq (x : Nat) :
    (x = s.ply.soft → setPlaySoft x s = s)
      ∧ (x ≠ s.ply.soft → setPlaySoft x s = softChanged .playback { s with ply := { s.ply with soft := x } }) := by
  refine ⟨fun h => ?_, fun h => if_neg h⟩
  subst h
  exact if_pos rfl

end Sys2Proof.Machine
end

section
namespace Sys2Proof.Machine

variable {s t u : State}

/-! ## Stale damps behind a drain (R93) -/

/-- Slot `n` waits for a VOICE DAMP that was dropped (R92, R93). -/
def owesDamp (s : State) (n : Slot) : Bool := (s.slot n).stale && (s.slot n).voice.isSome

/-- The VOICE DAMP of slot `n` at its applied lift (R93). -/
def owedDamp (s : State) (n : Slot) : Option VoiceOrder :=
  (s.slot n).voice.map fun v => .damp n (s.slot n).gen v.applied

/-- A slot whose owed VOICE DAMP is queued (R93). -/
def VoiceSlot.dampSent (sl : VoiceSlot) : VoiceSlot :=
  { sl with stale := false, voice := sl.voice.map fun v => { v with lastSent := v.applied } }

/-- What the refill does at one slot (R93). -/
def refillSlot (s : State) (n : Slot) : State :=
  match (s.slot n).voice with
  | some v =>
    if (s.slot n).stale && decide (s.vas.queue.length < Config.queueRefill) then
      queueOrder (.damp n (s.slot n).gen v.applied)
        (setSlot n { s.slot n with stale := false, voice := some { v with lastSent := v.applied } } s)
    else s
  | none => s

theorem refillStale_eq : refillStale s = (List.finRange 128).foldl refillSlot s := rfl

/-- Below 32 orders an owed VOICE DAMP is queued; that is below the 40 that raise VOICE_ATTENTION (R91, R93). -/
theorem refillSlot_owed {n : Slot} (h : owesDamp s n = true) (hq : s.vas.queue.length < 32) :
    refillSlot s n = onQueue (· ++ (owedDamp s n).toList) (setSlot n (s.slot n).dampSent s) := by
  obtain ⟨hstale, hvoice⟩ := Bool.and_eq_true_iff.mp h
  obtain ⟨v, hv⟩ := Option.isSome_iff_exists.mp hvoice
  have hroom : s.vas.queue.length < Config.queueRefill := hq
  have hfew : s.vas.queue.length ≠ 39 := by omega
  simp [refillSlot, hv, hstale, hroom, queueOrder_eq, hfew, owedDamp, VoiceSlot.dampSent]

theorem refillSlot_alone {n : Slot} (h : owesDamp s n = false ∨ 32 ≤ s.vas.queue.length) : refillSlot s n = s := by
  unfold refillSlot
  split
  · rename_i v hv
    refine if_neg fun hc => ?_
    obtain ⟨hstale, hroom⟩ := Bool.and_eq_true_iff.mp hc
    rcases h with h | h
    · simp [owesDamp, hstale, hv] at h
    · exact absurd (show s.vas.queue.length < 32 from of_decide_eq_true hroom) (Nat.not_lt.mpr h)
  · rfl

/-- The slots of `ns` whose owed VOICE DAMP finds a place among the first 32 orders (R93). -/
def refillTakes (s : State) (ns : List Slot) : List Slot := (ns.filter (owesDamp s)).take (32 - s.vas.queue.length)

/-- From `s` to `t` the owed damps of the slots `ns` join the queue in their order, and those slots owe none. -/
structure Refilled (ns : List Slot) (s t : State) : Prop where
  frame : t = { s with vas := t.vas }
  queue : t.vas.queue = s.vas.queue ++ ns.filterMap (owedDamp s)
  slots : ∀ n, t.slot n = if n ∈ ns then (s.slot n).dampSent else s.slot n

theorem Refilled.nil : Refilled [] s s where
  frame := rfl
  queue := (List.append_nil _).symm
  slots _ := rfl

/-- The refill of a slot that `ns` does not hold, and then of those of `ns`. -/
theorem Refilled.cons {n : Slot} {ns : List Slot} (hn : n ∉ ns)
    (h : Refilled ns (onQueue (· ++ (owedDamp s n).toList) (setSlot n (s.slot n).dampSent s)) t) : Refilled (n :: ns) s t where
  frame := by
    rw [h.frame]
    rfl
  queue := by
    have hrest : ns.filterMap (owedDamp (onQueue (· ++ (owedDamp s n).toList) (setSlot n (s.slot n).dampSent s))) =
        ns.filterMap (owedDamp s) := List.filterMap_congr fun m hm => by
      have hne : m ≠ n := fun e => hn (e ▸ hm)
      simp only [owedDamp, onQueue_slot, State.slot_setSlot_ne _ hne]
    rw [h.queue, hrest]
    cases ho : owedDamp s n <;> simp [ho]
  slots m := by
    rw [h.slots m, onQueue_slot]
    by_cases hm : m = n
    · subst hm
      simp [hn]
    · simp [hm, State.slot_setSlot_ne _ hm]

theorem foldl_refillSlot {ns : List Slot} (hnd : ns.Nodup) (s : State) :
    Refilled (refillTakes s ns) s (ns.foldl refillSlot s) := by
  induction ns generalizing s with
  | nil => simpa [refillTakes] using Refilled.nil
  | cons n ns ih =>
    obtain ⟨hn, hns⟩ := List.nodup_cons.mp hnd
    rw [List.foldl_cons]
    by_cases h : owesDamp s n = true ∧ s.vas.queue.length < 32
    · obtain ⟨ho, hq⟩ := h
      have hone : (owedDamp s n).toList.length = 1 := by
        obtain ⟨v, hv⟩ := Option.isSome_iff_exists.mp (Bool.and_eq_true_iff.mp ho).2
        simp [owedDamp, hv]
      have htail : refillTakes s (n :: ns) = n :: refillTakes (refillSlot s n) ns := by
        have hrest : ns.filter (owesDamp (refillSlot s n)) = ns.filter (owesDamp s) := List.filter_congr fun m hm => by
          have hne : m ≠ n := fun e => hn (e ▸ hm)
          simp only [owesDamp, refillSlot_owed ho hq, onQueue_slot, State.slot_setSlot_ne _ hne]
        have hlen : 32 - s.vas.queue.length = 32 - (refillSlot s n).vas.queue.length + 1 := by
          rw [refillSlot_owed ho hq, onQueue_queue, List.length_append, hone, setSlot_queue]
          omega
        rw [refillTakes, List.filter_cons_of_pos ho, hlen, List.take_succ_cons, refillTakes, hrest]
      rw [htail]
      refine Refilled.cons (fun hm => hn (List.mem_of_mem_filter (List.mem_of_mem_take hm))) ?_
      rw [← refillSlot_owed ho hq]
      exact ih hns _
    · have hsame : refillTakes s (n :: ns) = refillTakes s ns := by
        rcases not_and_or.mp h with ho | hq
        · rw [refillTakes, List.filter_cons_of_neg ho, refillTakes]
        · simp [refillTakes, Nat.sub_eq_zero_of_le (Nat.not_lt.mp hq)]
      rw [hsame, refillSlot_alone ((not_and_or.mp h).imp Bool.eq_false_iff.mpr Nat.not_lt.mp)]
      exact ih hns s

theorem refillStale_refilled : Refilled (refillTakes s (List.finRange 128)) s (refillStale s) := by
  rw [refillStale_eq]
  exact foldl_refillSlot (List.nodup_finRange 128) s

/-! ## The drain (R93, R95) -/

theorem exec_voiceOrderDrain {l : Link} (hp : s.phase = .running) (ht : s.roles.tone = some l) (hq : s.vas.queue ≠ [])
    (hw : (s.link l).ordersWaiting = false) (hf : (s.link l).placeFree = true) :
    exec .voiceOrderDrain s = .next (drainOrders l s) := by
  have hdue : drainDue s = some l := by simp [drainDue, hp, ht, hq, hw, hf]
  simp only [exec, execVoiceOrderDrain, hdue]

/-- The state between the frame's building and the refill: the orders of the frame have left the queue (R95). -/
def ordersSent (l : Link) (s : State) : State :=
  onQueue (·.drop (ordersPerFrame (s.link l).limit))
    (onLink l (fun ls => { ls with
      tx := ls.tx ++ [.voiceOrders (ordersPayload (s.vas.queue.take (ordersPerFrame (s.link l).limit)))] }) s)

theorem ordersSent_tx (l : Link) : ((ordersSent l s).link l).tx =
    (s.link l).tx ++ [.voiceOrders (ordersPayload (s.vas.queue.take (ordersPerFrame (s.link l).limit)))] := by
  cases l <;> rfl

theorem drainOrders_eq (l : Link) : drainOrders l s = refillStale (ordersSent l s) := rfl

theorem refillTakes_ordersSent (l : Link) (ns : List Slot) : refillTakes (ordersSent l s) ns =
    (ns.filter (owesDamp s)).take (32 - (s.vas.queue.drop (ordersPerFrame (s.link l).limit)).length) := rfl

/-- What the frame's building and the refill behind it leave (R93, R95). -/
theorem Refilled.of_ordersSent {l : Link} {ns : List Slot} (h : Refilled ns (ordersSent l s) t) :
    (t.link l).tx = (s.link l).tx ++ [.voiceOrders (ordersPayload (s.vas.queue.take (ordersPerFrame (s.link l).limit)))]
      ∧ t = { s with links := t.links, vas := t.vas }
      ∧ t.vas.queue = s.vas.queue.drop (ordersPerFrame (s.link l).limit) ++ ns.filterMap (owedDamp s)
      ∧ ∀ n, t.slot n = if n ∈ ns then (s.slot n).dampSent else s.slot n := by
  obtain ⟨hframe, hqueue, hslots⟩ := h
  have hlinks : t.links = (ordersSent l s).links := by rw [hframe]
  refine ⟨?_, ?_, hqueue, hslots⟩
  · rw [← ordersSent_tx, State.link, State.link, hlinks]
  · rw [hlinks]
    exact hframe

theorem drainOrders_builds (l : Link) :
    let n := ordersPerFrame (s.link l).limit
    let t := drainOrders l s
    let ns := ((List.finRange 128).filter (owesDamp s)).take (32 - (s.vas.queue.drop n).length)
    (t.link l).tx = (s.link l).tx ++ [.voiceOrders (ordersPayload (s.vas.queue.take n))]
      ∧ t = { s with links := t.links, vas := t.vas }
      ∧ t.vas.queue = s.vas.queue.drop n ++ ns.filterMap (owedDamp s)
      ∧ ∀ m, t.slot m = if m ∈ ns then (s.slot m).dampSent else s.slot m := by
  have h := refillStale_refilled (s := ordersSent l s)
  rw [← drainOrders_eq, refillTakes_ordersSent] at h
  exact h.of_ordersSent

/-- The orders of a frame as bytes, with their count (R174). -/
theorem ordersPayload_take (n : Nat) (os : List VoiceOrder) :
    ordersPayload (os.take n) = [kVoiceOrder, byteOf (min n os.length)] ++ (os.take n).flatMap VoiceOrder.bytes := by
  rw [ordersPayload, List.length_take]

/-- Settles O30: the drain with its refill, the recomputation of one slot and of the slots a change bears on, and the soft
levels, each by its own lemma above. -/
theorem drainBuildsOneFrame : Obligations.DrainBuildsOneFrame := by
  refine ⟨⟨⟨fun l s hp ht hq hw hf => ?drain, fun n v s h => ?slot, fun v s => ?lift, fun p n s _ => ?selected⟩,
    fun s => ?changes⟩, fun src s => ?soft, fun x s => ?levels⟩
  case drain =>
    obtain ⟨htx, hframe, hqueue, hslots⟩ := drainOrders_builds (s := s) l
    rw [ordersPayload_take] at htx
    exact ⟨_, exec_voiceOrderDrain hp ht hq hw hf, htx, ⟨_, hqueue.symm⟩, hframe, hqueue, hslots⟩
  case slot =>
    exact ⟨recomputeSlot_uncalled h, recomputeSlot_coalesced h, recomputeSlot_queued h, recomputeSlot_dropped h⟩
  case lift => exact appliedLift_eq v
  case selected => exact ⟨fun v hv hp => recomputeWhere_selected hv hp, recomputeWhere_unselected⟩
  case changes =>
    exact ⟨setKeyLift_follow, setSostSet_follow, setPedalLift_damper_follow, setPlayKeys_follow, setPlaySost_follow,
      setPlayDamper_follow⟩
  case soft =>
    cases src with
    | live => exact softLevel_told .live
    | playback => exact softLevel_told .playback
  case levels =>
    obtain ⟨hlive, hlive'⟩ := setPedalLift_soft (s := s) x
    obtain ⟨hplay, hplay'⟩ := setPlaySoft_eq (s := s) x
    exact ⟨hlive, hlive', hplay, hplay'⟩

end Sys2Proof.Machine
end

section
namespace Sys2Proof.Machine

variable {s t u : State}

/-! ## What raised classes leave of a link (R175 to R180) -/

/-- At most a link's notice table and its transmit queue differ. -/
def NoticesOnly (a b : LinkState) : Prop := b = { a with notice := b.notice, tx := b.tx }

theorem NoticesOnly.refl (a : LinkState) : NoticesOnly a a := rfl

theorem NoticesOnly.trans {a b c : LinkState} (h : NoticesOnly a b) (g : NoticesOnly b c) : NoticesOnly a c := by
  unfold NoticesOnly at *
  rw [g, h]

theorem NoticesOnly.stream {a b : LinkState} (h : NoticesOnly a b) : b.stream = a.stream := by rw [h]
theorem NoticesOnly.lost {a b : LinkState} (h : NoticesOnly a b) : b.lost = a.lost := by rw [h]
theorem NoticesOnly.overrunFlag {a b : LinkState} (h : NoticesOnly a b) : b.overrunFlag = a.overrunFlag := by rw [h]

/-- What is done to one entry after another touches no more of a link than each of it. -/
theorem foldl_noticesOnly {f : LinkState → Fin 8 → LinkState} (h : ∀ a i, NoticesOnly a (f a i)) (is : List (Fin 8))
    (a : LinkState) : NoticesOnly a (is.foldl f a) := by
  induction is generalizing a with
  | nil => exact .refl a
  | cons i is ih => exact (h a i).trans (ih _)

theorem queueNotice_noticesOnly (ls : LinkState) (i : Fin 8) : NoticesOnly ls (ls.queueNotice i) := rfl

theorem raiseEntry_noticesOnly (c : EventClass) (ls : LinkState) (i : Fin 8) : NoticesOnly ls (ls.raiseEntry c i) := by
  unfold LinkState.raiseEntry
  dsimp only
  split_ifs <;> rfl

theorem raise_noticesOnly (c : EventClass) (ls : LinkState) : NoticesOnly ls (ls.raise c) := by
  unfold LinkState.raise
  split
  · exact foldl_noticesOnly (raiseEntry_noticesOnly c) _ ls
  · exact .refl ls

@[simp] theorem raise_stream (c : EventClass) (ls : LinkState) : (ls.raise c).stream = ls.stream :=
  (raise_noticesOnly c ls).stream

@[simp] theorem raise_lost (c : EventClass) (ls : LinkState) : (ls.raise c).lost = ls.lost := (raise_noticesOnly c ls).lost

@[simp] theorem raise_overrunFlag (c : EventClass) (ls : LinkState) : (ls.raise c).overrunFlag = ls.overrunFlag :=
  (raise_noticesOnly c ls).overrunFlag

/-! ## Unread counts (R67) -/

/-- The oldest held event leaves the whole ring unread. -/
theorem unread_oldest {j : Ajn} (h : j.ring.length ≤ Config.ringLimit) : unread j.next j.oldest = j.ring.length := by
  have hlimit : Config.ringLimit = 512 := rfl
  simp only [unread, Ajn.oldest]
  bv_omega

theorem unread_self (next : Seq) : unread next next = 0 := by
  simp [unread]

/-- One more number given is one more event unread, short of the whole number range. -/
theorem unread_succ {next cursor : Seq} (h : unread next cursor ≤ 512) :
    unread (next + 1) cursor = unread next cursor + 1 := by
  simp only [unread] at h ⊢
  bv_omega

/-- A cursor moved up with the next number leaves as many events unread. -/
theorem unread_succ_succ (next cursor : Seq) : unread (next + 1) (cursor + 1) = unread next cursor := by
  simp only [unread]
  bv_omega

/-- A cursor moved up by events that were unread leaves the rest of them (R69). -/
theorem unread_advance {next cursor : Seq} {n : Nat} (h : n ≤ unread next cursor) :
    unread next (cursor + BitVec.ofNat 32 n) = unread next cursor - n := by
  simp only [unread] at h ⊢
  bv_omega

/-- A cursor other than the oldest number has not the whole ring unread. -/
theorem unread_ne_of_ne_oldest {j : Ajn} {cursor : Seq} (h : cursor ≠ j.oldest) : unread j.next cursor ≠ j.ring.length := by
  intro hu
  refine h ?_
  rw [Ajn.oldest, ← hu, unread]
  bv_omega

/-! ## The ring (R64, R65) -/

@[simp] theorem push_next (j : Ajn) (e : Event) : (j.push e).next = j.next + 1 := rfl

theorem push_ring_of_room {j : Ajn} (h : j.ring.length < Config.ringLimit) (e : Event) :
    (j.push e).ring = j.ring ++ [{ seq := j.next, event := e }] := by
  rw [Ajn.push, if_pos h]

theorem push_ring_of_full {j : Ajn} (h : ¬j.ring.length < Config.ringLimit) (e : Event) :
    (j.push e).ring = j.ring.drop 1 ++ [{ seq := j.next, event := e }] := by
  rw [Ajn.push, if_neg h]

theorem overwrites_of_room {j : Ajn} (h : j.ring.length < Config.ringLimit) : j.overwrites = none := if_pos h

theorem overwrites_of_full {j : Ajn} (h : ¬j.ring.length < Config.ringLimit) : j.overwrites = some j.oldest := if_neg h

/-- Events with consecutive numbers, the last of them just below `next` (R64). -/
def NumberedTo (next : Seq) (ring : List JournalEvent) : Prop :=
  ∀ i (h : i < ring.length), (ring[i]).seq = next - BitVec.ofNat 32 (ring.length - i)

theorem Ajn.consecutive_iff {j : Ajn} :
    j.consecutive ↔ j.ring.length ≤ Config.ringLimit ∧ NumberedTo j.next j.ring := Iff.rfl

/-- The numbers stay consecutive wherever the old end is cut off. -/
theorem NumberedTo.drop {next : Seq} {ring : List JournalEvent} (h : NumberedTo next ring) (n : Nat) :
    NumberedTo next (ring.drop n) := fun i hi => by
  have hlen : (ring.drop n).length = ring.length - n := List.length_drop
  rw [List.getElem_drop, h (n + i) (by omega), hlen, Nat.sub_sub]

/-- An event that is given the next number goes on with the row. -/
theorem NumberedTo.append {next : Seq} {ring : List JournalEvent} (h : NumberedTo next ring) (e : Event) :
    NumberedTo (next + 1) (ring ++ [{ seq := next, event := e }]) := fun i hi => by
  rw [List.length_append, List.length_singleton] at hi ⊢
  by_cases hlt : i < ring.length
  · rw [List.getElem_append_left hlt, h i hlt, show ring.length + 1 - i = (ring.length - i) + 1 by omega, BitVec.ofNat_add]
    bv_omega
  · obtain rfl : i = ring.length := by omega
    rw [List.getElem_concat_length rfl, Nat.add_sub_cancel_left]
    simp

/-- An append keeps the numbers of the ring consecutive and the ring within its limit (R64, R65). -/
theorem Ajn.consecutive.push {j : Ajn} (h : j.consecutive) (e : Event) : (j.push e).consecutive := by
  have hlimit : Config.ringLimit = 512 := rfl
  obtain ⟨hlen, hnum⟩ := Ajn.consecutive_iff.mp h
  refine Ajn.consecutive_iff.mpr ?_
  rw [push_next]
  by_cases hroom : j.ring.length < Config.ringLimit
  · rw [push_ring_of_room hroom, List.length_append, List.length_singleton]
    exact ⟨hroom, hnum.append e⟩
  · rw [push_ring_of_full hroom, List.length_append, List.length_singleton, List.length_drop]
    exact ⟨by omega, (hnum.drop 1).append e⟩

/-! ## Appends and streams (R71, R72) -/

/-- A cursor that names the overwritten event moves up, and the loss is counted (R71). -/
theorem appendSeen_overwritten {ls : LinkState} {st : Stream} (h : ls.stream = some st) (next : Seq) :
    (ls.appendSeen next (some st.cursor)).stream = some { st with cursor := st.cursor + 1 }
      ∧ (ls.appendSeen next (some st.cursor)).lost = min (ls.lost + 1) 65535
      ∧ (ls.appendSeen next (some st.cursor)).overrunFlag = true := by
  simp [LinkState.appendSeen, h, satInc]

/-- Every other append leaves stream and loss as they are (R72). -/
theorem appendSeen_kept {ls : LinkState} {overwritten : Option Seq} (h : ∀ st, ls.stream = some st → overwritten ≠ some st.cursor)
    (next : Seq) :
    (ls.appendSeen next overwritten).stream = ls.stream ∧ (ls.appendSeen next overwritten).lost = ls.lost := by
  unfold LinkState.appendSeen
  split
  · exact ⟨rfl, rfl⟩
  · next st hst =>
    rw [if_neg (h st hst)]
    split
    · exact ⟨raise_stream _ _, raise_lost _ _⟩
    · exact ⟨rfl, rfl⟩

theorem appendEvent_link (e : Event) (l : Link) :
    (appendEvent e s).link l = (s.link l).appendSeen s.ajn.next s.ajn.overwrites :=
  State.link_onEveryLink l _

/-- An append into a ring with room leaves every stream as it is (R65). -/
theorem appendEvent_room (h : s.ajn.ring.length < Config.ringLimit) (e : Event) (l : Link) :
    ((appendEvent e s).link l).stream = (s.link l).stream ∧ ((appendEvent e s).link l).lost = (s.link l).lost := by
  rw [appendEvent_link, overwrites_of_room h]
  exact appendSeen_kept (fun _ _ => (Option.some_ne_none _).symm) _

/-- An append into a full ring moves a stream's cursor that named the oldest event (R65, R71). -/
theorem appendEvent_full_oldest {l : Link} {st : Stream} (h : ¬s.ajn.ring.length < Config.ringLimit)
    (hst : (s.link l).stream = some st) (hc : st.cursor = s.ajn.oldest) (e : Event) :
    ((appendEvent e s).link l).stream = some { st with cursor := st.cursor + 1 }
      ∧ ((appendEvent e s).link l).lost = min ((s.link l).lost + 1) 65535
      ∧ ((appendEvent e s).link l).overrunFlag = true := by
  rw [appendEvent_link, overwrites_of_full h, ← hc]
  exact appendSeen_overwritten hst _

/-- An append into a full ring leaves a stream as it is whose cursor is past the oldest event (R65, R71). -/
theorem appendEvent_full_other {l : Link} {st : Stream} (h : ¬s.ajn.ring.length < Config.ringLimit)
    (hst : (s.link l).stream = some st) (hc : st.cursor ≠ s.ajn.oldest) (e : Event) :
    ((appendEvent e s).link l).stream = some st ∧ ((appendEvent e s).link l).lost = (s.link l).lost := by
  rw [appendEvent_link, overwrites_of_full h, ← hst]
  refine appendSeen_kept (fun st' hst' heq => hc ?_) _
  obtain rfl : st = st' := Option.some.inj (hst.symm.trans hst')
  exact (Option.some.inj heq).symm

/-- Settles O27: the ring by the two forms of an append, and each stream by whether its cursor named the event that gave
way. -/
theorem appendNumbersAndOverwrites : Obligations.AppendNumbersAndOverwrites := by
  refine ⟨fun e s h => ⟨rfl, ?_, fun hroom => ⟨?_, appendEvent_room hroom e⟩, fun hfull => ?_⟩, fun e s h => ⟨?_, rfl⟩⟩
  · rw [appendEvent_ajn, Ajn.push, List.getLast?_concat]
  · rw [appendEvent_ajn, push_ring_of_room hroom, List.length_append, List.length_singleton]
  · have hfull' : ¬s.ajn.ring.length < Config.ringLimit := Nat.not_lt.mpr hfull.ge
    refine ⟨?_, fun l st hst => ⟨fun hc => appendEvent_full_oldest hfull' hst hc e,
      fun hc => appendEvent_full_other hfull' hst hc e⟩⟩
    rw [appendEvent_ajn, push_ring_of_full hfull', List.length_append, List.length_singleton, List.length_drop]
    omega
  · rw [appendEvent_ajn]
    by_cases hfull : s.ajn.ring.length = 512
    · rw [if_pos hfull]
      exact push_ring_of_full (Nat.not_lt.mpr hfull.ge) e
    · rw [if_neg hfull]
      exact push_ring_of_room (Nat.lt_of_le_of_ne h hfull) e

/-! ## Reading a stream (R67, R69) -/

/-- Settles O26: the events from the cursor on are the last of a ring with consecutive numbers. -/
theorem streamReadsAscendingNumbers : Obligations.StreamReadsAscendingNumbers := by
  intro l st s hs hst
  obtain ⟨hring, hstreams⟩ := hs
  obtain ⟨hunread, -, -⟩ := hstreams l st hst
  have hlen : (s.ajn.eventsFrom st.cursor).length = unread s.ajn.next st.cursor := by
    rw [Ajn.eventsFrom, List.length_drop]
    omega
  refine ⟨hlen, fun j e he => ?_⟩
  obtain ⟨hj, rfl⟩ := List.getElem?_eq_some_iff.mp he
  have hseq : ((s.ajn.eventsFrom st.cursor)[j]).seq =
      s.ajn.next - BitVec.ofNat 32 ((s.ajn.eventsFrom st.cursor).length - j) :=
    (Ajn.consecutive_iff.mp hring).2.drop _ j hj
  rw [hseq, hlen]
  rw [hlen] at hj
  simp only [unread] at hj ⊢
  bv_omega

/-! ## The requests of a stream (R68, R69, R72) -/

theorem exec_openJournal {l : Link} {args : List Byte} (h : headRequest l s = some (kOpenJournal, args)) :
    exec (.openJournal l) s = .next (putReply l kOpenJournal
      (openJournalEffect l args (popRequest l s)).2 (openJournalEffect l args (popRequest l s)).1) :=
  congrArg Host.Outcome.next (serve_taken _ h)

theorem exec_readJournal {l : Link} {args : List Byte} (h : headRequest l s = some (kReadJournal, args)) :
    exec (.readJournal l) s = .next (putReply l kReadJournal
      (readJournalEffect l args (popRequest l s)).2 (readJournalEffect l args (popRequest l s)).1) :=
  congrArg Host.Outcome.next (serve_taken _ h)

/-- A stream opened at the oldest event or at the next number, its threshold clamped (R68). -/
theorem openJournalEffect_done {l : Link} {args : List Byte} (hn : 3 ≤ args.length) (h1 : byteAt args 0 ≤ 1) :
    openJournalEffect l args s =
      let cursor := if byteAt args 0 = 0 then s.ajn.oldest else s.ajn.next
      done (onLink l (LinkState.openStream s.ajn.next { cursor := cursor, threshold := max 1 (min (word16At args 1) 256) }) s)
        (le32 cursor.toNat ++ le16 (unread s.ajn.next cursor)) := by
  simp only [openJournalEffect, needs_enough _ hn, if_neg (Nat.not_lt.mpr h1), clamp_eq_max_min (show 1 ≤ 256 by decide)]

/-- The events that fit leave the stream (R69). -/
theorem readJournalEffect_done {l : Link} {args : List Byte} {st : Stream} (hn : 1 ≤ args.length)
    (hst : (s.link l).stream = some st) :
    readJournalEffect l args s =
      let left := unread s.ajn.next st.cursor
      let n := eventsReturned (s.link l).limit (byteAt args 0) left
      done (onLink l (fun ls => { ls with stream := some { st with cursor := st.cursor + BitVec.ofNat 32 n } }) s)
        ([byteOf n, byteOf (min (left - n) 255)]
          ++ ((s.ajn.eventsFrom st.cursor).take n).flatMap JournalEvent.bytes) := by
  simp only [readJournalEffect, needs_enough _ hn, hst]

/-- With no stream open nothing is read (R69). -/
theorem readJournalEffect_state {l : Link} {args : List Byte} (hn : 1 ≤ args.length) (hst : (s.link l).stream = none) :
    readJournalEffect l args s = refuse .state s := by
  simp only [readJournalEffect, needs_enough _ hn, hst]

/-- Settles O25: each request's effect, taken at the head of its link's buffer. -/
theorem journalStreamOpensAndReads : Obligations.JournalStreamOpensAndReads := by
  intro l args s
  refine ⟨fun h hn h1 => ?_, fun st h hn hst => ?_, fun h hn hst => ?_⟩
  · rw [exec_openJournal h, openJournalEffect_done hn h1]
    rfl
  · rw [exec_readJournal h, readJournalEffect_done hn ((popRequest_stream l l).trans hst), popRequest_limit]
    rfl
  · rw [exec_readJournal h, readJournalEffect_state hn ((popRequest_stream l l).trans hst)]
    rfl

end Sys2Proof.Machine
end

section
namespace Sys2Proof.Machine

/-! ## What holds across the take store's and the player's own operations

A relation that is closed under the operations of an event is closed under what requests and timed steps do in the same
blocks. -/

namespace EventClosed

variable {R : State → State → Prop} (c : EventClosed R)

include c

/-! ### Voices -/

protected theorem softClaimed (src : Source) (s : State) : R s (softClaimed src s) := by
  unfold softClaimed
  split
  · exact c.softOrder _ _
  · exact c.refl _

protected theorem refillStale (s : State) : R s (refillStale s) := by
  refine foldl_rel c.refl c.trans (fun s n => ?_) _ _
  dsimp only
  split
  · split
    · exact c.trans (c.vas _ _) (c.queueOrder _ _)
    · exact c.refl _
  · exact c.refl _

/-! ### Takes -/

protected theorem emptyTake (n : TakeNo) (s : State) : R s (emptyTake n s) := c.trans (c.tks _ _) (c.onTake _ _ _)

protected theorem beginRecording (n : TakeNo) (immediate : Bool) (tag : Nat) (s : State) :
    R s (beginRecording n immediate tag s) := by
  have hstart (v : State) :
      R v (if immediate then startTake n s.clock v else onTks (fun k => { k with recorder := .armed n }) v) := by
    split
    · exact c.startTake _ _ _
    · exact c.tks _ _
  exact c.trans (c.trans (c.trans (c.tks _ _) (c.allocateBlock _ _)) (hstart _)) (c.raised _ _)

protected theorem endRecording (n : TakeNo) (s : State) : R s (endRecording n s) := by
  unfold endRecording
  split
  · exact c.tks _ _
  · exact c.emptyTake _ _

protected theorem endLoading (n : TakeNo) (s : State) : R s (endLoading n s) := by
  unfold endLoading
  split
  · exact c.tks _ _
  · exact c.emptyTake _ _

protected theorem stopRecording (n : TakeNo) (s : State) : R s (stopRecording n s).1 :=
  c.trans (c.trans (c.tks _ _) (c.endRecording _ _)) (c.raised _ _)

/-! ### The player -/

protected theorem playDueThenEnd (s : State) : R s (playDueThenEnd s) := c.trans (c.playDue _) (c.endIfPast _)

protected theorem loopJump (lp : Loop) (s : State) : R s (loopJump lp s) := by
  have hcleared : R s (setPlayDamper 0 (setPlaySost s.ply.sostOn KeySet.empty (setPlayKeys KeySet.empty s))) :=
    c.trans (c.trans (c.setPlayKeys _ _) (c.setPlaySost _ _ _)) (c.setPlayDamper _ _)
  have hsnapshot (v : State) :
      R v (setPlaySoft lp.soft (setPlaySost lp.sostOn KeySet.empty (setPlayDamper lp.damper v))) :=
    c.trans (c.trans (c.setPlayDamper _ _) (c.setPlaySost _ _ _)) (c.setPlaySoft _ _)
  have hwaited (w : Bool) (v : State) : R v (if w then playStateRaised v else v) := by
    cases w
    · exact c.refl v
    · exact c.raised _ v
  have hplay (v : State) : R v (if v.ply.isPlaying then playDue v else v) := by
    split
    · exact c.playDue v
    · exact c.refl v
  unfold loopJump
  dsimp only
  split
  · exact c.refl s
  · exact c.trans (c.trans (c.trans (c.trans (c.trans hcleared (c.ply _ _)) (hsnapshot _)) (c.playMark _ _ _)) (hwaited _ _))
      (hplay _)

protected theorem setUpTake (n : TakeNo) (start : Nat) (s : State) : R s (setUpTake n start s) := by
  have hvalues (x y : Nat) (on : Bool) (v : State) :
      R v (setPlaySoft x (setPlaySost on KeySet.empty (setPlayDamper y v))) :=
    c.trans (c.trans (c.setPlayDamper _ _) (c.setPlaySost _ _ _)) (c.setPlaySoft _ _)
  exact c.trans (c.trans (c.trans (c.trans (c.ply _ _) (hvalues _ _ _ _)) (c.ply _ _)) (c.playMark _ _ _)) (c.raised _ _)

protected theorem startPlayback (n : TakeNo) (tempo : Option Nat) (start : Nat) (s : State) :
    R s (startPlayback n tempo start s) := by
  have hstop : R s (if s.ply.session.isSome then stopPlayback s else s) := by
    split
    · exact c.endPlayback _ _
    · exact c.refl _
  unfold startPlayback
  dsimp only
  cases tempo with
  | none => exact c.trans (c.trans hstop (c.setUpTake _ _ _)) (c.playDueThenEnd _)
  | some x => exact c.trans (c.trans (c.trans hstop (c.ply _ _)) (c.setUpTake _ _ _)) (c.playDueThenEnd _)

protected theorem setLoop (ss : Session) (start stop : Nat) (s : State) : R s (setLoop ss start stop s) := by
  unfold setLoop
  dsimp only
  split
  · exact c.trans (c.ply _ _) (c.loopJump _ _)
  · exact c.ply _ _

protected theorem clearExpected (ss : Session) (s : State) : R s (clearExpected ss s) := by
  unfold clearExpected
  dsimp only
  split
  · exact c.trans (c.ply _ _) (c.endWait _ _ _)
  · exact c.trans (c.trans (c.ply _ _) (c.playMark _ _ _)) (c.ply _ _)
  · exact c.trans (c.ply _ _) (c.playMark _ _ _)

protected theorem setGuide (mode : GuideMode) (low high : Key) (window : Nat) (s : State) :
    R s (setGuide mode low high window s) := by
  unfold setGuide
  dsimp only
  split
  · split
    · exact c.trans (c.ply _ _) (c.clearExpected _ _)
    · exact c.trans (c.ply _ _) (c.ply _ _)
  · exact c.trans (c.ply _ _) (c.ply _ _)

protected theorem finishStep (s : State) : R s (finishStep s) := by
  unfold finishStep
  dsimp only
  split
  · split
    · exact c.trans (c.playDue _) (c.loopJump _ _)
    · exact c.trans (c.playDue _) (c.endIfPast _)
  · exact c.playDue _

end EventClosed

end Sys2Proof.Machine
end

section
namespace Sys2Proof.Machine

/-! ## What holds across everything but the ports' own commands

A relation between states that says nothing of the blocks apart from the journal and the link ports is closed under most
of the part: ports and journal change there by raised classes, appended events and the depth frames of a frame end only. -/

/-- A relation that holds where journal and ports are as they were, and across each operation by which the blocks reach
the journal and the ports. -/
structure LinkClosed (R : State → State → Prop) : Prop where
  trans : ∀ {a b c}, R a b → R b c → R a c
  blocks : ∀ {a b : State}, b.ajn = a.ajn → b.links = a.links → R a b
  raised : ∀ c s, R s (raiseAll c s)
  appended : ∀ e s, R s (appendEvent e s)
  ticked : ∀ u s, R s (onEveryLink (depthTick u) s)

namespace LinkClosed

variable {R : State → State → Prop} (c : LinkClosed R)

include c

protected theorem refl (s : State) : R s s := c.blocks rfl rfl

/-- A change that leaves journal and ports, and what follows it. -/
protected theorem after {a b t : State} (h : R b t) (hajn : b.ajn = a.ajn := by rfl) (hlinks : b.links = a.links := by rfl) :
    R a t := c.trans (c.blocks hajn hlinks) h

/-- What an event makes reaches journal and ports by no other way. -/
protected theorem events : EventClosed R where
  refl := c.refl
  trans := c.trans
  vas _ _ := c.blocks rfl rfl
  tks _ _ := c.blocks rfl rfl
  ply _ _ := c.blocks rfl rfl
  raised := c.raised
  appended := c.appended
  refused _ := c.after (c.raised _ _)
  stolen _ := c.blocks rfl rfl
  takeFull _ := c.blocks rfl rfl

/-- A command that may do nothing. -/
protected theorem ite {p : Prop} [Decidable p] {s t : State} (h : R s t) : R s (if p then t else s) := by
  split
  · exact h
  · exact c.refl s

/-- A fault kind reported and a class raised for it. -/
protected theorem faultRaised (k : FaultKind) (e : EventClass) (s : State) : R s (raiseAll e (reportFault k s)) :=
  c.after (c.raised _ _)

/-! ### The rail (06) -/

protected theorem railEnter (st : RailState) (s : State) : R s (railEnter st s) := by
  have hentered (e : Event) : R s (raiseAll .railState (appendEvent e (onRlc (fun r => { r with state := st }) s))) :=
    c.trans (c.after (c.appended _ _)) (c.raised _ _)
  unfold railEnter
  dsimp only
  split
  · exact c.trans (hentered _) (c.raised _ _)
  · exact hentered _

protected theorem startMove (e : Side) (check : Bool) (s : State) : R s (startMove e check s) :=
  c.trans (c.railEnter _ _) (c.blocks rfl rfl)

protected theorem enterWaiting (e : Side) (stalled : Option Bool) (s : State) : R s (enterWaiting e stalled s) :=
  c.railEnter _ _

protected theorem startHoming (s : State) : R s (startHoming s) := c.trans (c.railEnter _ _) (c.blocks rfl rfl)

protected theorem quietMove (s : State) : R s (quietMove s) := by
  unfold quietMove
  split
  · exact c.ite (c.startHoming _)
  · exact c.ite (c.startMove _ _ _)
  · exact c.refl _

protected theorem endTest (e : Side) (s : State) : R s (endTest e s) := by
  unfold endTest
  split_ifs
  · exact c.refl _
  · exact c.startMove _ _ _
  · exact c.enterWaiting _ _ _

protected theorem arrive (e : Side) (travel : Option Nat) (s : State) : R s (arrive e travel s) :=
  c.trans (c.after (c.railEnter _ _)) (c.endTest _ _)

protected theorem railFault (k : FaultKind) (s : State) : R s (railFault k s) :=
  c.after (c.railEnter _ (reportFault k (cutDrive s)))

protected theorem obstruct (e : Side) (s : State) : R s (obstruct e s) := by
  unfold obstruct
  dsimp only
  split
  · exact c.after (c.railFault _ _)
  · exact c.trans (c.after (c.railEnter _ _)) (c.blocks rfl rfl)

/-- The drive is cut, and what follows is done (R103). -/
protected theorem cut {s t : State} (h : R (cutDrive s) t) : R s t := c.after h

protected theorem retreatEnd (stalled : Bool) (b : BackoffInfo) (s : State) : R s (retreatEnd stalled b s) := by
  unfold retreatEnd
  dsimp only
  split_ifs
  · exact c.cut (c.arrive _ _ _)
  · exact c.cut (c.startMove _ _ _)
  · exact c.blocks rfl rfl

protected theorem stallLeg (lg : Leg) (s : State) : R s (stallLeg lg s) := by
  unfold stallLeg
  dsimp only
  split
  · exact c.cut (c.arrive _ _ _)
  · split
    · exact c.cut (c.arrive _ _ _)
    · exact c.cut (c.obstruct _ _)
  · split
    · exact c.cut (c.arrive _ _ _)
    · exact c.cut (c.obstruct _ _)
  · split
    · exact c.cut (c.retreatEnd _ _ _)
    · exact c.cut (c.refl _)
  · exact c.cut (c.refl _)

protected theorem targetChanged (s : State) : R s (targetChanged s) := by
  unfold targetChanged
  split
  · exact c.refl _
  · exact c.refl _
  · exact c.refl _
  · exact c.endTest _ _
  · exact c.endTest _ _
  · exact c.ite (c.cut (c.startMove _ _ _))
  · exact c.ite (c.cut (c.startMove _ _ _))
  · split
    · split
      · exact c.startMove _ _ _
      · exact c.railEnter _ _
    · exact c.refl _
  · split
    · exact c.refl _
    · split_ifs
      · exact c.arrive _ _ _
      · exact c.startMove _ _ _
      · exact c.refl _

protected theorem setDemand (d : Demand) (s : State) : R s (setDemand d s) := by
  unfold setDemand
  dsimp only
  split
  · exact c.blocks rfl rfl
  · exact c.after (c.targetChanged _)

protected theorem deriveLever (s : State) : R s (deriveLever s) := c.setDemand _ _

/-! ### Keys (02) -/

protected theorem setKeyLift (k : Key) (x : Nat) (s : State) : R s (setKeyLift k x s) := by
  unfold setKeyLift
  split
  · exact c.refl _
  · exact c.after (c.events.recomputeWhere _ _)

protected theorem deriveKey (k : Key) (d : Nat) (s : State) : R s (deriveKey k d s) :=
  c.after (c.setKeyLift _ _ _)

/-- A key's record is changed, and its event handed on (R22). -/
protected theorem keyEvent (k : Key) (f : KeyRec → KeyRec) (e : Event) (s : State) : R s (trackerEvent e (onKey k f s)) :=
  c.after (c.events.trackerEvent _ _)

protected theorem keySampleNormal (k : Key) (time : Clock) (d : Nat) (s : State) : R s (keySampleNormal k time d s) := by
  have hstate (x : Nat) (f g : KeyRec → KeyRec) : R s (onKey k g (setKeyLift k x (onKey k f s))) :=
    c.trans (c.after (c.setKeyLift _ _ _)) (c.blocks rfl rfl)
  unfold keySampleNormal
  dsimp only
  split
  · split
    · exact c.trans (hstate _ _ _) (c.keyEvent _ _ _ _)
    · exact hstate _ _ _
  · exact hstate _ _ _

protected theorem keyDepthSample (k : Key) (time : Clock) (first : Bool) (d : Nat) (s : State) :
    R s (keyDepthSample k time first d s) := by
  unfold keyDepthSample
  dsimp only
  split_ifs
  · exact c.blocks rfl rfl
  · exact c.deriveKey _ _ _
  · exact c.deriveKey _ _ _
  · exact c.keySampleNormal _ _ _ _

protected theorem hammerSample (k : Key) (time : Clock) (first : Bool) (height : Nat) (s : State) :
    R s (hammerSample k time first height s) := by
  have hmissed (b : Bool) (f : KeyRec → KeyRec) : R s (if b then
      { onKey k f s with faults := { (onKey k f s).faults with missed := satInc (onKey k f s).faults.missed } }
      else onKey k f s) := by
    cases b <;> exact c.blocks rfl rfl
  unfold hammerSample hammerSampleNormal
  dsimp only
  split
  · exact c.blocks rfl rfl
  · split
    · exact c.trans (hmissed _ _) (c.keyEvent _ _ _ _)
    · exact hmissed _ _

protected theorem keyChannelFailed (hammer : Bool) (k : Key) (time : Clock) (s : State) :
    R s (keyChannelFailed hammer k time s) := by
  have hreleased (e : Event) (v : State) : R v (if (v.key k).sounding then
      onKey k (fun r => { r with sounding := false }) (trackerEvent e v) else v) :=
    c.ite (c.trans (c.events.trackerEvent _ _) (c.blocks rfl rfl))
  have hup (f : KeyRec → KeyRec) (v : State) : R v (setKeyLift k 0 (onKey k f v)) :=
    c.after (c.setKeyLift _ _ _)
  have hhammer (v : State) : R v (if hammer then onKey k (fun r => { r with hammerTime := none }) v else v) :=
    c.ite (c.blocks rfl rfl)
  unfold keyChannelFailed
  dsimp only
  exact c.trans (c.trans (c.trans (c.trans (c.trans (c.after (c.quietMove _)) (hreleased _ _)) (hup _ _))
    (hhammer _)) (c.events.trackerEvent _ _)) (c.raised _ _)

protected theorem keyChannelRecovered (hammer : Bool) (k : Key) (time : Clock) (s : State) :
    R s (keyChannelRecovered hammer k time s) := by
  have hback (f : KeyRec → KeyRec) : R s (quietMove (onKey k f s)) := c.after (c.quietMove _)
  have hevent (failed : Bool) (e : Event) (v : State) : R v (if failed then v else trackerEvent e v) := by
    cases failed
    · exact c.events.trackerEvent e v
    · exact c.refl v
  exact c.trans (hback _) (hevent _ _ _)

/-! ### Pedals (03) -/

protected theorem setPedalLift (p : Pedal) (x : Nat) (s : State) : R s (setPedalLift p x s) := by
  unfold setPedalLift
  dsimp only
  split
  · exact c.blocks rfl rfl
  · cases p with
    | damper => exact c.after (c.events.recomputeWhere _ _)
    | soft => exact c.after (c.events.softChanged _ _)
    | sostenuto => exact c.blocks rfl rfl

protected theorem reportPedal (p : Pedal) (x : Nat) (time : Clock) (s : State) : R s (reportPedal p x time s) :=
  c.after (c.events.pedalEvent _ _)

protected theorem setSostSet (S : KeySet) (s : State) : R s (setSostSet S s) := by
  unfold setSostSet
  dsimp only
  split
  · exact c.blocks rfl rfl
  · exact c.after (c.events.recomputeWhere _ _)

protected theorem sostenutoOn (time : Clock) (s : State) : R s (sostenutoOn time s) :=
  c.trans (c.after (c.setSostSet _ _)) (c.events.pedalEvent _ _)

protected theorem sostenutoOff (time : Clock) (s : State) : R s (sostenutoOff time s) :=
  c.trans (c.after (c.setSostSet _ _)) (c.events.pedalEvent _ _)

protected theorem sostenutoTest (time : Clock) (d : Nat) (s : State) : R s (sostenutoTest time d s) := by
  unfold sostenutoTest
  dsimp only
  split_ifs
  · exact c.sostenutoOff _ _
  · exact c.refl _
  · exact c.sostenutoOn _ _
  · exact c.refl _

protected theorem pedalSample (p : Pedal) (time : Clock) (first : Bool) (d : Nat) (s : State) :
    R s (pedalSample p time first d s) := by
  have hdepth : R s (setPedalDepth p d s) := c.blocks rfl rfl
  by_cases hp : p = .sostenuto
  · subst hp
    cases first
    · exact c.trans hdepth (c.sostenutoTest _ _ _)
    · exact hdepth
  · have hlift (x : Nat) := c.trans hdepth (c.setPedalLift p x _)
    rw [pedalSample_of_ne hp]
    dsimp only
    split_ifs
    · exact c.trans (hlift _) (c.blocks rfl rfl)
    · exact c.trans (hlift _) (c.reportPedal _ _ _ _)
    · exact hlift _

protected theorem pedalChannelFailed (p : Pedal) (time : Clock) (s : State) : R s (pedalChannelFailed p time s) := by
  have hfailed : R s (onPdu (fun u => u.modify p fun r => { r with failed := true }) s) := c.blocks rfl rfl
  unfold pedalChannelFailed
  dsimp only
  refine c.trans ?_ (c.faultRaised _ _ _)
  split
  · exact c.trans hfailed (c.ite (c.sostenutoOff _ _))
  · exact c.trans (c.trans hfailed (c.setPedalLift _ _ _)) (c.ite (c.reportPedal _ _ _ _))

/-! ### Conversions and walks (01) -/

protected theorem convertKey (k : Key) (time : Clock) (raw : Nat) (s : State) : R s (convertKey k time raw s) :=
  c.after
    (convert_rel c.refl c.trans (failed := fun v => keyChannelFailed false k time (reportFault .sensorFail v))
      (fun _ => c.after (c.keyChannelFailed _ _ _ _)) (c.keyChannelRecovered _ _ _)
      (c.keyDepthSample _ _ _ _) _ _ _
      (onSfe (fun f => { f with keyCh := f.keyCh.set k (channelTest s.sfe.keyCh[k] raw).record }) s))

protected theorem convertHammer (k : Key) (time : Clock) (raw : Nat) (s : State) : R s (convertHammer k time raw s) :=
  c.after
    (convert_rel c.refl c.trans (failed := fun v => keyChannelFailed true k time (reportFault .sensorFail v))
      (fun _ => c.after (c.keyChannelFailed _ _ _ _)) (c.keyChannelRecovered _ _ _)
      (fun _ => c.trans (c.hammerSample _ _ _ _ _) (c.quietMove _)) _ _ _
      (onSfe (fun f => { f with hammerCh := f.hammerCh.set k (channelTest s.sfe.hammerCh[k] raw).record }) s))

protected theorem convertPedal (p : Pedal) (time : Clock) (raw : Nat) (s : State) : R s (convertPedal p time raw s) :=
  c.after
    (convert_rel c.refl c.trans (failed := fun v => pedalChannelFailed p time (reportFault .sensorFail v))
      (fun _ => c.after (c.pedalChannelFailed _ _ _)) (recovered := pedalChannelRecovered p)
      (fun _ => c.blocks rfl rfl) (c.pedalSample _ _ _ _) _ _ _
      (onSfe (fun f => { f with pedalCh := f.pedalCh.set p.index (channelTest s.sfe.pedalCh[p.index] raw).record }) s))

protected theorem convertResult (g : Group) (time : Clock) (s : State) (r : AinResult) :
    R s (convertResult g time s r) := by
  unfold convertResult
  cases g with
  | k n => exact c.convertKey _ _ _ _
  | h n => exact c.convertHammer _ _ _ _
  | p =>
    cases groupPedal r.ain with
    | none => exact c.refl _
    | some p => exact c.convertPedal _ _ _ _

protected theorem startFrame (s : State) : R s (startFrame s) := by
  rw [startFrame_eq]
  exact c.blocks rfl rfl

protected theorem seeSensing (s : State) : R s (seeSensing s) := by
  unfold seeSensing
  split
  · exact c.refl _
  · exact c.after (c.quietMove _)

protected theorem frameEnd (s : State) : R s (frameEnd s) :=
  c.trans (c.after (c.ticked s _)) (c.seeSensing _)

protected theorem frameOverrun (s : State) : R s (frameOverrun s) := c.after (c.faultRaised _ _ _)

protected theorem endWalk (looped : Bool) (s : State) : R s (endWalk looped s) := by
  have hreported : R s (if looped then reportFault .listLoop s else s) := c.ite (c.blocks rfl rfl)
  have hended : R s (walkEnded looped s) := c.trans (c.trans hreported (c.frameEnd _)) (c.blocks rfl rfl)
  cases h : endsLate s with
  | false =>
    rw [endWalk_in_time looped h]
    exact hended
  | true =>
    rw [endWalk_late looped h]
    exact c.trans (c.trans hended (c.frameOverrun _)) (c.startFrame _)

protected theorem nextEntry (pos : WalkPos) (s : State) : R s (nextEntry pos s) := by
  unfold nextEntry
  dsimp only
  split_ifs
  · exact c.endWalk _ _
  · exact c.endWalk _ _
  · rw [beginEntry_eq]
    exact c.blocks rfl rfl

end LinkClosed

end Sys2Proof.Machine
end

section
namespace Sys2Proof.Machine

/-! ## What holds across the requests that leave the ports to their commands (R164) -/

/-- A relation holds across a request's effect. -/
def EffectRel (R : State → State → Prop) (effect : List Byte → State → State × Reply) : Prop :=
  ∀ args s, R s (effect args s).1

namespace LinkClosed

variable {R : State → State → Prop} (c : LinkClosed R)

include c

protected theorem needs {n : Nat} {args : List Byte} {s : State} {go : State × Reply} (h : R s go.1) :
    R s (needs n args s go).1 := by
  unfold needs
  split
  · exact c.refl _
  · exact h

protected theorem playerNeeds {n : Nat} {args : List Byte} {s : State} {go : State × Reply} (h : R s go.1) :
    R s (playerNeeds n args s go).1 := by
  unfold playerNeeds
  split
  · exact c.refl _
  · exact h

/-! ### Links and faults -/

protected theorem helloEffect (l : Link) : EffectRel R (helloEffect l) := fun _ s => c.refl s

protected theorem claimRoleEffect (l : Link) : EffectRel R (claimRoleEffect l) := fun args s => by
  unfold claimRoleEffect
  split
  · exact c.refl _
  · split
    · split_ifs
      · exact c.refl _
      · exact c.refl _
      · exact c.after (c.trans (c.trans (c.raised _ _) (c.events.softClaimed _ _)) (c.events.softClaimed _ _))
    · split_ifs
      · exact c.refl _
      · exact c.refl _
      · exact c.after (c.raised _ _)
    · exact c.refl _

protected theorem readKeysEffect (l : Link) : EffectRel R (readKeysEffect l) := fun args s => by
  refine c.needs ?_
  dsimp only
  split <;> exact c.refl s

protected theorem readWindowEffect (l : Link) : EffectRel R (readWindowEffect l) := fun args s => by
  refine c.needs ?_
  dsimp only
  split <;> exact c.refl s

protected theorem setScanListEffect : EffectRel R setScanListEffect := fun args s => by
  refine c.needs ?_
  dsimp only
  split
  · exact c.refl _
  · split
    · exact c.blocks rfl rfl
    · exact c.refl _

protected theorem systemResetEffect (l : Link) : EffectRel R (systemResetEffect l) := fun args s => by
  unfold systemResetEffect done
  split
  · exact c.ite (c.blocks rfl rfl)
  · exact c.refl _

protected theorem readFaultsEffect : EffectRel R readFaultsEffect := fun args s => by
  refine c.needs ?_
  split <;> exact c.refl s

/-! ### Voices and rail -/

protected theorem setLayersEffect : EffectRel R setLayersEffect := fun args s => by
  refine c.needs ?_
  split
  · exact c.refl _
  · exact c.blocks rfl rfl

protected theorem readVoicesEffect (l : Link) : EffectRel R (readVoicesEffect l) := fun args s => by
  refine c.needs ?_
  dsimp only
  split <;> exact c.refl s

protected theorem endPair (acc : State × Nat × Nat) (pair : Slot × Byte) : R acc.1 (endPair acc pair).1 := by
  unfold endPair
  dsimp only
  split <;> exact c.blocks rfl rfl

protected theorem voiceEndedEffect (l : Link) : EffectRel R (voiceEndedEffect l) := fun args s => by
  have hpairs (pairs : List (Slot × Byte)) (acc : State × Nat × Nat) : R acc.1 (pairs.foldl endPair acc).1 := by
    induction pairs generalizing acc with
    | nil => exact c.refl _
    | cons x rest ih => exact c.trans (c.endPair acc x) (ih _)
  have hstale (n : Nat) (v : State) : R v (staleReported n v) := by
    unfold staleReported
    split
    · exact c.refl _
    · exact c.faultRaised _ _ _
  unfold voiceEndedEffect
  split
  · split
    · exact c.refl _
    · exact c.trans (hpairs _ (s, 0, 0)) (hstale _ _)
  · exact c.refl _

protected theorem railDemandEffect (l : Link) : EffectRel R (railDemandEffect l) := fun args s => by
  refine c.needs ?_
  split
  · exact c.refl _
  · exact c.setDemand _ _

protected theorem railRecoverEffect : EffectRel R railRecoverEffect := fun args s => by
  unfold railRecoverEffect
  split
  · dsimp only [done]
    exact c.after (c.trans (c.railEnter _ _) (c.quietMove _))
  · exact c.refl _

protected theorem readRailEffect : EffectRel R readRailEffect := fun _ s => c.refl s

/-! ### Takes -/

protected theorem takeRecordEffect : EffectRel R takeRecordEffect := fun args s => by
  refine c.needs ?_
  split
  · exact c.refl _
  · split_ifs
    · exact c.refl _
    · exact c.refl _
    · exact c.refl _
    · split
      · exact c.refl _
      · exact c.events.beginRecording _ _ _ _

protected theorem takeStopEffect : EffectRel R takeStopEffect := fun args s => by
  unfold takeStopEffect
  split
  · exact c.refl _
  · exact c.events.stopRecording _ _
  · exact c.events.stopRecording _ _

protected theorem takeLoadEffect : EffectRel R takeLoadEffect := fun args s => by
  refine c.needs ?_
  split
  · exact c.refl _
  · split_ifs
    · exact c.refl _
    · exact c.refl _
    · exact c.after (c.raised _ _)

protected theorem writeTakeRecordsEffect : EffectRel R writeTakeRecordsEffect := fun args s => by
  refine c.needs ?_
  split
  · exact c.refl _
  · split
    · exact c.refl _
    · split
      · exact c.refl _
      · split_ifs
        · exact c.refl _
        · exact c.refl _
        · exact c.events.appendRecords _ _ _

protected theorem loadEndEffect : EffectRel R loadEndEffect := fun args s => by
  refine c.needs ?_
  split
  · exact c.refl _
  · split
    · exact c.refl _
    · exact c.trans (c.events.endLoading _ _) (c.raised _ _)

protected theorem keepEffect (l : Link) (keep : Bool) : EffectRel R (keepEffect l keep) := fun args s => by
  unfold keepEffect
  split
  · refine c.needs ?_
    split
    · exact c.refl _
    · split_ifs
      · exact c.refl _
      · exact c.refl _
      · exact c.after (c.raised _ _)
  · exact c.refl _

protected theorem takeEraseEffect : EffectRel R takeEraseEffect := fun args s => by
  refine c.needs ?_
  split
  · exact c.refl _
  · split_ifs
    · exact c.refl _
    · exact c.refl _
    · exact c.refl _
    · exact c.refl _
    · exact c.trans (c.events.emptyTake _ _) (c.raised _ _)

protected theorem readTakeDirectoryEffect (l : Link) : EffectRel R (readTakeDirectoryEffect l) := fun args s => by
  refine c.needs ?_
  dsimp only
  split <;> exact c.refl s

protected theorem readTakeRecordsEffect (l : Link) : EffectRel R (readTakeRecordsEffect l) := fun args s => by
  refine c.needs ?_
  split
  · exact c.refl _
  · split <;> exact c.refl s

/-! ### The player -/

protected theorem takePlayEffect : EffectRel R takePlayEffect := fun args s => by
  refine c.playerNeeds ?_
  split
  · exact c.refl _
  · split
    · exact c.refl _
    · dsimp only
      generalize (if bitOf args 1 1 then word32At args 3 else 0) = start
      split
      · exact c.refl _
      · exact c.events.startPlayback _ _ _ _

protected theorem stopEffect : EffectRel R stopEffect := fun args s => by
  unfold stopEffect
  split
  · exact c.events.endPlayback _ _
  · exact c.refl _

protected theorem pauseEffect : EffectRel R pauseEffect := fun args s => by
  unfold pauseEffect
  split
  · exact c.refl _
  · split
    · exact c.after (c.trans (c.events.playMark _ _ _) (c.raised _ _))
    · exact c.refl _

protected theorem resumeEffect : EffectRel R resumeEffect := fun args s => by
  unfold resumeEffect
  split
  · exact c.refl _
  · split
    · exact c.after (c.trans (c.events.playMark _ _ _) (c.raised _ _))
    · exact c.refl _

protected theorem setTempoEffect : EffectRel R setTempoEffect := fun _ _ => c.playerNeeds (c.blocks rfl rfl)

protected theorem setLoopEffect : EffectRel R setLoopEffect := fun args s => by
  refine c.playerNeeds ?_
  split
  · exact c.refl _
  · dsimp only
    split
    · exact c.events.setLoop _ _ _ _
    · exact c.refl _

protected theorem clearLoopEffect : EffectRel R clearLoopEffect := fun _ _ => c.blocks rfl rfl

protected theorem setGuideEffect : EffectRel R setGuideEffect := fun args s => by
  refine c.playerNeeds ?_
  split
  · split
    · exact c.refl _
    · exact c.events.setGuide _ _ _ _ _
  · exact c.refl _

/-! ### The calibration store -/

protected theorem resetHammers (changed : Key → Bool) (s : State) : R s (resetHammers changed s) := by
  unfold resetHammers
  exact c.blocks rfl rfl

protected theorem installCst (new : Cst) (s : State) : R s (installCst new s) := by
  have hquiet : R s (quietMove (resetHammers (perKeyChanged s.cst new) (onCst (fun _ => new) s))) :=
    c.after (c.trans (c.resetHammers _ _) (c.quietMove _))
  unfold installCst
  dsimp only
  split
  · exact hquiet
  · exact c.trans hquiet (c.deriveLever _)

protected theorem calReadEffect (l : Link) : EffectRel R (calReadEffect l) := fun args s => by
  refine c.needs ?_
  split
  · exact c.refl _
  · dsimp only
    split <;> exact c.refl s

protected theorem calWriteEffect (l : Link) : EffectRel R (calWriteEffect l) := fun args s => by
  unfold calWriteEffect
  split
  · exact c.refl _
  · split
    · exact c.refl _
    · split_ifs
      · exact c.refl _
      · exact c.refl _
      · exact c.refl _
      · unfold calStore done
        dsimp only
        split
        · exact c.refl _
        · exact c.installCst _ _

protected theorem calCommitEffect (l : Link) : EffectRel R (calCommitEffect l) := fun args s => by
  unfold calCommitEffect
  split
  · exact c.refl _
  · refine c.needs ?_
    split
    · exact c.refl _
    · split
      · exact c.refl _
      · exact c.blocks rfl rfl

protected theorem calDefaultsEffect (l : Link) : EffectRel R (calDefaultsEffect l) := fun args s => by
  unfold calDefaultsEffect
  split
  · exact c.refl _
  · refine c.needs ?_
    split
    · exact c.refl _
    · split_ifs
      · exact c.refl _
      · exact c.refl _
      · exact c.installCst _ _

/-! ### Start-up (R189) -/

protected theorem reportInvalid (passes : Bool) (s : State) : R s (reportInvalid passes s) := by
  cases passes
  · exact c.faultRaised _ _ _
  · exact c.refl _

protected theorem loadRegions (s : State) : R s (loadRegions s) :=
  c.after (c.trans (c.reportInvalid _ _) (c.reportInvalid _ _))

protected theorem startUp (s : State) : R s (startUp s) := by
  unfold startUp
  split
  · exact c.blocks rfl rfl
  · exact c.loadRegions _

end LinkClosed

end Sys2Proof.Machine
end

section
namespace Sys2Proof.Machine

variable {s t u : State}

/-! ## Sound streams (R67) -/

/-- A stream's cursor lies in the ring or at the next number, and its threshold is 1 to 256 (R67). -/
def Stream.sound (j : Ajn) (st : Stream) : Prop :=
  unread j.next st.cursor ≤ j.ring.length ∧ 1 ≤ st.threshold ∧ st.threshold ≤ 256

theorem journalSound_iff :
    JournalSound s ↔ s.ajn.consecutive ∧ ∀ l st, (s.link l).stream = some st → st.sound s.ajn := Iff.rfl

/-- A stream whose cursor an append does not overwrite stays sound (R65, R72). -/
theorem Stream.sound.push {j : Ajn} {st : Stream} (h : st.sound j) (hj : j.consecutive) (hc : j.overwrites ≠ some st.cursor)
    (e : Event) : st.sound (j.push e) := by
  have hlimit : Config.ringLimit = 512 := rfl
  obtain ⟨hunread, hthreshold⟩ := h
  have hlen := hj.1
  refine ⟨?_, hthreshold⟩
  rw [push_next, unread_succ (by omega)]
  by_cases hroom : j.ring.length < Config.ringLimit
  · rw [push_ring_of_room hroom, List.length_append, List.length_singleton]
    omega
  · rw [overwrites_of_full hroom] at hc
    have hne := unread_ne_of_ne_oldest (j := j) (cursor := st.cursor) fun heq => hc (congrArg some heq.symm)
    rw [push_ring_of_full hroom, List.length_append, List.length_singleton, List.length_drop]
    omega

/-- A stream whose cursor is moved past the overwritten event stays sound (R71). -/
theorem Stream.sound.overwritten {j : Ajn} {st : Stream} (h : st.sound j) (hroom : ¬j.ring.length < Config.ringLimit)
    (e : Event) : Stream.sound (j.push e) { st with cursor := st.cursor + 1 } := by
  have hlimit : Config.ringLimit = 512 := rfl
  obtain ⟨hunread, hthreshold⟩ := h
  refine ⟨?_, hthreshold⟩
  rw [push_next, unread_succ_succ, push_ring_of_full hroom, List.length_append, List.length_singleton, List.length_drop]
  omega

/-- A stream opened at either start is sound (R68). -/
theorem opened_sound {j : Ajn} (hj : j.consecutive) (start threshold : Nat) :
    Stream.sound j { cursor := if start = 0 then j.oldest else j.next, threshold := clamp 1 256 threshold } := by
  refine ⟨?_, ?_⟩
  · dsimp only
    split
    · exact (unread_oldest hj.1).le
    · rw [unread_self]
      exact Nat.zero_le _
  · have hclamp : clamp 1 256 threshold = max 1 (min threshold 256) := clamp_eq_max_min (by decide) _
    dsimp only
    omega

/-- A stream is sound after a read of events that were unread (R69). -/
theorem Stream.sound.advance {j : Ajn} {st : Stream} (h : st.sound j) {n : Nat} (hn : n ≤ unread j.next st.cursor) :
    Stream.sound j { st with cursor := st.cursor + BitVec.ofNat 32 n } := by
  obtain ⟨hunread, hthreshold⟩ := h
  refine ⟨?_, hthreshold⟩
  rw [unread_advance hn]
  omega

/-! ## What keeps the journal sound -/

/-- The journal is sound after, if it was before. -/
def JournalKept (s t : State) : Prop := JournalSound s → JournalSound t

theorem JournalKept.refl : JournalKept s s := id
theorem JournalKept.trans (h : JournalKept s t) (g : JournalKept t u) : JournalKept s u := g ∘ h

/-- A link's stream is as it was, or closed. -/
def StreamKept (a b : LinkState) : Prop := ∀ st, b.stream = some st → a.stream = some st

theorem StreamKept.of_eq {a b : LinkState} (h : b.stream = a.stream) : StreamKept a b := fun _ hst => h.symm.trans hst

theorem StreamKept.closed {a b : LinkState} (h : b.stream = none) : StreamKept a b := fun _ hst =>
  nomatch h.symm.trans hst

theorem NoticesOnly.streamKept {a b : LinkState} (h : NoticesOnly a b) : StreamKept a b := .of_eq h.stream

/-- With the journal as it was and no stream other than it was, the journal stays sound. -/
theorem JournalKept.of_streams (hj : t.ajn = s.ajn) (h : ∀ l, StreamKept (s.link l) (t.link l)) : JournalKept s t :=
  fun ⟨hring, hstreams⟩ => journalSound_iff.mpr (hj ▸ ⟨hring, fun l st hst => hstreams l st (h l st hst)⟩)

/-- What is done to one link keeps the journal sound when it leaves that link a sound stream or none. -/
theorem onLink_journalKept_of_sound {l : Link} {f : LinkState → LinkState}
    (h : JournalSound s → ∀ st, (f (s.link l)).stream = some st → st.sound s.ajn) : JournalKept s (onLink l f s) := fun hs => by
  refine journalSound_iff.mpr ⟨hs.1, fun m st hst => ?_⟩
  by_cases hm : m = l
  · subst hm
    rw [State.link_onLink_same] at hst
    exact h hs st hst
  · rw [State.link_onLink_ne f hm] at hst
    exact hs.2 m st hst

theorem onLink_journalKept {l : Link} {f : LinkState → LinkState} (h : ∀ ls, StreamKept ls (f ls)) :
    JournalKept s (onLink l f s) := onLink_journalKept_of_sound fun hs st hst => hs.2 l st (h _ st hst)

theorem onEveryLink_journalKept {f : LinkState → LinkState} (h : ∀ ls, StreamKept ls (f ls)) :
    JournalKept s (onEveryLink f s) := .of_streams rfl fun l => by
  rw [State.link_onEveryLink]
  exact h _

/-- An append keeps the journal sound: each cursor that named the event that gives way moves up (R65, R71). -/
theorem appendEvent_journalKept (e : Event) : JournalKept s (appendEvent e s) := fun hs => by
  obtain ⟨hring, hstreams⟩ := journalSound_iff.mp hs
  refine journalSound_iff.mpr ⟨hring.push e, fun l st' hst' => ?_⟩
  rw [appendEvent_ajn]
  rw [appendEvent_link] at hst'
  by_cases hover : ∃ st, (s.link l).stream = some st ∧ s.ajn.overwrites = some st.cursor
  · obtain ⟨st, hst, hover⟩ := hover
    have hroom : ¬s.ajn.ring.length < Config.ringLimit := fun hroom =>
      nomatch (overwrites_of_room hroom).symm.trans hover
    rw [hover, (appendSeen_overwritten hst _).1] at hst'
    cases hst'
    exact (hstreams l st hst).overwritten hroom e
  · have hkept : ∀ st, (s.link l).stream = some st → s.ajn.overwrites ≠ some st.cursor := fun st hst ho => hover ⟨st, hst, ho⟩
    rw [(appendSeen_kept hkept _).1] at hst'
    exact (hstreams l st' hst').push hring (hkept st' hst') e

theorem depthTick_stream (u : State) (ls : LinkState) : (depthTick u ls).stream = ls.stream := by
  unfold depthTick
  dsimp only
  split_ifs <;> rfl

/-- Apart from the ports' own commands the journal stays sound: streams change by appended events alone. -/
theorem journalKept_linkClosed : LinkClosed JournalKept where
  trans := .trans
  blocks hj hl := .of_streams hj fun l => .of_eq (by rw [State.link, State.link, hl])
  raised c _ := onEveryLink_journalKept fun ls => (raise_noticesOnly c ls).streamKept
  appended e _ := appendEvent_journalKept e
  ticked u _ := onEveryLink_journalKept fun ls => .of_eq (depthTick_stream u ls)

/-! ## The ports and the streams -/

theorem popRequest_journalKept (l : Link) : JournalKept s (popRequest l s) := onLink_journalKept fun _ => .of_eq rfl

theorem putReply_journalKept (l : Link) (k : Byte) (r : Reply) : JournalKept s (putReply l k r s) :=
  onLink_journalKept fun _ => .of_eq rfl

theorem serve_journalKept {effect : List Byte → State → State × Reply} (h : EffectRel JournalKept effect) (l : Link)
    (k : Byte) : JournalKept s (serve l k effect s) := by
  rcases serve_cases (s := s) l k effect with hs | ⟨args, hs⟩ <;> rw [hs]
  · exact .refl
  · exact ((popRequest_journalKept l).trans (h args _)).trans (putReply_journalKept l k _)

/-! ### Requests (R68, R69, R166, R169 to R171, R177, R180, R182) -/

theorem withLimit_stream (limit : Limit) (grant : Nat) (ls : LinkState) : (ls.withLimit limit grant).stream = ls.stream := by
  have hdrop : NoticesOnly ls ((List.finRange 8).foldl (LinkState.dropEntry grant) ls) :=
    foldl_noticesOnly (fun a i => by unfold LinkState.dropEntry; split <;> rfl) _ ls
  unfold LinkState.withLimit
  dsimp only
  split <;> exact hdrop.stream

theorem setLinkEffect_journalKept (l : Link) : EffectRel JournalKept (setLinkEffect l) := fun args s => by
  refine journalKept_linkClosed.needs ?_
  split
  · dsimp only
    split
    · exact onLink_journalKept fun ls => .of_eq (withLimit_stream _ _ ls)
    · exact .refl
  · exact .refl

theorem setWindowEffect_journalKept (l : Link) : EffectRel JournalKept (setWindowEffect l) := fun args s => by
  refine journalKept_linkClosed.needs ?_
  split
  · exact .refl
  · refine onLink_journalKept fun ls => .of_eq ?_
    split <;> rfl

theorem depthStreamEffect_journalKept (l : Link) : EffectRel JournalKept (depthStreamEffect l) := fun args s => by
  refine journalKept_linkClosed.needs ?_
  dsimp only
  split
  · exact .refl
  · exact onLink_journalKept fun _ => .of_eq rfl

theorem openStream_stream (next : Seq) (st : Stream) (ls : LinkState) : (ls.openStream next st).stream = some st := by
  unfold LinkState.openStream
  dsimp only
  split
  · exact raise_stream _ _
  · rfl

theorem openJournalEffect_journalKept (l : Link) : EffectRel JournalKept (openJournalEffect l) := fun args s => by
  refine journalKept_linkClosed.needs ?_
  dsimp only
  split
  · exact .refl
  · refine onLink_journalKept_of_sound fun hs st hst => ?_
    rw [openStream_stream] at hst
    cases hst
    exact opened_sound hs.1 _ _

theorem readJournalEffect_journalKept (l : Link) : EffectRel JournalKept (readJournalEffect l) := fun args s => by
  refine journalKept_linkClosed.needs ?_
  split
  · exact .refl
  · next st hst =>
    refine onLink_journalKept_of_sound fun hs st' hst' => ?_
    cases hst'
    exact Stream.sound.advance (hs.2 l st hst) ((Nat.min_le_right _ _).trans (Nat.min_le_left _ _))

theorem closeJournalEffect_journalKept (l : Link) : EffectRel JournalKept (closeJournalEffect l) := fun args s => by
  unfold closeJournalEffect
  split
  · exact onLink_journalKept fun _ => .closed rfl
  · exact .refl

theorem noticeSetEffect_journalKept (l : Link) : EffectRel JournalKept (noticeSetEffect l) := fun args s => by
  refine journalKept_linkClosed.needs ?_
  split
  · exact .refl
  · split
    · exact .refl
    · exact onLink_journalKept fun _ => .of_eq rfl

theorem maskEntry_noticesOnly (mask unmask : Byte) (ls : LinkState) (i : Fin 8) :
    NoticesOnly ls (ls.maskEntry mask unmask i) := by
  unfold LinkState.maskEntry
  dsimp only
  split <;> rfl

theorem sendEligible_noticesOnly (ls : LinkState) (i : Fin 8) : NoticesOnly ls (ls.sendEligible i) := by
  unfold LinkState.sendEligible
  split <;> rfl

theorem withMasks_noticesOnly (enable linkMask : Nat) (mask unmask : Byte) (ls : LinkState) :
    NoticesOnly ls (ls.withMasks enable linkMask mask unmask) := by
  have hset (nt : NoticeTable) : NoticesOnly ls { ls with notice := nt } := rfl
  exact ((hset _).trans (foldl_noticesOnly (maskEntry_noticesOnly mask unmask) _ _)).trans
    (foldl_noticesOnly sendEligible_noticesOnly _ _)

theorem noticeMaskEffect_journalKept (l : Link) : EffectRel JournalKept (noticeMaskEffect l) := fun args s => by
  refine journalKept_linkClosed.needs ?_
  dsimp only
  split
  · exact .refl
  · exact onLink_journalKept fun ls => (withMasks_noticesOnly _ _ _ _ ls).streamKept

theorem clearFlags_stream (set : Byte) (counters : Bool) (ls : LinkState) : (ls.clearFlags set counters).stream = ls.stream := by
  cases counters <;> rfl

theorem clearFaultsEffect_journalKept : EffectRel JournalKept clearFaultsEffect := fun args s => by
  refine journalKept_linkClosed.needs (.of_streams rfl fun l => .of_eq ?_)
  cases l <;> exact clearFlags_stream _ _ _

/-! ### Lines (R162, R163, R165, R172, R179) -/

theorem linkReset_journalKept (l : Link) : JournalKept s (linkReset l s) := by
  have c := journalKept_linkClosed
  have htone : JournalKept s (if holdsTone s l then toneTeardown s else s) := c.ite (c.events.vas _ _)
  have hport (v : State) :
      JournalKept v (onLink l (LinkState.afterReset s.clock) { v with roles := v.roles.without l }) :=
    c.after (b := { v with roles := v.roles.without l }) (onLink_journalKept fun _ => .closed rfl)
  have hroles (b : Bool) (v : State) : JournalKept v (if b then raiseAll .roleChange v else v) := c.ite (c.raised _ _)
  have harrives (v : State) : JournalKept v (if v.sysReset = .awaitingReply l then resetArrives v else v) :=
    c.ite (c.blocks rfl rfl)
  exact (((htone.trans (hport _)).trans (c.setDemand _ _)).trans (hroles _ _)).trans (harrives _)

theorem discardFrame_journalKept (l : Link) : JournalKept s (discardFrame l s) :=
  onLink_journalKept fun _ => .of_eq (raise_stream _ _)

theorem completeFrame_journalKept (l : Link) (payload : List Byte) : JournalKept s (completeFrame l payload s) := by
  unfold completeFrame
  split
  · exact linkReset_journalKept l
  · refine onLink_journalKept fun ls => .of_eq ?_
    dsimp only
    split
    · rfl
    · exact raise_stream _ _

theorem setReceiver_journalKept (l : Link) (rx : Receiver) : JournalKept s (setReceiver l rx s) :=
  onLink_journalKept fun _ => .of_eq rfl

theorem takeByte_journalKept (l : Link) (b : Byte) (stopLow : Bool) : JournalKept s (takeByte l b stopLow s) := by
  unfold takeByte
  split
  · exact journalKept_linkClosed.ite (setReceiver_journalKept l _)
  · split
    · exact setReceiver_journalKept l _
    · exact discardFrame_journalKept l
  · split_ifs
    · exact discardFrame_journalKept l
    · exact setReceiver_journalKept l _
    · exact setReceiver_journalKept l _
  · split
    · exact completeFrame_journalKept l _
    · exact discardFrame_journalKept l

theorem handOver_stream (now : Clock) (f : TxFrame) (rest : List TxFrame) (ls : LinkState) :
    (ls.handOver now f rest).stream = ls.stream := by
  cases f <;> rfl

theorem freed_stream (now : Clock) (ls : LinkState) : (ls.freed now).stream = ls.stream := by
  unfold LinkState.freed
  split <;> rfl

theorem drainOrders_journalKept (l : Link) : JournalKept s (drainOrders l s) := by
  have hframe (n : Nat) : JournalKept s
      (onLink l (fun ls => { ls with tx := ls.tx ++ [.voiceOrders (ordersPayload (s.vas.queue.take n))] }) s) :=
    onLink_journalKept fun _ => .of_eq rfl
  exact ((hframe _).trans (journalKept_linkClosed.events.vas _ _)).trans (journalKept_linkClosed.events.refillStale _)

/-- A microsecond passing frees transmitters (R165). -/
theorem tick_journalKept : JournalKept s (tick s) := by
  rw [tick_eq]
  refine .of_streams rfl fun l => .of_eq ?_
  cases l <;> exact freed_stream _ _

/-! ### Resets (R67, R172, R190) -/

/-- An empty journal with every stream closed is sound. -/
theorem journalSound_of_empty (hj : s.ajn = {}) (h : ∀ l, (s.link l).stream = none) : JournalSound s := by
  refine ⟨hj ▸ reset_journalSound.1, fun l st hst => ?_⟩
  exact nomatch (h l).symm.trans hst

theorem resetBlocks_journalSound : JournalSound (resetBlocks s) :=
  journalSound_of_empty rfl fun l => by cases l <;> rfl

theorem coldBlocks_journalSound : JournalSound (coldBlocks s) :=
  journalSound_of_empty rfl fun l => by cases l <;> rfl

/-! ## Every step keeps the journal sound -/

/-- The command that runs to `u` leaves no other state. -/
theorem JournalKept.of_next {o : Host.Outcome State Fault Refusal} (hu : o = .next u) (ht : o = .next t)
    (h : JournalKept s u) : JournalKept s t := by
  rw [hu] at ht
  cases ht
  exact h

/-- A request whose effect keeps the journal sound. -/
theorem JournalKept.of_serve {effect : List Byte → State → State × Reply} {l : Link} {k : Byte}
    (h : EffectRel JournalKept effect)
    (ht : Host.Outcome.next (serve l k effect s) = (.next t : Host.Outcome State Fault Refusal)) : JournalKept s t :=
  .of_next rfl ht (serve_journalKept h l k)

/-- Every command keeps the journal sound. -/
theorem exec_journalKept {i : Instr} (h : exec i s = .next t) : JournalKept s t := by
  have c := journalKept_linkClosed
  cases i with
  | powerOnReset => exact .of_next rfl h fun _ => c.startUp _ coldBlocks_journalSound
  | resetnLow =>
    refine .of_next rfl h ?_
    dsimp only
    split_ifs
    · exact .refl
    · exact c.blocks rfl rfl
    · exact c.blocks rfl rfl
  | systemResetEffect => exact .of_next rfl h (c.ite fun _ => c.startUp _ resetBlocks_journalSound)
  | receiveByte l b stopLow =>
    exact .of_next rfl h (c.ite ((c.ite (discardFrame_journalKept l)).trans (takeByte_journalKept l b stopLow)))
  | interByteGapTimeout l => exact .of_next rfl h (c.ite (discardFrame_journalKept l))
  | lineBreak l =>
    have hlow : JournalKept s (onLink l (fun ls => { ls with lineLow := true }) s) := onLink_journalKept fun _ => .of_eq rfl
    refine .of_next rfl h ?_
    dsimp only
    split_ifs
    · exact .refl
    · exact hlow.trans (linkReset_journalKept l)
    · exact hlow
  | transmitFrameStart l =>
    refine .of_next rfl h (c.ite ?_)
    split
    · exact onLink_journalKept fun ls => .of_eq (handOver_stream _ _ _ ls)
    · exact .refl
  | pendingNoticeQueued l =>
    refine .of_next rfl h ?_
    split
    · exact onLink_journalKept fun ls => (queueNotice_noticesOnly ls _).streamKept
    · exact .refl
  | voiceOrderDrain =>
    refine .of_next rfl h ?_
    split
    · exact drainOrders_journalKept _
    · exact .refl
  | unknownRequest l =>
    refine .of_next rfl h ?_
    split
    · exact c.ite ((popRequest_journalKept l).trans (putReply_journalKept l _ _))
    · exact .refl
  | hello l => exact .of_serve (c.helloEffect l) h
  | setLink l => exact .of_serve (setLinkEffect_journalKept l) h
  | claimRole l => exact .of_serve (c.claimRoleEffect l) h
  | readKeys l => exact .of_serve (c.readKeysEffect l) h
  | setWindow l => exact .of_serve (setWindowEffect_journalKept l) h
  | readWindow l => exact .of_serve (c.readWindowEffect l) h
  | depthStream l => exact .of_serve (depthStreamEffect_journalKept l) h
  | setScanList l => exact .of_serve c.setScanListEffect h
  | openJournal l => exact .of_serve (openJournalEffect_journalKept l) h
  | readJournal l => exact .of_serve (readJournalEffect_journalKept l) h
  | closeJournal l => exact .of_serve (closeJournalEffect_journalKept l) h
  | setLayers l => exact .of_serve c.setLayersEffect h
  | readVoices l => exact .of_serve (c.readVoicesEffect l) h
  | voiceEnded l => exact .of_serve (c.voiceEndedEffect l) h
  | railDemand l => exact .of_serve (c.railDemandEffect l) h
  | railRecover l => exact .of_serve c.railRecoverEffect h
  | readRail l => exact .of_serve c.readRailEffect h
  | takeRecord l => exact .of_serve c.takeRecordEffect h
  | takeStop l => exact .of_serve c.takeStopEffect h
  | takeLoad l => exact .of_serve c.takeLoadEffect h
  | writeTakeRecords l => exact .of_serve c.writeTakeRecordsEffect h
  | loadEnd l => exact .of_serve c.loadEndEffect h
  | takeKeep l => exact .of_serve (c.keepEffect l true) h
  | takeUnkeep l => exact .of_serve (c.keepEffect l false) h
  | takeErase l => exact .of_serve c.takeEraseEffect h
  | readTakeDirectory l => exact .of_serve (c.readTakeDirectoryEffect l) h
  | readTakeRecords l => exact .of_serve (c.readTakeRecordsEffect l) h
  | takePlay l => exact .of_serve c.takePlayEffect h
  | stop l => exact .of_serve c.stopEffect h
  | pause l => exact .of_serve c.pauseEffect h
  | resume l => exact .of_serve c.resumeEffect h
  | setTempo l => exact .of_serve c.setTempoEffect h
  | setLoop l => exact .of_serve c.setLoopEffect h
  | clearLoop l => exact .of_serve c.clearLoopEffect h
  | setGuide l => exact .of_serve c.setGuideEffect h
  | calRead l => exact .of_serve (c.calReadEffect l) h
  | calWrite l => exact .of_serve (c.calWriteEffect l) h
  | calCommit l => exact .of_serve (c.calCommitEffect l) h
  | calDefaults l => exact .of_serve (c.calDefaultsEffect l) h
  | commitComplete r equal =>
    have hended (v : State) : JournalKept v (endAwait r v) := c.blocks rfl rfl
    refine .of_next rfl h (c.ite (JournalKept.trans ?_ (hended _)))
    split
    · exact c.after (c.raised _ _)
    · exact c.after (c.raised _ _)
  | noticeSet l => exact .of_serve (noticeSetEffect_journalKept l) h
  | noticeMask l => exact .of_serve (noticeMaskEffect_journalKept l) h
  | readFaults l => exact .of_serve c.readFaultsEffect h
  | clearFaults l => exact .of_serve clearFaultsEffect_journalKept h
  | systemReset l => exact .of_serve (c.systemResetEffect l) h
  | frameStart => exact .of_next rfl h (c.ite (c.startFrame _))
  | settleEnd =>
    refine .of_next rfl h ?_
    split
    · exact c.blocks rfl rfl
    · exact .refl
  | conversionEnd results =>
    refine .of_next rfl h ?_
    split
    · exact c.trans (foldl_rel c.refl c.trans (c.convertResult _ _) results s) (c.nextEntry _ _)
    · exact .refl
  | recorderSecondStep =>
    refine .of_next rfl h ?_
    split
    · exact c.blocks rfl rfl
    · exact .refl
  | millisecondStep =>
    refine .of_next rfl h ?_
    split
    · exact c.after (c.events.finishStep _)
    · exact .refl
  | silentInputChange low =>
    refine .of_next rfl h ?_
    split
    · exact .refl
    · exact c.blocks rfl rfl
  | leverDebounceExpiry => exact .of_next rfl h (c.ite (c.after (c.deriveLever _)))
  | railHomingStart => exact .of_next rfl h (c.ite (c.startHoming _))
  | railQuietMoveStart =>
    refine .of_next rfl h ?_
    split
    · exact c.startMove _ _ _
    · exact .refl
  | railCurrentChange current => exact .of_next rfl h (c.blocks rfl rfl)
  | inrushBlankingEnd => exact .of_next rfl h (c.ite (c.blocks rfl rfl))
  | stall =>
    refine .of_next rfl h ?_
    split
    · exact c.stallLeg _ _
    · exact .refl
  | maximumTravelTimeout => exact .of_next rfl h (c.ite (c.railFault _ _))
  | backoffTimeEnd =>
    refine .of_next rfl h ?_
    split
    · exact c.retreatEnd _ _ _
    · exact .refl
  | retryDelayEnd =>
    refine .of_next rfl h ?_
    split
    · split
      · exact c.startMove _ _ _
      · exact c.enterWaiting _ _ _
    · exact .refl
  | railHeld =>
    refine .of_next rfl h ?_
    split
    · exact c.after (c.raised _ _)
    · exact .refl
  | resetnHigh => exact .of_next rfl h (c.after (b := { s with resetnLow := false }) (c.ite (c.loadRegions _)))
  | lineReturnsHigh l => exact .of_next rfl h (c.ite (onLink_journalKept fun _ => .of_eq rfl))
  | powerLoss =>
    refine .of_next rfl h ?_
    split
    · exact .refl
    · exact fun _ => coldBlocks_journalSound (s := cutCommits s)
  | regionsLoaded => exact .of_next rfl h (c.ite (c.after (b := takeUp s) (c.startFrame _)))

theorem idle_journalKept (h : idle s = .next t) : JournalKept s t := by
  unfold idle at h
  split at h
  · split at h
    · exact exec_journalKept h
    · cases h
      split
      · exact .refl
      · exact tick_journalKept
  · cases h
    exact .refl

/-- Settles O8: the ports' own commands one by one, all else by what reaches journal and ports. -/
theorem journalStaysSound : Obligations.JournalStaysSound := by
  intro s t hs h
  unfold step at h
  split at h
  · exact idle_journalKept h hs
  · exact exec_journalKept h hs

end Sys2Proof.Machine
end

section
namespace Sys2Proof.Machine

/-! ## What holds across everything but the commands of the voice assigner and of the TONE role

A relation that says nothing of the blocks apart from the voice assigner and the roles is closed under most of the part:
the other blocks reach the voice assigner by recomputed slots, handed events and changed soft levels only. -/

/-- A relation that holds where voice assigner and roles are as they were, and across each operation by which the other
blocks reach the voice assigner. -/
structure VoiceClosed (R : State → State → Prop) : Prop where
  trans : ∀ {a b c}, R a b → R b c → R a c
  blocks : ∀ {a b : State}, b.vas = a.vas → b.roles = a.roles → R a b
  recomputed : ∀ p s, R s (recomputeWhere p s)
  handed : ∀ e s, R s (voiceEvent e s)
  softened : ∀ src s, R s (softChanged src s)

namespace VoiceClosed

variable {R : State → State → Prop} (c : VoiceClosed R)

include c

protected theorem refl (s : State) : R s s := c.blocks rfl rfl

/-- A change that leaves voice assigner and roles, and what follows it. -/
protected theorem after {a b t : State} (h : R b t) (hvas : b.vas = a.vas := by rfl) (hroles : b.roles = a.roles := by rfl) :
    R a t := c.trans (c.blocks hvas hroles) h

/-- A command that may do nothing. -/
protected theorem ite {p : Prop} [Decidable p] {s t : State} (h : R s t) : R s (if p then t else s) := by
  split
  · exact h
  · exact c.refl s

protected theorem rail {s t : State} (h : RailOnly s t) : R s t := by
  obtain ⟨_, _, _, _, rfl⟩ := h
  exact c.blocks rfl rfl

protected theorem take {s t : State} (h : TakeOnly s t) : R s t := by
  obtain ⟨_, _, _, rfl⟩ := h
  exact c.blocks rfl rfl

protected theorem report {s t : State} (h : ReportOnly s t) : R s t := c.rail h.rail

protected theorem raised (e : EventClass) (s : State) : R s (raiseAll e s) := c.blocks rfl rfl

protected theorem ply (f : Ply → Ply) (s : State) : R s (onPly f s) := c.blocks rfl rfl

protected theorem key (k : Key) (f : KeyRec → KeyRec) (s : State) : R s (onKey k f s) := c.blocks rfl rfl

/-! ### Events (R22, R49, R149) -/

protected theorem pedalEvent (e : Event) (s : State) : R s (pedalEvent e s) :=
  c.trans (c.after (c.handed e _)) (c.take (recorderEvent_only e))

protected theorem playbackEvent (k : EventKind) (key : Option Nat) (v : Nat) (guide : Bool) (s : State) :
    R s (playbackEvent k key v guide s) := c.pedalEvent _ _

protected theorem playMark (m : Mark) (n : TakeNo) (s : State) : R s (playMark m n s) := c.pedalEvent _ _

/-! ### The player (08) -/

protected theorem setPlayKeys (S : KeySet) (s : State) : R s (setPlayKeys S s) := by
  unfold setPlayKeys
  dsimp only
  split
  · exact c.blocks rfl rfl
  · exact c.after (c.recomputed _ _)

protected theorem setPlaySost (on : Bool) (S : KeySet) (s : State) : R s (setPlaySost on S s) := by
  unfold setPlaySost
  dsimp only
  split
  · exact c.blocks rfl rfl
  · exact c.after (c.recomputed _ _)

protected theorem setPlayDamper (x : Nat) (s : State) : R s (setPlayDamper x s) := by
  unfold setPlayDamper
  dsimp only
  split
  · exact c.blocks rfl rfl
  · exact c.after (c.recomputed _ _)

protected theorem setPlaySoft (x : Nat) (s : State) : R s (setPlaySoft x s) := by
  unfold setPlaySoft
  dsimp only
  split
  · exact c.blocks rfl rfl
  · exact c.after (c.softened _ _)

/-- The playback damper, sostenuto and soft values set anew (R147, R154). -/
protected theorem setPlayPedals (soft damper : Nat) (on : Bool) (s : State) :
    R s (setPlaySoft soft (setPlaySost on KeySet.empty (setPlayDamper damper s))) :=
  c.trans (c.trans (c.setPlayDamper _ _) (c.setPlaySost _ _ _)) (c.setPlaySoft _ _)

protected theorem playRecord (r : TakeRec) (s : State) : R s (playRecord r s) := by
  unfold playRecord
  dsimp only
  split
  · split
    · exact c.playbackEvent _ _ _ _ _
    · exact c.trans (c.setPlayKeys _ _) (c.playbackEvent _ _ _ _ _)
  · split
    · split
      · exact c.setPlayKeys _ _
      · exact c.trans (c.setPlayKeys _ _) (c.playbackEvent _ _ _ _ _)
    · exact c.trans (c.setPlayKeys _ _) (c.playbackEvent _ _ _ _ _)
  · exact c.trans (c.setPlayDamper _ _) (c.playbackEvent _ _ _ _ _)
  · exact c.trans (c.setPlaySoft _ _) (c.playbackEvent _ _ _ _ _)
  · split
    · split
      · exact c.playbackEvent _ _ _ _ _
      · exact c.trans (c.setPlaySost _ _ _) (c.playbackEvent _ _ _ _ _)
    · split
      · exact c.trans (c.setPlaySost _ _ _) (c.playbackEvent _ _ _ _ _)
      · exact c.playbackEvent _ _ _ _ _
  · exact c.refl _

protected theorem advanceCursor (s : State) : R s (advanceCursor s) := by
  unfold advanceCursor
  dsimp only
  split
  · split <;> exact c.blocks rfl rfl
  · exact c.blocks rfl rfl

protected theorem collectChord (n : Nat) (rs : List (TakeRec × Nat)) (s : State) : R s (collectChord n rs s) := by
  unfold collectChord
  dsimp only
  split
  · exact c.refl _
  · exact c.trans (c.trans (c.ply _ _) (c.playMark _ _ _)) (c.raised _ _)

protected theorem playFrom (rs : List (TakeRec × Nat)) (s : State) : R s (playFrom rs s) := by
  induction rs generalizing s with
  | nil => exact c.refl s
  | cons x rs ih =>
    unfold playFrom
    split
    · exact c.refl s
    · split
      · split
        · exact c.collectChord _ _ _
        · exact c.trans (c.trans (c.playRecord _ _) (c.advanceCursor _)) (ih _)
      · exact c.refl s

protected theorem playDue (s : State) : R s (playDue s) := by
  unfold playDue
  split
  · exact c.playFrom _ _
  · exact c.refl _

protected theorem endPlayback (m : Mark) (s : State) : R s (endPlayback m s) := by
  unfold endPlayback
  split
  · exact c.refl _
  · have hvalues := c.trans (c.trans (c.trans (c.setPlayKeys KeySet.empty s) (c.setPlaySost false KeySet.empty _))
      (c.setPlayDamper 0 _)) (c.setPlaySoft 0 _)
    exact c.trans (c.trans (c.trans hvalues (c.ply _ _)) (c.playMark _ _ _)) (c.trans (c.ply _ _) (c.raised _ _))

protected theorem endIfPast (s : State) : R s (endIfPast s) := by
  unfold endIfPast
  split
  · exact c.ite (c.endPlayback _ _)
  · exact c.refl _

protected theorem playDueThenEnd (s : State) : R s (playDueThenEnd s) := c.trans (c.playDue _) (c.endIfPast _)

protected theorem endWait (m : Mark) (n : TakeNo) (s : State) : R s (endWait m n s) :=
  c.trans (c.trans (c.trans (c.playMark _ _ _) (c.ply _ _)) (c.raised _ _)) (c.playDueThenEnd _)

protected theorem playerEvent (e : Event) (s : State) : R s (playerEvent e s) := by
  unfold playerEvent
  split
  · split
    · split
      · dsimp only
        split
        · exact c.trans (c.ply _ _) (c.endWait _ _ _)
        · exact c.ply _ _
      · exact c.refl _
    · exact c.refl _
  · exact c.refl _

protected theorem trackerEvent (e : Event) (s : State) : R s (trackerEvent e s) := c.trans (c.pedalEvent e s) (c.playerEvent e _)

protected theorem loopJump (lp : Loop) (s : State) : R s (loopJump lp s) := by
  have hcleared : R s (setPlayDamper 0 (setPlaySost s.ply.sostOn KeySet.empty (setPlayKeys KeySet.empty s))) :=
    c.trans (c.trans (c.setPlayKeys _ _) (c.setPlaySost _ _ _)) (c.setPlayDamper _ _)
  have hwaited (w : Bool) (v : State) : R v (if w then playStateRaised v else v) := c.ite (c.blocks rfl rfl)
  unfold loopJump
  dsimp only
  split
  · exact c.refl s
  · exact c.trans (c.trans (c.trans (c.trans hcleared (c.trans (c.ply _ _) (c.setPlayPedals _ _ _ _))) (c.playMark _ _ _)) (hwaited _ _))
      (c.ite (c.playDue _))

protected theorem setUpTake (n : TakeNo) (start : Nat) (s : State) : R s (setUpTake n start s) :=
  c.trans (c.trans (c.trans (c.trans (c.ply _ _) (c.setPlayPedals _ _ _ _)) (c.ply _ _)) (c.playMark _ _ _)) (c.raised _ _)

protected theorem startPlayback (n : TakeNo) (tempo : Option Nat) (start : Nat) (s : State) :
    R s (startPlayback n tempo start s) := by
  have hstop : R s (if s.ply.session.isSome then stopPlayback s else s) := c.ite (c.endPlayback _ _)
  have hplay (v : State) : R v (playDueThenEnd (setUpTake n start v)) := c.trans (c.setUpTake _ _ _) (c.playDueThenEnd _)
  unfold startPlayback
  dsimp only
  cases tempo with
  | none => exact c.trans hstop (hplay _)
  | some x => exact c.trans (c.trans hstop (c.ply _ _)) (hplay _)

protected theorem setLoop (ss : Session) (start stop : Nat) (s : State) : R s (setLoop ss start stop s) := by
  unfold setLoop
  dsimp only
  split
  · exact c.trans (c.ply _ _) (c.loopJump _ _)
  · exact c.blocks rfl rfl

protected theorem clearExpected (ss : Session) (s : State) : R s (clearExpected ss s) := by
  unfold clearExpected
  dsimp only
  split
  · exact c.trans (c.ply _ _) (c.endWait _ _ _)
  · exact c.trans (c.trans (c.ply _ _) (c.playMark _ _ _)) (c.ply _ _)
  · exact c.trans (c.ply _ _) (c.playMark _ _ _)

protected theorem setGuide (mode : GuideMode) (low high : Key) (window : Nat) (s : State) :
    R s (setGuide mode low high window s) := by
  unfold setGuide
  dsimp only
  split
  · split
    · exact c.trans (c.ply _ _) (c.clearExpected _ _)
    · exact c.blocks rfl rfl
  · exact c.blocks rfl rfl

protected theorem finishStep (s : State) : R s (finishStep s) := by
  unfold finishStep
  dsimp only
  split
  · split
    · exact c.trans (c.playDue _) (c.loopJump _ _)
    · exact c.trans (c.playDue _) (c.endIfPast _)
  · exact c.playDue _

/-! ### Keys (02) -/

protected theorem setKeyLift (k : Key) (x : Nat) (s : State) : R s (setKeyLift k x s) := by
  unfold setKeyLift
  split
  · exact c.refl _
  · exact c.after (c.recomputed _ _)

protected theorem deriveKey (k : Key) (d : Nat) (s : State) : R s (deriveKey k d s) := c.after (c.setKeyLift _ _ _)

protected theorem keySampleNormal (k : Key) (time : Clock) (d : Nat) (s : State) : R s (keySampleNormal k time d s) := by
  have hstate (x : Nat) (f g : KeyRec → KeyRec) : R s (onKey k g (setKeyLift k x (onKey k f s))) :=
    c.trans (c.trans (c.key _ _ _) (c.setKeyLift _ _ _)) (c.key _ _ _)
  unfold keySampleNormal
  dsimp only
  split
  · split
    · exact c.trans (hstate _ _ _) (c.trans (c.key _ _ _) (c.trackerEvent _ _))
    · exact hstate _ _ _
  · exact hstate _ _ _

protected theorem keyDepthSample (k : Key) (time : Clock) (first : Bool) (d : Nat) (s : State) :
    R s (keyDepthSample k time first d s) := by
  unfold keyDepthSample
  dsimp only
  split_ifs
  · exact c.blocks rfl rfl
  · exact c.deriveKey _ _ _
  · exact c.deriveKey _ _ _
  · exact c.keySampleNormal _ _ _ _

protected theorem hammerSample (k : Key) (time : Clock) (first : Bool) (height : Nat) (s : State) :
    R s (hammerSample k time first height s) := by
  have hmissed (b : Bool) (f : KeyRec → KeyRec) : R s (if b then
      { onKey k f s with faults := { (onKey k f s).faults with missed := satInc (onKey k f s).faults.missed } }
      else onKey k f s) := by
    cases b <;> exact c.blocks rfl rfl
  unfold hammerSample hammerSampleNormal
  dsimp only
  split
  · exact c.blocks rfl rfl
  · split
    · exact c.trans (hmissed _ _) (c.trans (c.key _ _ _) (c.trackerEvent _ _))
    · exact hmissed _ _

protected theorem keyChannelFailed (hammer : Bool) (k : Key) (time : Clock) (s : State) :
    R s (keyChannelFailed hammer k time s) := by
  have hreleased (e : Event) (v : State) : R v (if (v.key k).sounding then
      onKey k (fun r => { r with sounding := false }) (trackerEvent e v) else v) :=
    c.ite (c.trans (c.trackerEvent _ _) (c.key _ _ _))
  have hup (f : KeyRec → KeyRec) (v : State) : R v (setKeyLift k 0 (onKey k f v)) := c.after (c.setKeyLift _ _ _)
  have hhammer (v : State) : R v (if hammer then onKey k (fun r => { r with hammerTime := none }) v else v) :=
    c.ite (c.blocks rfl rfl)
  unfold keyChannelFailed
  dsimp only
  exact c.trans (c.trans (c.trans (c.trans (c.trans (c.trans (c.key _ _ _) (c.rail quietMove_only)) (hreleased _ _)) (hup _ _))
    (hhammer _)) (c.trackerEvent _ _)) (c.raised _ _)

protected theorem keyChannelRecovered (hammer : Bool) (k : Key) (time : Clock) (s : State) :
    R s (keyChannelRecovered hammer k time s) := by
  have hback (f : KeyRec → KeyRec) : R s (quietMove (onKey k f s)) := c.after (c.rail quietMove_only)
  have hevent (failed : Bool) (e : Event) (v : State) : R v (if failed then v else trackerEvent e v) := by
    cases failed
    · exact c.trackerEvent e v
    · exact c.refl v
  exact c.trans (hback _) (hevent _ _ _)

/-! ### Pedals (03) -/

protected theorem setPedalLift (p : Pedal) (x : Nat) (s : State) : R s (setPedalLift p x s) := by
  unfold setPedalLift
  dsimp only
  split
  · exact c.blocks rfl rfl
  · cases p with
    | damper => exact c.after (c.recomputed _ _)
    | soft => exact c.after (c.softened _ _)
    | sostenuto => exact c.blocks rfl rfl

protected theorem reportPedal (p : Pedal) (x : Nat) (time : Clock) (s : State) : R s (reportPedal p x time s) :=
  c.after (c.pedalEvent _ _)

protected theorem setSostSet (S : KeySet) (s : State) : R s (setSostSet S s) := by
  unfold setSostSet
  dsimp only
  split
  · exact c.blocks rfl rfl
  · exact c.after (c.recomputed _ _)

protected theorem sostenutoOn (time : Clock) (s : State) : R s (sostenutoOn time s) :=
  c.trans (c.after (c.setSostSet _ _)) (c.pedalEvent _ _)

protected theorem sostenutoOff (time : Clock) (s : State) : R s (sostenutoOff time s) :=
  c.trans (c.after (c.setSostSet _ _)) (c.pedalEvent _ _)

protected theorem sostenutoTest (time : Clock) (d : Nat) (s : State) : R s (sostenutoTest time d s) := by
  unfold sostenutoTest
  dsimp only
  split_ifs
  · exact c.sostenutoOff _ _
  · exact c.refl _
  · exact c.sostenutoOn _ _
  · exact c.refl _

protected theorem pedalSample (p : Pedal) (time : Clock) (first : Bool) (d : Nat) (s : State) :
    R s (pedalSample p time first d s) := by
  have hdepth : R s (setPedalDepth p d s) := c.blocks rfl rfl
  by_cases hp : p = .sostenuto
  · subst hp
    cases first
    · exact c.trans hdepth (c.sostenutoTest _ _ _)
    · exact hdepth
  · have hlift (x : Nat) := c.trans hdepth (c.setPedalLift p x _)
    rw [pedalSample_of_ne hp]
    dsimp only
    split_ifs
    · exact c.trans (hlift _) (c.blocks rfl rfl)
    · exact c.trans (hlift _) (c.reportPedal _ _ _ _)
    · exact hlift _

protected theorem pedalChannelFailed (p : Pedal) (time : Clock) (s : State) : R s (pedalChannelFailed p time s) := by
  have hfailed : R s (onPdu (fun u => u.modify p fun r => { r with failed := true }) s) := c.blocks rfl rfl
  unfold pedalChannelFailed
  dsimp only
  refine c.trans ?_ (c.report ((reportFault_only _).trans (raiseAll_only _).report))
  split
  · exact c.trans hfailed (c.ite (c.sostenutoOff _ _))
  · exact c.trans (c.trans hfailed (c.setPedalLift _ _ _)) (c.ite (c.reportPedal _ _ _ _))

/-! ### Conversions and walks (01) -/

protected theorem convertKey (k : Key) (time : Clock) (raw : Nat) (s : State) : R s (convertKey k time raw s) :=
  c.after
    (convert_rel c.refl c.trans (failed := fun v => keyChannelFailed false k time (reportFault .sensorFail v))
      (fun _ => c.after (c.keyChannelFailed _ _ _ _)) (c.keyChannelRecovered _ _ _)
      (c.keyDepthSample _ _ _ _) _ _ _
      (onSfe (fun f => { f with keyCh := f.keyCh.set k (channelTest s.sfe.keyCh[k] raw).record }) s))

protected theorem convertHammer (k : Key) (time : Clock) (raw : Nat) (s : State) : R s (convertHammer k time raw s) :=
  c.after
    (convert_rel c.refl c.trans (failed := fun v => keyChannelFailed true k time (reportFault .sensorFail v))
      (fun _ => c.after (c.keyChannelFailed _ _ _ _)) (c.keyChannelRecovered _ _ _)
      (fun _ => c.trans (c.hammerSample _ _ _ _ _) (c.rail quietMove_only)) _ _ _
      (onSfe (fun f => { f with hammerCh := f.hammerCh.set k (channelTest s.sfe.hammerCh[k] raw).record }) s))

protected theorem convertPedal (p : Pedal) (time : Clock) (raw : Nat) (s : State) : R s (convertPedal p time raw s) :=
  c.after
    (convert_rel c.refl c.trans (failed := fun v => pedalChannelFailed p time (reportFault .sensorFail v))
      (fun _ => c.after (c.pedalChannelFailed _ _ _)) (recovered := pedalChannelRecovered p)
      (fun _ => c.blocks rfl rfl) (c.pedalSample _ _ _ _) _ _ _
      (onSfe (fun f => { f with pedalCh := f.pedalCh.set p.index (channelTest s.sfe.pedalCh[p.index] raw).record }) s))

protected theorem convertResult (g : Group) (time : Clock) (s : State) (r : AinResult) :
    R s (convertResult g time s r) := by
  unfold convertResult
  cases g with
  | k n => exact c.convertKey _ _ _ _
  | h n => exact c.convertHammer _ _ _ _
  | p =>
    cases groupPedal r.ain with
    | none => exact c.refl _
    | some p => exact c.convertPedal _ _ _ _

protected theorem startFrame (s : State) : R s (startFrame s) := by
  rw [startFrame_eq]
  exact c.blocks rfl rfl

protected theorem nextEntry (pos : WalkPos) (s : State) : R s (nextEntry pos s) := by
  have hend (looped : Bool) : R s (endWalk looped s) := by
    obtain ⟨_, _, _, _, _, he⟩ := endWalk_frame (s := s) looped
    rw [he]
    exact c.blocks rfl rfl
  unfold nextEntry
  dsimp only
  split_ifs
  · exact hend false
  · exact hend true
  · rw [beginEntry_eq]
    exact c.blocks rfl rfl

end VoiceClosed

end Sys2Proof.Machine
end

section
namespace Sys2Proof.Machine

variable {s t u : State}

/-! ## The order queue within its 48 places (R91, R92, R94) -/

/-- The order queue holds at most its 48 orders (R91). -/
def OrdersFit (s : State) : Prop := s.vas.queue.length ≤ Config.queueLimit

theorem queueOrder_fit (o : VoiceOrder) (h : queueRoom s = true) : OrdersFit (queueOrder o s) := by
  have hroom : s.vas.queue.length < Config.queueLimit := of_decide_eq_true h
  have hjoined : OrdersFit (onQueue (· ++ [o]) s) := by
    simp only [OrdersFit, onQueue_queue, List.length_append, List.length_singleton]
    omega
  rw [queueOrder_eq]
  split
  · exact hjoined
  · exact hjoined

/-- A VOICE DAMP takes the place of its own, a free one, or none (R92). -/
theorem dampOrder_fit (n : Slot) (x : Nat) (h : OrdersFit s) : OrdersFit (dampOrder n x s) := by
  unfold dampOrder
  dsimp only
  split
  · simpa [OrdersFit] using h
  · split
    · rename_i hroom
      exact queueOrder_fit _ hroom
    · exact h

theorem recomputeSlot_fit (n : Slot) (h : OrdersFit s) : OrdersFit (recomputeSlot n s) := by
  unfold recomputeSlot
  dsimp only
  split
  · exact h
  · split
    · exact dampOrder_fit n _ h
    · exact h

theorem recomputeIf_fit (p : Voice → Bool) (n : Slot) (h : OrdersFit s) : OrdersFit (recomputeIf p s n) := by
  unfold recomputeIf
  split
  · split
    · exact recomputeSlot_fit n h
    · exact h
  · exact h

theorem recomputeWhere_fit (p : Voice → Bool) (h : OrdersFit s) : OrdersFit (recomputeWhere p s) :=
  foldl_rel (R := fun a b => OrdersFit a → OrdersFit b) (fun _ => id) (fun hab hbc => hbc ∘ hab)
    (fun _ n => recomputeIf_fit p n) _ s h

/-- A voice is assigned only while the queue has room for its VOICE START (R94). -/
theorem assignSlot_fit (n : Slot) (li : Fin 4) (k : Key) (src : Source) (value : Nat) (retrigger steal : Bool)
    (h : queueRoom s = true) : OrdersFit (assignSlot n li k src value retrigger steal s) :=
  recomputeSlot_fit n (queueOrder_fit _ h)

theorem strikeLayer_fit (k : Key) (src : Source) (value : Nat) (acc : State × List Slot) (li : Fin 4) (h : OrdersFit acc.1) :
    OrdersFit (strikeLayer k src value acc li).1 := by
  unfold strikeLayer
  dsimp only
  split
  · split
    · exact h
    · rename_i hfull
      have hroom : queueRoom acc.1 = true := by simpa using hfull
      split
      · exact assignSlot_fit _ _ _ _ _ _ _ hroom
      · split
        · exact assignSlot_fit _ _ _ _ _ _ _ hroom
        · split
          · exact assignSlot_fit _ _ _ _ _ _ _ hroom
          · exact h
  · exact h

theorem voiceStrike_fit (k : Key) (src : Source) (value : Nat) (h : OrdersFit s) : OrdersFit (voiceStrike k src value s) := by
  have hlayers (ls : List (Fin 4)) (acc : State × List Slot) (ha : OrdersFit acc.1) :
      OrdersFit (ls.foldl (strikeLayer k src value) acc).1 := by
    induction ls generalizing acc with
    | nil => exact ha
    | cons l ls ih => exact ih _ (strikeLayer_fit k src value acc l ha)
  unfold voiceStrike
  split
  · exact hlayers _ (s, []) h
  · exact h

theorem softOrder_fit (src : Source) (h : OrdersFit s) : OrdersFit (softOrder src s) := by
  unfold softOrder
  dsimp only
  split
  · rename_i hroom
    exact queueOrder_fit _ (by cases src <;> exact hroom)
  · cases src <;> exact h

theorem softChanged_fit (src : Source) (h : OrdersFit s) : OrdersFit (softChanged src s) := by
  unfold softChanged
  dsimp only
  split
  · exact softOrder_fit src h
  · exact h

theorem softClaimed_fit (src : Source) (h : OrdersFit s) : OrdersFit (softClaimed src s) := by
  unfold softClaimed
  split
  · exact softOrder_fit src h
  · exact h

theorem refillSlot_fit (n : Slot) (h : OrdersFit s) : OrdersFit (refillSlot s n) := by
  by_cases ho : owesDamp s n = true ∧ s.vas.queue.length < 32
  · obtain ⟨howes, hfew⟩ := ho
    obtain ⟨v, hv⟩ := Option.isSome_iff_exists.mp (Bool.and_eq_true_iff.mp howes).2
    have hlimit : Config.queueLimit = 48 := rfl
    rw [refillSlot_owed howes hfew]
    simp only [OrdersFit, onQueue_queue, setSlot_queue, owedDamp, hv, Option.map_some, Option.toList_some, List.length_append,
      List.length_singleton]
    omega
  · rw [refillSlot_alone ((not_and_or.mp ho).imp Bool.eq_false_iff.mpr Nat.not_lt.mp)]
    exact h

/-- The orders of a frame leave the queue, and the refill stops at 32 (R93, R95). -/
theorem drainOrders_fit (l : Link) (h : OrdersFit s) : OrdersFit (drainOrders l s) := by
  have hsent : OrdersFit (ordersSent l s) := by
    have hdrop : (ordersSent l s).vas.queue = s.vas.queue.drop (ordersPerFrame (s.link l).limit) := rfl
    rw [OrdersFit, hdrop, List.length_drop]
    exact (Nat.sub_le _ _).trans h
  rw [drainOrders_eq, refillStale_eq]
  exact foldl_rel (R := fun a b => OrdersFit a → OrdersFit b) (fun _ => id) (fun hab hbc => hbc ∘ hab)
    (fun _ n => refillSlot_fit n) _ _ hsent

/-! ## The voice table while no link holds TONE (R80, R89, R96, R99) -/

/-- Every slot is FREE and no order waits. -/
def VoicesClear (s : State) : Prop := s.vas.queue = [] ∧ ∀ n, (s.slot n).voice = none

theorem voicesSound_iff : VoicesSound s ↔ OrdersFit s ∧ (s.roles.tone = none → VoicesClear s) := Iff.rfl

/-- With every slot FREE there is nothing to recompute (R89). -/
theorem recomputeWhere_clear (p : Voice → Bool) (h : VoicesClear s) : recomputeWhere p s = s := by
  obtain ⟨-, hfree⟩ := h
  have hone (n : Slot) : recomputeIf p s n = s := by
    simp only [recomputeIf, hfree n]
  have hall (ns : List Slot) : ns.foldl (recomputeIf p) s = s := by
    induction ns with
    | nil => rfl
    | cons n ns ih => rw [List.foldl_cons, hone, ih]
  exact hall _

/-- Without a TONE link no voice is assigned (R80). -/
theorem voiceEvent_noTone (e : Event) (h : s.roles.tone = none) : voiceEvent e s = s := by
  unfold voiceEvent voiceStrike
  simp only [h, Option.isSome_none, Bool.false_eq_true, if_false]
  split
  · split <;> rfl
  · rfl

theorem VoicesClear.of_table (h : VoicesClear s) (hqueue : t.vas.queue = s.vas.queue) (hslots : t.vas.slots = s.vas.slots) :
    VoicesClear t := by
  obtain ⟨hempty, hfree⟩ := h
  refine ⟨hqueue.trans hempty, fun n => ?_⟩
  rw [State.slot, hslots]
  exact hfree n

theorem VoicesClear.sound (h : VoicesClear s) : VoicesSound s :=
  voicesSound_iff.mpr ⟨by rw [OrdersFit, h.1]; exact Nat.zero_le _, fun _ => h⟩

theorem toneTeardown_clear : VoicesClear (toneTeardown s) :=
  ⟨rfl, fun n => by simp [toneTeardown, State.slot, VoiceSlot.tornDown]⟩

/-! ## What keeps the voices sound -/

/-- The voices are sound after, if they were before. -/
def VoicesKept (s t : State) : Prop := VoicesSound s → VoicesSound t

theorem VoicesKept.refl : VoicesKept s s := id
theorem VoicesKept.trans (h : VoicesKept s t) (g : VoicesKept t u) : VoicesKept s u := g ∘ h

/-- Voices and roles as they were: the voices stay sound. -/
theorem VoicesKept.of_eq (hvas : t.vas = s.vas) (hroles : t.roles = s.roles) : VoicesKept s t := fun h => by
  unfold VoicesSound State.slot at *
  rwa [hvas, hroles]

/-- An operation of the voice assigner keeps the voices sound when it keeps the queue within its places and does nothing
while no link holds TONE. -/
theorem VoicesKept.of_fit (hroles : t.roles = s.roles) (hfit : OrdersFit s → OrdersFit t)
    (hclear : s.roles.tone = none → VoicesClear s → t = s) : VoicesKept s t := fun h => by
  obtain ⟨hf, hc⟩ := voicesSound_iff.mp h
  refine voicesSound_iff.mpr ⟨hfit hf, fun ht => ?_⟩
  rw [hroles] at ht
  rw [hclear ht (hc ht)]
  exact hc ht

theorem VoiceOnly.roles (h : VoiceOnly s t) : t.roles = s.roles := by
  obtain ⟨_, _, _, rfl⟩ := h
  rfl

/-- Apart from its own commands and those of the TONE role the voice assigner stays sound. -/
theorem voicesKept_voiceClosed : VoiceClosed VoicesKept where
  trans := .trans
  blocks := .of_eq
  recomputed p _ := .of_fit (recomputeWhere_only p).roles (recomputeWhere_fit p) fun _ hc => recomputeWhere_clear p hc
  handed e s := .of_fit (voiceEvent_only e).roles
    (fun h => by
      unfold voiceEvent
      split
      · split
        · exact voiceStrike_fit _ _ _ h
        · exact h
      · exact h)
    fun ht _ => voiceEvent_noTone e ht
  softened src _ := .of_fit (softChanged_only src).roles (softChanged_fit src) fun ht _ => softChanged_uncalled src (.inl ht)

/-! ### The commands of the voice assigner and of the TONE role -/

/-- While a link holds TONE only the queue's length matters (R91). -/
theorem voicesSound_of_tone (ht : s.roles.tone ≠ none) (h : OrdersFit s) : VoicesSound s :=
  voicesSound_iff.mpr ⟨h, fun hn => absurd hn ht⟩

/-- A change that leaves the queue and frees no more than it finds: no slot is given a voice. -/
theorem VoicesKept.of_freed (hroles : t.roles = s.roles) (hqueue : t.vas.queue = s.vas.queue)
    (hslots : ∀ n, (s.slot n).voice = none → (t.slot n).voice = none) : VoicesKept s t := fun ⟨hf, hc⟩ =>
  ⟨hqueue ▸ hf, fun ht => ⟨hqueue ▸ (hc (hroles ▸ ht)).1, fun n => hslots n ((hc (hroles ▸ ht)).2 n)⟩⟩

theorem setLayersEffect_voicesKept : EffectRel VoicesKept setLayersEffect := fun args s => by
  unfold setLayersEffect needs
  split
  · exact .refl
  · split
    · exact .refl
    · exact .of_freed rfl rfl fun _ h => h

theorem endPair_voicesKept (acc : State × Nat × Nat) (pair : Slot × Byte) : VoicesKept acc.1 (endPair acc pair).1 := by
  unfold endPair
  dsimp only
  split
  · refine .of_freed rfl rfl fun n h => ?_
    by_cases hn : n = pair.1
    · subst hn
      rw [State.slot_setSlot_same]
      rfl
    · rwa [State.slot_setSlot_ne _ hn]
  · exact .of_eq rfl rfl

theorem voiceEndedEffect_voicesKept (l : Link) : EffectRel VoicesKept (voiceEndedEffect l) := fun args s => by
  have hpairs (pairs : List (Slot × Byte)) (acc : State × Nat × Nat) : VoicesKept acc.1 (pairs.foldl endPair acc).1 := by
    induction pairs generalizing acc with
    | nil => exact .refl
    | cons x rest ih => exact (endPair_voicesKept acc x).trans (ih _)
  unfold voiceEndedEffect
  split
  · split
    · exact .refl
    · exact (hpairs _ (s, 0, 0)).trans (voicesKept_voiceClosed.report (staleReported_only _))
  · exact .refl

/-- A claim of TONE makes the clear table one of a TONE link; orders join it within the 48 (R96, R100). -/
theorem claimRoleEffect_voicesKept (l : Link) : EffectRel VoicesKept (claimRoleEffect l) := fun args s => by
  unfold claimRoleEffect
  split
  · exact .refl
  · split
    · split_ifs
      · exact .refl
      · exact .refl
      · intro h
        refine voicesSound_of_tone ?_ (softClaimed_fit _ (softClaimed_fit _ h.1))
        dsimp only [holdersReply]
        rw [(softClaimed_only _).roles, (softClaimed_only _).roles]
        exact Option.some_ne_none l
    · split_ifs
      · exact .refl
      · exact .refl
      · exact fun h => h
    · exact .refl

/-- A link reset that takes TONE from its holder tears the voices down (R99, R172). -/
theorem linkReset_voicesKept (l : Link) : VoicesKept s (linkReset l s) := fun h => by
  have c := voicesKept_voiceClosed
  have htorn : VoicesSound (onLink l (LinkState.afterReset s.clock)
      { toneTeardown s with roles := (toneTeardown s).roles.without l }) :=
    VoicesClear.sound (VoicesClear.of_table (toneTeardown_clear (s := s)) rfl rfl)
  have hport : VoicesSound (onLink l (LinkState.afterReset s.clock)
      { (if holdsTone s l then toneTeardown s else s) with
        roles := (if holdsTone s l then toneTeardown s else s).roles.without l }) := by
    by_cases hl : holdsTone s l = true
    · rw [if_pos hl]
      exact htorn
    · rw [if_neg hl]
      have htone : s.roles.tone ≠ some l := fun e => hl (by simp [holdsTone, e])
      have hkept : (s.roles.without l).tone = s.roles.tone := if_neg htone
      exact ⟨h.1, fun ht => h.2 (hkept.symm.trans ht)⟩
  have hroles (b : Bool) (v : State) : VoicesKept v (if b then raiseAll .roleChange v else v) := c.ite (c.raised _ _)
  have harrives (v : State) : VoicesKept v (if v.sysReset = .awaitingReply l then resetArrives v else v) :=
    c.ite (c.blocks rfl rfl)
  exact harrives _ (hroles _ _ (c.rail (setDemand_only _) hport))

theorem drainOrders_voicesKept {l : Link} (h : drainDue s = some l) : VoicesKept s (drainOrders l s) := fun hs => by
  have htone : s.roles.tone ≠ none := fun hn => by simp [drainDue, hn] at h
  refine voicesSound_of_tone ?_ (drainOrders_fit l hs.1)
  obtain ⟨-, hframe, -⟩ := drainOrders_builds (s := s) l
  rw [hframe]
  exact htone

/-! ### Resets (R99, R101, R190) -/

/-- A system reset begins its start-up with the voices torn down (R101). -/
theorem resetBlocks_voicesSound : VoicesSound (resetBlocks (rebaseCommits (resetVoices s))) :=
  VoicesClear.sound (VoicesClear.of_table (toneTeardown_clear (s := s)) rfl rfl)

theorem coldBlocks_voicesSound : VoicesSound (coldBlocks s) :=
  VoicesClear.sound ⟨rfl, fun n => by simp [coldBlocks, State.slot, Vas.initial]⟩

end Sys2Proof.Machine
end

section
namespace Sys2Proof.Machine

/-! ## What holds across the requests that leave voices and roles to their commands (R164) -/

namespace VoiceClosed

variable {R : State → State → Prop} (c : VoiceClosed R)

include c

protected theorem serve {effect : List Byte → State → State × Reply} (h : EffectRel R effect) (l : Link) (k : Byte) (s : State) :
    R s (serve l k effect s) := serve_rel c.refl c.trans (fun hl => c.report hl.report) h l k s

protected theorem needs {n : Nat} {args : List Byte} {s : State} {go : State × Reply} (h : R s go.1) :
    R s (needs n args s go).1 := by
  unfold needs
  split
  · exact c.refl _
  · exact h

protected theorem playerNeeds {n : Nat} {args : List Byte} {s : State} {go : State × Reply} (h : R s go.1) :
    R s (playerNeeds n args s go).1 := by
  unfold playerNeeds
  split
  · exact c.refl _
  · exact h

/-! ### Links, journal, notices -/

protected theorem helloEffect (l : Link) : EffectRel R (helloEffect l) := fun _ s => c.refl s

protected theorem setLinkEffect (l : Link) : EffectRel R (setLinkEffect l) := fun args s => by
  refine c.needs ?_
  split
  · dsimp only
    split <;> exact c.blocks rfl rfl
  · exact c.refl _

protected theorem readKeysEffect (l : Link) : EffectRel R (readKeysEffect l) := fun args s => by
  refine c.needs ?_
  dsimp only
  split <;> exact c.refl s

protected theorem setWindowEffect (l : Link) : EffectRel R (setWindowEffect l) := fun args s => by
  refine c.needs ?_
  split <;> exact c.blocks rfl rfl

protected theorem readWindowEffect (l : Link) : EffectRel R (readWindowEffect l) := fun args s => by
  refine c.needs ?_
  dsimp only
  split <;> exact c.refl s

protected theorem depthStreamEffect (l : Link) : EffectRel R (depthStreamEffect l) := fun args s => by
  refine c.needs ?_
  dsimp only
  split <;> exact c.blocks rfl rfl

protected theorem setScanListEffect : EffectRel R setScanListEffect := fun args s => by
  refine c.needs ?_
  dsimp only
  split
  · exact c.refl _
  · split <;> exact c.blocks rfl rfl

protected theorem systemResetEffect (l : Link) : EffectRel R (systemResetEffect l) := fun args s => by
  unfold systemResetEffect done
  split
  · exact c.ite (c.blocks rfl rfl)
  · exact c.refl _

protected theorem openJournalEffect (l : Link) : EffectRel R (openJournalEffect l) := fun args s => by
  refine c.needs ?_
  dsimp only
  split <;> exact c.blocks rfl rfl

protected theorem readJournalEffect (l : Link) : EffectRel R (readJournalEffect l) := fun args s => by
  refine c.needs ?_
  split <;> exact c.blocks rfl rfl

protected theorem closeJournalEffect (l : Link) : EffectRel R (closeJournalEffect l) := fun args s => by
  unfold closeJournalEffect
  split <;> exact c.blocks rfl rfl

protected theorem noticeSetEffect (l : Link) : EffectRel R (noticeSetEffect l) := fun args s => by
  refine c.needs ?_
  split
  · exact c.refl _
  · split <;> exact c.blocks rfl rfl

protected theorem noticeMaskEffect (l : Link) : EffectRel R (noticeMaskEffect l) := fun args s => by
  refine c.needs ?_
  dsimp only
  split <;> exact c.blocks rfl rfl

protected theorem readFaultsEffect : EffectRel R readFaultsEffect := fun args s => by
  refine c.needs ?_
  split <;> exact c.refl s

protected theorem clearFaultsEffect : EffectRel R clearFaultsEffect := fun _ _ => c.needs (c.blocks rfl rfl)

/-! ### Voices read, the rail -/

protected theorem readVoicesEffect (l : Link) : EffectRel R (readVoicesEffect l) := fun args s => by
  refine c.needs ?_
  dsimp only
  split <;> exact c.refl s

protected theorem railDemandEffect (l : Link) : EffectRel R (railDemandEffect l) := fun args s => by
  refine c.needs ?_
  split
  · exact c.refl _
  · exact c.rail (setDemand_only _)

protected theorem railRecoverEffect : EffectRel R railRecoverEffect := fun args s => by
  unfold railRecoverEffect
  split
  · dsimp only [done]
    exact c.rail (((onRlc_only _).trans (railEnter_only _)).trans quietMove_only)
  · exact c.refl _

protected theorem readRailEffect : EffectRel R readRailEffect := fun _ s => c.refl s

/-! ### Takes -/

protected theorem takeRecordEffect : EffectRel R takeRecordEffect := fun args s => by
  refine c.needs ?_
  split
  · exact c.refl _
  · split_ifs
    · exact c.refl _
    · exact c.refl _
    · exact c.refl _
    · split
      · exact c.refl _
      · exact c.take (beginRecording_only _ _ _)

protected theorem takeStopEffect : EffectRel R takeStopEffect := fun args s => by
  unfold takeStopEffect
  split
  · exact c.refl _
  · exact c.take (stopRecording_only _)
  · exact c.take (stopRecording_only _)

protected theorem takeLoadEffect : EffectRel R takeLoadEffect := fun args s => by
  refine c.needs ?_
  split
  · exact c.refl _
  · split_ifs <;> exact c.blocks rfl rfl

protected theorem writeTakeRecordsEffect : EffectRel R writeTakeRecordsEffect := fun args s => by
  refine c.needs ?_
  split
  · exact c.refl _
  · split
    · exact c.refl _
    · split
      · exact c.refl _
      · split_ifs
        · exact c.refl _
        · exact c.refl _
        · exact c.take (appendRecords_only _ _)

protected theorem loadEndEffect : EffectRel R loadEndEffect := fun args s => by
  refine c.needs ?_
  split
  · exact c.refl _
  · split
    · exact c.refl _
    · exact c.take ((endLoading_only _).trans (raiseAll_only _).report.take)

protected theorem keepEffect (l : Link) (keep : Bool) : EffectRel R (keepEffect l keep) := fun args s => by
  unfold keepEffect
  split
  · refine c.needs ?_
    split
    · exact c.refl _
    · split_ifs <;> exact c.blocks rfl rfl
  · exact c.refl _

protected theorem takeEraseEffect : EffectRel R takeEraseEffect := fun args s => by
  refine c.needs ?_
  split
  · exact c.refl _
  · split_ifs
    · exact c.refl _
    · exact c.refl _
    · exact c.refl _
    · exact c.refl _
    · exact c.take ((emptyTake_only _).trans (raiseAll_only _).report.take)

protected theorem readTakeDirectoryEffect (l : Link) : EffectRel R (readTakeDirectoryEffect l) := fun args s => by
  refine c.needs ?_
  dsimp only
  split <;> exact c.refl s

protected theorem readTakeRecordsEffect (l : Link) : EffectRel R (readTakeRecordsEffect l) := fun args s => by
  refine c.needs ?_
  split
  · exact c.refl _
  · split <;> exact c.refl s

/-! ### The player -/

protected theorem takePlayEffect : EffectRel R takePlayEffect := fun args s => by
  refine c.playerNeeds ?_
  split
  · exact c.refl _
  · split
    · exact c.refl _
    · dsimp only
      generalize (if bitOf args 1 1 then word32At args 3 else 0) = start
      split
      · exact c.refl _
      · exact c.startPlayback _ _ _ _

protected theorem stopEffect : EffectRel R stopEffect := fun args s => by
  unfold stopEffect
  split
  · exact c.endPlayback _ _
  · exact c.refl _

protected theorem pauseEffect : EffectRel R pauseEffect := fun args s => by
  unfold pauseEffect
  split
  · exact c.refl _
  · split
    · exact c.trans (c.trans (c.ply _ _) (c.playMark _ _ _)) (c.raised _ _)
    · exact c.refl _

protected theorem resumeEffect : EffectRel R resumeEffect := fun args s => by
  unfold resumeEffect
  split
  · exact c.refl _
  · split
    · exact c.trans (c.trans (c.ply _ _) (c.playMark _ _ _)) (c.raised _ _)
    · exact c.refl _

protected theorem setTempoEffect : EffectRel R setTempoEffect := fun _ _ => c.playerNeeds (c.blocks rfl rfl)

protected theorem setLoopEffect : EffectRel R setLoopEffect := fun args s => by
  refine c.playerNeeds ?_
  split
  · exact c.refl _
  · dsimp only
    split
    · exact c.setLoop _ _ _ _
    · exact c.refl _

protected theorem clearLoopEffect : EffectRel R clearLoopEffect := fun _ _ => c.blocks rfl rfl

protected theorem setGuideEffect : EffectRel R setGuideEffect := fun args s => by
  refine c.playerNeeds ?_
  split
  · split
    · exact c.refl _
    · exact c.setGuide _ _ _ _ _
  · exact c.refl _

/-! ### The calibration store -/

protected theorem installCst (new : Cst) (s : State) : R s (installCst new s) := by
  have hreset (v : State) : R v (resetHammers (perKeyChanged s.cst new) v) := by
    unfold resetHammers
    exact c.blocks rfl rfl
  have hquiet : R s (quietMove (resetHammers (perKeyChanged s.cst new) (onCst (fun _ => new) s))) :=
    c.trans (c.after (hreset _)) (c.rail quietMove_only)
  unfold installCst
  dsimp only
  split
  · exact hquiet
  · exact c.trans hquiet (c.rail deriveLever_only)

protected theorem calReadEffect (l : Link) : EffectRel R (calReadEffect l) := fun args s => by
  refine c.needs ?_
  split
  · exact c.refl _
  · dsimp only
    split <;> exact c.refl s

protected theorem calWriteEffect (l : Link) : EffectRel R (calWriteEffect l) := fun args s => by
  unfold calWriteEffect
  split
  · exact c.refl _
  · split
    · exact c.refl _
    · split_ifs
      · exact c.refl _
      · exact c.refl _
      · exact c.refl _
      · unfold calStore done
        dsimp only
        split
        · exact c.refl _
        · exact c.installCst _ _

protected theorem calCommitEffect (l : Link) : EffectRel R (calCommitEffect l) := fun args s => by
  unfold calCommitEffect
  split
  · exact c.refl _
  · refine c.needs ?_
    split
    · exact c.refl _
    · split <;> exact c.blocks rfl rfl

protected theorem calDefaultsEffect (l : Link) : EffectRel R (calDefaultsEffect l) := fun args s => by
  unfold calDefaultsEffect
  split
  · exact c.refl _
  · refine c.needs ?_
    split
    · exact c.refl _
    · split_ifs
      · exact c.refl _
      · exact c.refl _
      · exact c.installCst _ _

/-! ### Start-up (R189) -/

protected theorem loadRegions (s : State) : R s (loadRegions s) :=
  c.after (b := onCst Cst.load { s with phase := .loading })
    (c.report ((reportInvalid_only _).trans (reportInvalid_only _)))

protected theorem startUp (s : State) : R s (startUp s) := by
  unfold startUp
  split
  · exact c.blocks rfl rfl
  · exact c.loadRegions _

end VoiceClosed

end Sys2Proof.Machine
end

section
namespace Sys2Proof.Machine

variable {s t u : State}

/-! ## Every step keeps the voices sound -/

theorem discardFrame_voicesKept (l : Link) : VoicesKept s (discardFrame l s) := .of_eq rfl rfl

theorem completeFrame_voicesKept (l : Link) (payload : List Byte) : VoicesKept s (completeFrame l payload s) := by
  unfold completeFrame
  split
  · exact linkReset_voicesKept l
  · exact .of_eq rfl rfl

theorem takeByte_voicesKept (l : Link) (b : Byte) (stopLow : Bool) : VoicesKept s (takeByte l b stopLow s) := by
  unfold takeByte
  split
  · exact voicesKept_voiceClosed.ite (.of_eq rfl rfl)
  · split <;> exact .of_eq rfl rfl
  · split_ifs <;> exact .of_eq rfl rfl
  · split
    · exact completeFrame_voicesKept l _
    · exact .of_eq rfl rfl

theorem systemReset_voicesSound : VoicesSound (systemReset s) := by
  unfold systemReset
  exact voicesKept_voiceClosed.startUp _ (resetBlocks_voicesSound (s := settleTakes s))

/-- The command that runs to `u` leaves no other state. -/
theorem VoicesKept.of_next {o : Host.Outcome State Fault Refusal} (hu : o = .next u) (ht : o = .next t)
    (h : VoicesKept s u) : VoicesKept s t := by
  rw [hu] at ht
  cases ht
  exact h

/-- A request whose effect keeps the voices sound. -/
theorem VoicesKept.of_serve {effect : List Byte → State → State × Reply} {l : Link} {k : Byte}
    (h : EffectRel VoicesKept effect)
    (ht : Host.Outcome.next (serve l k effect s) = (.next t : Host.Outcome State Fault Refusal)) : VoicesKept s t :=
  .of_next rfl ht (voicesKept_voiceClosed.serve h l k s)

/-- Every command keeps the voices sound. -/
theorem exec_voicesKept {i : Instr} (h : exec i s = .next t) : VoicesKept s t := by
  have c := voicesKept_voiceClosed
  cases i with
  | powerOnReset => exact .of_next rfl h fun _ => c.startUp _ coldBlocks_voicesSound
  | resetnLow =>
    refine .of_next rfl h ?_
    dsimp only
    split_ifs <;> exact c.blocks rfl rfl
  | systemResetEffect => exact .of_next rfl h (c.ite fun _ => systemReset_voicesSound)
  | receiveByte l b stopLow =>
    exact .of_next rfl h (c.ite ((c.ite (discardFrame_voicesKept l)).trans (takeByte_voicesKept l b stopLow)))
  | interByteGapTimeout l => exact .of_next rfl h (c.ite (discardFrame_voicesKept l))
  | lineBreak l =>
    have hlow : VoicesKept s (onLink l (fun ls => { ls with lineLow := true }) s) := .of_eq rfl rfl
    refine .of_next rfl h ?_
    dsimp only
    split_ifs
    · exact .refl
    · exact hlow.trans (linkReset_voicesKept l)
    · exact hlow
  | transmitFrameStart l =>
    refine .of_next rfl h (c.ite ?_)
    split <;> exact .of_eq rfl rfl
  | pendingNoticeQueued l =>
    refine .of_next rfl h ?_
    split <;> exact .of_eq rfl rfl
  | voiceOrderDrain =>
    refine .of_next rfl h ?_
    split
    · rename_i hdue
      exact drainOrders_voicesKept hdue
    · exact .refl
  | unknownRequest l =>
    refine .of_next rfl h ?_
    split
    · exact c.ite (.of_eq rfl rfl)
    · exact .refl
  | hello l => exact .of_serve (c.helloEffect l) h
  | setLink l => exact .of_serve (c.setLinkEffect l) h
  | claimRole l => exact .of_serve (claimRoleEffect_voicesKept l) h
  | readKeys l => exact .of_serve (c.readKeysEffect l) h
  | setWindow l => exact .of_serve (c.setWindowEffect l) h
  | readWindow l => exact .of_serve (c.readWindowEffect l) h
  | depthStream l => exact .of_serve (c.depthStreamEffect l) h
  | setScanList l => exact .of_serve c.setScanListEffect h
  | openJournal l => exact .of_serve (c.openJournalEffect l) h
  | readJournal l => exact .of_serve (c.readJournalEffect l) h
  | closeJournal l => exact .of_serve (c.closeJournalEffect l) h
  | setLayers l => exact .of_serve setLayersEffect_voicesKept h
  | readVoices l => exact .of_serve (c.readVoicesEffect l) h
  | voiceEnded l => exact .of_serve (voiceEndedEffect_voicesKept l) h
  | railDemand l => exact .of_serve (c.railDemandEffect l) h
  | railRecover l => exact .of_serve c.railRecoverEffect h
  | readRail l => exact .of_serve c.readRailEffect h
  | takeRecord l => exact .of_serve c.takeRecordEffect h
  | takeStop l => exact .of_serve c.takeStopEffect h
  | takeLoad l => exact .of_serve c.takeLoadEffect h
  | writeTakeRecords l => exact .of_serve c.writeTakeRecordsEffect h
  | loadEnd l => exact .of_serve c.loadEndEffect h
  | takeKeep l => exact .of_serve (c.keepEffect l true) h
  | takeUnkeep l => exact .of_serve (c.keepEffect l false) h
  | takeErase l => exact .of_serve c.takeEraseEffect h
  | readTakeDirectory l => exact .of_serve (c.readTakeDirectoryEffect l) h
  | readTakeRecords l => exact .of_serve (c.readTakeRecordsEffect l) h
  | takePlay l => exact .of_serve c.takePlayEffect h
  | stop l => exact .of_serve c.stopEffect h
  | pause l => exact .of_serve c.pauseEffect h
  | resume l => exact .of_serve c.resumeEffect h
  | setTempo l => exact .of_serve c.setTempoEffect h
  | setLoop l => exact .of_serve c.setLoopEffect h
  | clearLoop l => exact .of_serve c.clearLoopEffect h
  | setGuide l => exact .of_serve c.setGuideEffect h
  | calRead l => exact .of_serve (c.calReadEffect l) h
  | calWrite l => exact .of_serve (c.calWriteEffect l) h
  | calCommit l => exact .of_serve (c.calCommitEffect l) h
  | calDefaults l => exact .of_serve (c.calDefaultsEffect l) h
  | commitComplete r equal =>
    refine .of_next rfl h (c.ite ?_)
    cases equal <;> exact .of_eq rfl rfl
  | noticeSet l => exact .of_serve (c.noticeSetEffect l) h
  | noticeMask l => exact .of_serve (c.noticeMaskEffect l) h
  | readFaults l => exact .of_serve c.readFaultsEffect h
  | clearFaults l => exact .of_serve c.clearFaultsEffect h
  | systemReset l => exact .of_serve (c.systemResetEffect l) h
  | frameStart => exact .of_next rfl h (c.ite (c.startFrame _))
  | settleEnd =>
    refine .of_next rfl h ?_
    split <;> exact .of_eq rfl rfl
  | conversionEnd results =>
    refine .of_next rfl h ?_
    split
    · exact c.trans (foldl_rel c.refl c.trans (c.convertResult _ _) results s) (c.nextEntry _ _)
    · exact .refl
  | recorderSecondStep =>
    refine .of_next rfl h ?_
    split <;> exact .of_eq rfl rfl
  | millisecondStep =>
    refine .of_next rfl h ?_
    split
    · exact c.trans (c.ply _ _) (c.finishStep _)
    · exact .refl
  | silentInputChange low =>
    refine .of_next rfl h ?_
    split <;> exact .of_eq rfl rfl
  | leverDebounceExpiry => exact .of_next rfl h (c.ite (c.rail ((onRlc_only _).trans deriveLever_only)))
  | railHomingStart => exact .of_next rfl h (c.ite (c.rail startHoming_only))
  | railQuietMoveStart =>
    refine .of_next rfl h ?_
    split
    · exact c.rail (startMove_only _ _)
    · exact .refl
  | railCurrentChange current => exact .of_next rfl h (.of_eq rfl rfl)
  | inrushBlankingEnd => exact .of_next rfl h (c.ite (.of_eq rfl rfl))
  | stall =>
    refine .of_next rfl h ?_
    split
    · exact c.rail (stallLeg_only _)
    · exact .refl
  | maximumTravelTimeout => exact .of_next rfl h (c.ite (c.rail (railFault_only _)))
  | backoffTimeEnd =>
    refine .of_next rfl h ?_
    split
    · exact c.rail (retreatEnd_only _ _)
    · exact .refl
  | retryDelayEnd =>
    refine .of_next rfl h ?_
    split
    · split
      · exact c.rail (startMove_only _ _)
      · exact c.rail (enterWaiting_only _ _)
    · exact .refl
  | railHeld =>
    refine .of_next rfl h ?_
    split <;> exact .of_eq rfl rfl
  | resetnHigh => exact .of_next rfl h (c.after (b := { s with resetnLow := false }) (c.ite (c.loadRegions _)))
  | lineReturnsHigh l => exact .of_next rfl h (c.ite (.of_eq rfl rfl))
  | powerLoss =>
    refine .of_next rfl h ?_
    split
    · exact .refl
    · exact fun _ => VoicesKept.of_eq rfl rfl (coldBlocks_voicesSound (s := cutCommits s))
  | regionsLoaded =>
    have htaken : VoicesKept s (takeUp s) := .of_freed rfl rfl fun _ hn => hn
    exact .of_next rfl h (c.ite (htaken.trans (c.startFrame _)))

theorem idle_voicesKept (h : idle s = .next t) : VoicesKept s t := by
  unfold idle at h
  split at h
  · split at h
    · exact exec_voicesKept h
    · cases h
      split
      · exact .refl
      · rw [tick_eq]
        exact .of_eq rfl rfl
  · cases h
    exact .refl

/-- Settles O9: the voice assigner's own commands and those of the TONE role one by one, all else by what reaches the
voice assigner. -/
theorem voicesStaySound : Obligations.VoicesStaySound := by
  intro s t hs h
  unfold step at h
  split at h
  · exact idle_voicesKept h hs
  · exact exec_voicesKept h hs

end Sys2Proof.Machine
end

section
namespace Sys2Proof.Machine

variable {s t u : State}

/-! ## VOICE ENDED (R97, R98) -/

theorem exec_voiceEnded {l : Link} {args : List Byte} (h : headRequest l s = some (kVoiceEnded, args)) :
    exec (.voiceEnded l) s = .next (putReply l kVoiceEnded (voiceEndedEffect l args (popRequest l s)).2
      (voiceEndedEffect l args (popRequest l s)).1) :=
  congrArg Host.Outcome.next (serve_taken _ h)

theorem voiceEndedEffect_role {l : Link} (h : s.roles.tone ≠ some l) (args : List Byte) :
    voiceEndedEffect l args s = refuse .role s :=
  if_neg (by simpa [holdsTone] using h)

theorem voiceEndedEffect_argument {l : Link} {args : List Byte} (ht : s.roles.tone = some l)
    (h : pairSlots (endedPairs args) = none) : voiceEndedEffect l args s = refuse .argument s := by
  simp [voiceEndedEffect, holdsTone, ht, h]

theorem voiceEndedEffect_pairs {l : Link} {args : List Byte} {pairs : List (Slot × Byte)} (ht : s.roles.tone = some l)
    (h : pairSlots (endedPairs args) = some pairs) :
    voiceEndedEffect l args s =
      done (staleReported (pairs.foldl endPair (s, 0, 0)).2.2 (pairs.foldl endPair (s, 0, 0)).1)
        [byteOf (pairs.foldl endPair (s, 0, 0)).2.1, byteOf (pairs.foldl endPair (s, 0, 0)).2.2] := by
  simp [voiceEndedEffect, holdsTone, ht, h]

/-- One pair whose bytes name slot `n` and generation `g`. -/
theorem pairSlots_one (n : Slot) (g : Byte) : pairSlots (endedPairs [byteOf n.val, g]) = some [(n, g)] := by
  have hn : (byteOf n.val).toNat = n.val := by
    rw [byteOf, BitVec.toNat_ofNat, Nat.mod_eq_of_lt (by omega)]
  simp only [endedPairs, pairSlots, hn, finOf_val]

/-- The pairs keep the slot numbers and generations of the request (R97). -/
theorem mem_of_pairSlots {ps : List (Nat × Byte)} {pairs : List (Slot × Byte)} (h : pairSlots ps = some pairs) {n : Slot}
    {g : Byte} (hm : (n, g) ∈ pairs) : (n.val, g) ∈ ps := by
  induction ps generalizing pairs with
  | nil =>
    cases h
    cases hm
  | cons x rest ih =>
    unfold pairSlots at h
    split at h
    · rename_i n' rest' hn hrest
      cases h
      have hval : n'.val = x.1 := by
        unfold finOf at hn
        split at hn
        · cases hn
          rfl
        · cases hn
      rcases List.mem_cons.mp hm with he | hm
      · cases he
        exact List.mem_cons.mpr (.inl (by rw [hval]))
      · exact List.mem_cons.mpr (.inr (ih hrest hm))
    · cases h

theorem VoiceSlot.endedBy_iff {v : VoiceSlot} {g : Byte} : v.endedBy g = true ↔ v.voice ≠ none ∧ v.gen = g := by
  simp [VoiceSlot.endedBy, Option.isSome_iff_ne_none]

theorem endPair_frees {acc : State × Nat × Nat} {n : Slot} {g : Byte} (h : (acc.1.slot n).endedBy g = true) :
    endPair acc (n, g) = (setSlot n (acc.1.slot n).freed acc.1, acc.2.1 + 1, acc.2.2) :=
  if_pos h

theorem endPair_stale {acc : State × Nat × Nat} {n : Slot} {g : Byte} (h : ¬(acc.1.slot n).endedBy g = true) :
    endPair acc (n, g) =
      ({ acc.1 with faults := { acc.1.faults with stale := satInc acc.1.faults.stale } }, acc.2.1, acc.2.2 + 1) :=
  if_neg h

/-- From `s` to `t` a slot is as it was, or it was freed by a pair that names it and its generation (R97). -/
def SlotsEnded (pairs : List (Slot × Byte)) (s t : State) : Prop :=
  ∀ n, t.slot n = s.slot n
    ∨ (t.slot n = (s.slot n).freed ∧ (n, (s.slot n).gen) ∈ pairs ∧ (s.slot n).voice ≠ none)

theorem endPair_slotsEnded (acc : State × Nat × Nat) (pair : Slot × Byte) : SlotsEnded [pair] acc.1 (endPair acc pair).1 := by
  obtain ⟨m, g⟩ := pair
  intro n
  by_cases h : (acc.1.slot m).endedBy g = true
  · rw [endPair_frees h]
    obtain ⟨hvoice, hgen⟩ := VoiceSlot.endedBy_iff.mp h
    by_cases hn : n = m
    · subst hn
      exact .inr ⟨State.slot_setSlot_same _ _, by simp [hgen], hvoice⟩
    · exact .inl (State.slot_setSlot_ne _ hn)
  · rw [endPair_stale h]
    exact .inl rfl

/-- A slot that one pair freed is FREE for those behind it. -/
theorem SlotsEnded.cons {pair : Slot × Byte} {rest : List (Slot × Byte)} (h : SlotsEnded [pair] s t)
    (g : SlotsEnded rest t u) : SlotsEnded (pair :: rest) s u := fun n => by
  rcases h n with hkept | ⟨hfreed, hmem, hvoice⟩
  · rcases g n with hkept' | ⟨hfreed', hmem', hvoice'⟩
    · exact .inl (hkept'.trans hkept)
    · rw [hkept] at hfreed' hmem' hvoice'
      exact .inr ⟨hfreed', List.mem_cons.mpr (.inr hmem'), hvoice'⟩
  · refine .inr ⟨?_, List.mem_cons.mpr (.inl (List.mem_singleton.mp hmem)), hvoice⟩
    rcases g n with hkept' | ⟨-, -, hvoice'⟩
    · exact hkept'.trans hfreed
    · exact absurd (by rw [hfreed]; rfl) hvoice'

theorem foldl_endPair_slotsEnded (pairs : List (Slot × Byte)) (acc : State × Nat × Nat) :
    SlotsEnded pairs acc.1 (pairs.foldl endPair acc).1 := by
  induction pairs generalizing acc with
  | nil => exact fun n => .inl rfl
  | cons x rest ih => exact (endPair_slotsEnded acc x).cons (ih _)

theorem staleReported_slot (k : Nat) (n : Slot) : (staleReported k s).slot n = s.slot n := by
  unfold staleReported
  split <;> rfl

/-- What VOICE ENDED leaves in the slots, whatever link it comes from and whatever it carries (R97). -/
theorem voiceEndedEffect_slot (l : Link) (args : List Byte) (n : Slot) :
    (voiceEndedEffect l args s).1.slot n = s.slot n
      ∨ ((voiceEndedEffect l args s).1.slot n = (s.slot n).freed
        ∧ (n.val, (s.slot n).gen) ∈ endedPairs args ∧ (s.slot n).voice ≠ none) := by
  by_cases ht : s.roles.tone = some l
  · cases hp : pairSlots (endedPairs args) with
    | none =>
      rw [voiceEndedEffect_argument ht hp]
      exact .inl rfl
    | some pairs =>
      rw [voiceEndedEffect_pairs ht hp]
      dsimp only [done]
      rw [staleReported_slot]
      rcases foldl_endPair_slotsEnded pairs (s, 0, 0) n with hkept | ⟨hfreed, hmem, hvoice⟩
      · exact .inl hkept
      · exact .inr ⟨hfreed, mem_of_pairSlots hp hmem, hvoice⟩
  · rw [voiceEndedEffect_role ht]
    exact .inl rfl

/-- Settles O29: one pair by the two cases of its report, any list by what each pair leaves in the slots. -/
theorem voiceEndedFreesMatchingSlots : Obligations.VoiceEndedFreesMatchingSlots := by
  refine ⟨fun l n g s h ht => ⟨fun v hv hg => ?frees, fun hs => ?stale⟩, fun l args s t h ht n => ?slots⟩
  case frees =>
    have hended : (s.slot n).endedBy g = true := VoiceSlot.endedBy_iff.mpr ⟨by simp [hv], hg⟩
    rw [exec_voiceEnded h, voiceEndedEffect_pairs (s := popRequest l s) ht (pairSlots_one n g), List.foldl_cons, List.foldl_nil,
      endPair_frees (acc := (popRequest l s, 0, 0)) hended, ← hg]
    rfl
  case stale =>
    have hended : ¬(s.slot n).endedBy g = true := fun he => by
      obtain ⟨hvoice, hgen⟩ := VoiceSlot.endedBy_iff.mp he
      exact hs.elim hvoice fun hne => hne hgen
    rw [exec_voiceEnded h, voiceEndedEffect_pairs (s := popRequest l s) ht (pairSlots_one n g), List.foldl_cons, List.foldl_nil,
      endPair_stale (acc := (popRequest l s, 0, 0)) hended]
    rfl
  case slots =>
    rw [exec_voiceEnded h] at ht
    cases ht
    exact voiceEndedEffect_slot (s := popRequest l s) l args n

end Sys2Proof.Machine
end

section
namespace Sys2Proof.Machine

variable {s t u : State}

/-! ## CLAIM ROLE (R100, R167) -/

theorem exec_claimRole {l : Link} {args : List Byte} (h : headRequest l s = some (kClaimRole, args)) :
    exec (.claimRole l) s = .next (putReply l kClaimRole (claimRoleEffect l args (popRequest l s)).2
      (claimRoleEffect l args (popRequest l s)).1) :=
  congrArg Host.Outcome.next (serve_taken _ h)

/-- The part with TONE given to link `l` and ROLE_CHANGE raised, before the sources' soft levels are told (log 36). -/
def toneGranted (l : Link) (s : State) : State := raiseAll .roleChange { s with roles := { s.roles with tone := some l } }

section Claims

variable {l : Link} {args : List Byte}

theorem claimRoleEffect_tone (hn : 1 ≤ args.length) (hr : byteAt args 0 = 0) : claimRoleEffect l args s =
    if s.roles.tone = some l then holdersReply .done s
    else if s.roles.tone.isSome then holdersReply .role s
    else holdersReply .done (softClaimed .playback (softClaimed .live (toneGranted l s))) := by
  simp only [claimRoleEffect, if_neg (Nat.not_lt.mpr hn), hr]
  rfl

theorem claimRoleEffect_panel (hn : 1 ≤ args.length) (hr : byteAt args 0 = 1) : claimRoleEffect l args s =
    if s.roles.panel = some l then holdersReply .done s
    else if s.roles.panel.isSome then holdersReply .role s
    else holdersReply .done (raiseAll .roleChange { s with roles := { s.roles with panel := some l } }) := by
  simp only [claimRoleEffect, if_neg (Nat.not_lt.mpr hn), hr]

/-- A role already held by the link that claims it is answered DONE (R167). -/
theorem claimRoleEffect_own (hn : 1 ≤ args.length)
    (h : byteAt args 0 = 0 ∧ s.roles.tone = some l ∨ byteAt args 0 = 1 ∧ s.roles.panel = some l) :
    claimRoleEffect l args s = holdersReply .done s := by
  rcases h with ⟨hr, hheld⟩ | ⟨hr, hheld⟩
  · rw [claimRoleEffect_tone hn hr, if_pos hheld]
  · rw [claimRoleEffect_panel hn hr, if_pos hheld]

/-- A role that another link holds is refused (R167). -/
theorem claimRoleEffect_other {m : Link} (hm : m ≠ l) (hn : 1 ≤ args.length)
    (h : byteAt args 0 = 0 ∧ s.roles.tone = some m ∨ byteAt args 0 = 1 ∧ s.roles.panel = some m) :
    claimRoleEffect l args s = holdersReply .role s := by
  rcases h with ⟨hr, hheld⟩ | ⟨hr, hheld⟩
  · rw [claimRoleEffect_tone hn hr, hheld]
    simp [hm]
  · rw [claimRoleEffect_panel hn hr, hheld]
    simp [hm]

theorem claimRoleEffect_tone_granted (hn : 1 ≤ args.length) (hr : byteAt args 0 = 0) (h : s.roles.tone = none) :
    claimRoleEffect l args s =
      (softClaimed .playback (softClaimed .live (toneGranted l s)),
        { result := .done, data := [byteOf (linkCode (some l)), byteOf (linkCode s.roles.panel)] }) := by
  have hroles : (softClaimed .playback (softClaimed .live (toneGranted l s))).roles = { s.roles with tone := some l } :=
    (softClaimed_only _).roles.trans (softClaimed_only _).roles
  rw [claimRoleEffect_tone hn hr, h, if_neg (by simp), if_neg (by simp), holdersReply, hroles]

theorem claimRoleEffect_panel_granted (hn : 1 ≤ args.length) (hr : byteAt args 0 = 1) (h : s.roles.panel = none) :
    claimRoleEffect l args s =
      (raiseAll .roleChange { s with roles := { s.roles with panel := some l } },
        { result := .done, data := [byteOf (linkCode s.roles.tone), byteOf (linkCode (some l))] }) := by
  rw [claimRoleEffect_panel hn hr, h, if_neg (by simp), if_neg (by simp)]
  rfl

end Claims

/-- A new TONE link is told of a LIVE soft level not sent yet, and of none else (R100). -/
theorem softClaimed_granted_live {l : Link} (hlive : s.pdu.soft.lift ≠ s.vas.softLive.sent)
    (hplay : s.ply.soft = s.vas.softPlay.sent) (hq : s.vas.queue = []) :
    let t := softClaimed .playback (softClaimed .live (toneGranted l s))
    t.roles = { s.roles with tone := some l } ∧ t.vas.queue = [.soft .live s.pdu.soft.lift] := by
  intro t
  have htold : softClaimed .live (toneGranted l s) =
      putSoft .live { sent := s.pdu.soft.lift, stale := false } [.soft .live s.pdu.soft.lift] (toneGranted l s) := by
    have hfew : (toneGranted l s).vas.queue = [] := hq
    rw [softClaimed_untold (s := toneGranted l s) .live hlive, softOrder_queued .live (by simp [hfew]), hfew]
    rfl
  have ht : t = putSoft .live { sent := s.pdu.soft.lift, stale := false } [.soft .live s.pdu.soft.lift] (toneGranted l s) := by
    simp only [t, htold]
    exact softClaimed_told .playback hplay
  rw [ht]
  exact ⟨rfl, rfl⟩

/-- Settles O23: what CLAIM ROLE does by the role, who holds it, and the soft levels not sent yet. -/
theorem claimRoleGrantsFreeRole : Obligations.ClaimRoleGrantsFreeRole := by
  refine ⟨fun l args s h hn => ⟨fun hr hfree => ?panel, fun hr hfree hlive hplay => ?toneTold,
    fun hr hfree hlive hplay hq => ?toneUntold, fun l' hl hr hheld => ?toneHeld, fun l' hl hr hheld => ?panelHeld,
    fun hown => ?own⟩, fun l args s h hn hr hfree => ?tone⟩
  case panel => rw [exec_claimRole h, claimRoleEffect_panel_granted (s := popRequest l s) hn hr hfree]; rfl
  case toneTold =>
    have hl : softClaimed .live (toneGranted l (popRequest l s)) = toneGranted l (popRequest l s) := softClaimed_told .live hlive
    have hp : softClaimed .playback (toneGranted l (popRequest l s)) = toneGranted l (popRequest l s) :=
      softClaimed_told .playback hplay
    rw [exec_claimRole h, claimRoleEffect_tone_granted (s := popRequest l s) hn hr hfree, hl, hp]
    rfl
  case toneUntold =>
    obtain ⟨hroles, hqueue⟩ := softClaimed_granted_live (s := popRequest l s) (l := l) hlive hplay hq
    rw [exec_claimRole h, claimRoleEffect_tone_granted (s := popRequest l s) hn hr hfree]
    exact ⟨_, rfl, hroles, hqueue⟩
  case toneHeld =>
    rw [exec_claimRole h, claimRoleEffect_other (s := popRequest l s) hl hn (.inl ⟨hr, hheld⟩), ← hheld]
    rfl
  case panelHeld =>
    rw [exec_claimRole h, claimRoleEffect_other (s := popRequest l s) hl hn (.inr ⟨hr, hheld⟩), ← hheld]
    rfl
  case own => rw [exec_claimRole h, claimRoleEffect_own (s := popRequest l s) hn hown]; rfl
  case tone => rw [exec_claimRole h, claimRoleEffect_tone_granted (s := popRequest l s) hn hr hfree]; rfl

end Sys2Proof.Machine
end

section
namespace Sys2Proof.Machine

variable {s : State}

/-! ## The reads (R102, R141, R142, R169, R182, R185) -/

/-- A request that reads and is answered DONE changes nothing but the buffer and the reply place (R164). -/
theorem serve_read {l : Link} {k : Byte} {args data : List Byte} {effect : List Byte → State → State × Reply}
    (h : headRequest l s = some (k, args)) (hread : effect args (popRequest l s) = done (popRequest l s) data) :
    Host.Outcome.next (serve l k effect s) =
      (.next (putReply l k { result := .done, data := data } (popRequest l s)) : Host.Outcome State Fault Refusal) := by
  rw [serve_taken effect h, hread]
  rfl

section Effects

variable {l : Link} {args : List Byte}

theorem readKeysEffect_done (hn : 2 ≤ args.length) (hf : byteAt args 0 ≤ 90) : readKeysEffect l args s =
    let n := keysReturned (s.link l).limit (byteAt args 0) (byteAt args 1)
    done s ([byteOf (byteAt args 0), byteOf n] ++ (List.range n).flatMap fun i => recordBytes s (byteAt args 0 + i)) :=
  (needs_enough _ hn).trans (if_neg (Nat.not_lt.mpr hf))

theorem readWindowEffect_done (hn : 1 ≤ args.length) (hf : byteAt args 0 ≤ 15) : readWindowEffect l args s =
    let n := min (16 - byteAt args 0) (((s.link l).limit.bytes - 4) / 3)
    done s ([byteOf (byteAt args 0), byteOf n]
      ++ (((List.finRange 16).drop (byteAt args 0)).take n).flatMap fun p => windowEntryBytes (s.key (windowKey (s.link l) p))) :=
  (needs_enough _ hn).trans (if_neg (Nat.not_lt.mpr hf))

theorem readVoicesEffect_done (hn : 2 ≤ args.length) (hf : byteAt args 0 ≤ 127) : readVoicesEffect l args s =
    let n := slotsReturned (s.link l).limit (byteAt args 0) (byteAt args 1)
    done s ([byteOf s.vas.queue.length, byteOf (linkCode s.roles.tone), byteOf n]
      ++ (((List.finRange 128).drop (byteAt args 0)).take n).flatMap fun i => (s.slot i).bytes i) :=
  (needs_enough _ hn).trans (if_neg (Nat.not_lt.mpr hf))

theorem readTakeDirectoryEffect_done (hn : 1 ≤ args.length) (hf : byteAt args 0 ≤ 7) : readTakeDirectoryEffect l args s =
    done s ([byteOf (recorderByte s.tks.recorder), byteOf (freeBlocks s)]
      ++ (((List.finRange 8).drop (byteAt args 0)).take (entriesReturned (s.link l).limit (byteAt args 0))).flatMap
        fun t => (s.take t).bytes t) :=
  (needs_enough _ hn).trans (if_neg (Nat.not_lt.mpr hf))

theorem readTakeRecordsEffect_done {t : TakeNo} (hn : 4 ≤ args.length) (ht : byteAt args 0 = t.val)
    (he : (s.take t).state ≠ .empty) : readTakeRecordsEffect l args s =
    let rs := ((takeRecords s t).drop (word16At args 1)).take
      (recordsReturned (s.link l).limit (word16At args 1) (byteAt args 3) (s.take t).count)
    done s ([byteOf t.val, byteOf rs.length] ++ rs.flatMap fun r => le32 r.word) := by
  have harg : takeArg args 0 = some t := by rw [takeArg, ht, finOf_val]
  rw [readTakeRecordsEffect, needs_enough _ hn]
  simp only [harg, if_neg he]

theorem calReadEffect_done {r : Region} {it : CalItem} (hn : 4 ≤ args.length) (hr : regionOf (byteAt args 0) = some r)
    (hi : CalItem.ofCode r (byteAt args 1) = some it) (hf : byteAt args 2 < it.size) : calReadEffect l args s =
    let n := calEntriesReturned (s.link l).limit it (byteAt args 2) (byteAt args 3)
    done s ([byteOf (s.cst.status r), byteOf n]
      ++ calEntryBytes ((List.range n).filterMap fun i => s.cst.entryAt it (byteAt args 2 + i))) := by
  have htarget : calTarget args = some (r, it) := by simp [calTarget, hr, hi]
  rw [calReadEffect, needs_enough _ hn]
  simp only [htarget, if_neg (Nat.not_le.mpr hf)]

theorem readFaultsEffect_done (hn : 1 ≤ args.length) (hf : byteAt args 0 ≤ 4) : readFaultsEffect args s =
    done s (byteOf (byteAt args 0) :: faultSection s (byteAt args 0)) :=
  (needs_enough _ hn).trans (if_neg (Nat.not_lt.mpr hf))

end Effects

/-- Settles O21: each read's effect is DONE on the state it finds, with the buffer's head gone. -/
theorem readsChangeNothing : Obligations.ReadsChangeNothing := by
  intro l args s
  rw [← popRequest_limit l l]
  exact ⟨fun h hn hf => serve_read h (readKeysEffect_done hn hf),
    fun h hn hf => serve_read h (readWindowEffect_done hn hf),
    fun h hn hf => serve_read h (readVoicesEffect_done hn hf),
    fun h hn hf => serve_read h (readTakeDirectoryEffect_done hn hf),
    fun t h hn ht he => serve_read h (readTakeRecordsEffect_done (s := popRequest l s) hn ht he),
    fun r it h hn hr hi hf => serve_read h (calReadEffect_done hn hr hi hf),
    fun h hn hf => serve_read h (readFaultsEffect_done hn hf)⟩

end Sys2Proof.Machine
end

section
namespace Sys2Proof.Machine

variable {s t u : State}

/-! ## The demand set under a change of demand (R107) -/

theorem endTest_demand (e : Side) : (endTest e s).rlc.demand = s.rlc.demand := by
  rw [endTest_rlc]
  split_ifs <;> rfl

theorem startMove_demand (e : Side) (check : Bool) : (startMove e check s).rlc.demand = s.rlc.demand := by
  rw [startMove_rlc]

theorem arrive_demand (e : Side) (travel : Option Nat) : (arrive e travel s).rlc.demand = s.rlc.demand := by
  unfold arrive
  rw [endTest_demand, railEnter_rlc]
  rfl

/-- The rail takes a change of target without a change of the demand set (R107). -/
theorem targetChanged_demand : (targetChanged s).rlc.demand = s.rlc.demand := by
  unfold targetChanged
  split
  · rfl
  · rfl
  · rfl
  · exact endTest_demand _
  · exact endTest_demand _
  · split
    · exact startMove_demand (s := cutDrive s) _ _
    · rfl
  · split
    · exact startMove_demand (s := cutDrive s) _ _
    · rfl
  · split_ifs
    · exact startMove_demand _ _
    · rw [railEnter_rlc]
    · rfl
  · split
    · rfl
    · split_ifs
      · exact arrive_demand _ _
      · exact startMove_demand _ _
      · rfl

theorem setDemand_demand (d : Demand) : (setDemand d s).rlc.demand = d := by
  unfold setDemand
  dsimp only
  split
  · rfl
  · exact targetChanged_demand

/-- A demand set with the same target is taken and nothing more (R107). -/
theorem setDemand_sameTarget {d : Demand} (h : d.any = s.rlc.demand.any) : setDemand d s = onRlc (fun r => { r with demand := d }) s :=
  if_pos (by rw [target, Demand.target, Demand.target, h])

/-! ## Ports under what the rest of the part does (R71, R167, R170, R178) -/

/-- A port with its notices off, its journal stream closed and its depth stream off: no raised class, no event and no
frame end reaches it. -/
def LinkState.silentPort (ls : LinkState) : Prop := ls.notice.enable = false ∧ ls.stream = none ∧ ls.depthPeriod = 0

/-- From `s` to `t` link `l` is as it was, if it was a silent port. -/
def SilentPortKept (l : Link) (s t : State) : Prop := (s.link l).silentPort → t.link l = s.link l

theorem raise_notEnabled {ls : LinkState} (h : ls.notice.enable = false) (c : EventClass) : ls.raise c = ls := by
  simp [LinkState.raise, h]

theorem silentPortKept_linkClosed (l : Link) : LinkClosed (SilentPortKept l) where
  trans h g hs := by
    have heq := h hs
    exact (g (heq ▸ hs)).trans heq
  blocks _ hlinks _ := by rw [State.link, State.link, hlinks]
  raised c s hs := by
    obtain ⟨henable, -, -⟩ := hs
    exact (State.link_onEveryLink l _).trans (raise_notEnabled henable c)
  appended e s hs := by
    obtain ⟨-, hstream, -⟩ := hs
    rw [appendEvent_link, LinkState.appendSeen, hstream]
  ticked u s hs := by
    obtain ⟨-, -, hperiod⟩ := hs
    exact (State.link_onEveryLink l _).trans (depthTick_off hperiod)

/-- A port but for its notices, its frames waiting, its counts of depth frames and lost events, and its stream's cursor
is as it was. -/
structure PortKept (a b : LinkState) : Prop where
  rx : b.rx = a.rx
  rxBuf : b.rxBuf = a.rxBuf
  sending : b.sending = a.sending
  limit : b.limit = a.limit
  base0 : b.base0 = a.base0
  base1 : b.base1 = a.base1
  depthPeriod : b.depthPeriod = a.depthPeriod
  threshold : b.stream.map Stream.threshold = a.stream.map Stream.threshold

theorem PortKept.refl (a : LinkState) : PortKept a a := ⟨rfl, rfl, rfl, rfl, rfl, rfl, rfl, rfl⟩

theorem PortKept.trans {a b c : LinkState} (h : PortKept a b) (g : PortKept b c) : PortKept a c where
  rx := g.rx.trans h.rx
  rxBuf := g.rxBuf.trans h.rxBuf
  sending := g.sending.trans h.sending
  limit := g.limit.trans h.limit
  base0 := g.base0.trans h.base0
  base1 := g.base1.trans h.base1
  depthPeriod := g.depthPeriod.trans h.depthPeriod
  threshold := g.threshold.trans h.threshold

theorem NoticesOnly.portKept {a b : LinkState} (h : NoticesOnly a b) : PortKept a b := by
  rw [h]
  exact ⟨rfl, rfl, rfl, rfl, rfl, rfl, rfl, rfl⟩

/-- An append moves at most a stream's cursor (R71). -/
theorem appendSeen_portKept (next : Seq) (overwritten : Option Seq) (ls : LinkState) :
    PortKept ls (ls.appendSeen next overwritten) := by
  unfold LinkState.appendSeen
  split
  · exact .refl ls
  · rename_i st hst
    split
    · have hmoved : PortKept ls
          { ls with stream := some { st with cursor := st.cursor + 1 }, lost := satInc ls.lost, overrunFlag := true } :=
        ⟨rfl, rfl, rfl, rfl, rfl, rfl, rfl, by simp [hst]⟩
      exact hmoved.trans (raise_noticesOnly _ _).portKept
    · split
      · exact (raise_noticesOnly _ _).portKept
      · exact .refl ls

theorem depthTick_portKept (u : State) (ls : LinkState) : PortKept ls (depthTick u ls) := by
  unfold depthTick
  dsimp only
  split_ifs <;> exact ⟨rfl, rfl, rfl, rfl, rfl, rfl, rfl, rfl⟩

/-- Apart from the ports' own commands every port is kept. -/
theorem portKept_linkClosed (l : Link) : LinkClosed fun s t => PortKept (s.link l) (t.link l) where
  trans := .trans
  blocks _ hlinks := by
    rw [State.link, State.link, hlinks]
    exact .refl _
  raised c s := by
    rw [raiseAll, State.link_onEveryLink]
    exact (raise_noticesOnly c _).portKept
  appended e s := by
    rw [appendEvent_link]
    exact appendSeen_portKept _ _ _
  ticked u s := by
    rw [State.link_onEveryLink]
    exact depthTick_portKept u _

/-! ## Link reset (R99, R107, R167, R172) -/

theorem toneTeardown_slot (n : Slot) : (toneTeardown s).slot n = (s.slot n).tornDown := by
  simp [toneTeardown, State.slot]

/-- The first part of a link reset: TONE torn down where the link holds it, its roles given up, its port reset. -/
def portReset (l : Link) (s : State) : State :=
  onLink l (LinkState.afterReset s.clock)
    { s with vas := if holdsTone s l then (toneTeardown s).vas else s.vas, roles := s.roles.without l }

/-- The rest of a link reset: the change of demand, ROLE_CHANGE, and a system reset that awaited the link's reply. -/
theorem linkReset_eq (l : Link) : linkReset l s =
    let t := setDemand (s.rlc.demand.setLink l false) (portReset l s)
    let u := if holdsTone s l || holdsPanel s l then raiseAll .roleChange t else t
    if u.sysReset = .awaitingReply l then resetArrives u else u := by
  have hport : portReset l s = onLink l (LinkState.afterReset s.clock)
      { (if holdsTone s l then toneTeardown s else s) with
        roles := (if holdsTone s l then toneTeardown s else s).roles.without l } := by
    unfold portReset
    split
    · simp only [toneTeardown, onVas]
    · rfl
  have hrlc : (portReset l s).rlc = s.rlc := rfl
  rw [← hrlc, hport]
  rfl

theorem RailOnly.vas (h : RailOnly s t) : t.vas = s.vas := by
  obtain ⟨_, _, _, _, rfl⟩ := h
  rfl

theorem RailOnly.roles (h : RailOnly s t) : t.roles = s.roles := by
  obtain ⟨_, _, _, _, rfl⟩ := h
  rfl

/-- Behind the port's reset a link reset acts on the rail, its events, links and the awaited system reset alone. -/
theorem linkReset_demandThen (l : Link) :
    linkReset l s = { setDemand (s.rlc.demand.setLink l false) (portReset l s) with
      links := (linkReset l s).links, sysReset := (linkReset l s).sysReset } := by
  rw [linkReset_eq]
  dsimp only
  split_ifs <;> rfl

theorem linkReset_closed {R : State → State → Prop} (c : LinkClosed R) (l : Link) : R (portReset l s) (linkReset l s) := by
  have hroles (b : Bool) (v : State) : R v (if b then raiseAll .roleChange v else v) := c.ite (c.raised _ _)
  have harrives (v : State) : R v (if v.sysReset = .awaitingReply l then resetArrives v else v) := c.ite (c.blocks rfl rfl)
  rw [linkReset_eq]
  exact c.trans (c.trans (c.setDemand _ _) (hroles _ _)) (harrives _)

theorem linkReset_roles (l : Link) : (linkReset l s).roles = s.roles.without l := by
  rw [linkReset_demandThen]
  exact (setDemand_only _).roles

theorem linkReset_vas (l : Link) : (linkReset l s).vas = if holdsTone s l then (toneTeardown s).vas else s.vas := by
  rw [linkReset_demandThen]
  exact (setDemand_only _).vas

theorem linkReset_demand (l : Link) : (linkReset l s).rlc.demand = s.rlc.demand.setLink l false := by
  rw [linkReset_demandThen]
  exact setDemand_demand _

theorem portReset_link_same (l : Link) : (portReset l s).link l = (s.link l).afterReset s.clock := State.link_onLink_same l _

theorem portReset_link_ne {l m : Link} (h : m ≠ l) : (portReset l s).link m = s.link m := State.link_onLink_ne _ h

/-- The link's own port is as the reset leaves it: nothing that follows reaches it (R172). -/
theorem linkReset_link_same (l : Link) : (linkReset l s).link l = (s.link l).afterReset s.clock := by
  have hkept : SilentPortKept l (portReset l s) (linkReset l s) := linkReset_closed (silentPortKept_linkClosed l) l
  rw [hkept (by rw [portReset_link_same]; exact ⟨rfl, rfl, rfl⟩), portReset_link_same]

theorem linkReset_link_ne {l m : Link} (h : m ≠ l) : PortKept (s.link m) ((linkReset l s).link m) := by
  have hkept := linkReset_closed (s := s) (portKept_linkClosed m) l
  rwa [portReset_link_ne h] at hkept

/-- Without a change of target no event is made, and no stream's cursor moves (R107). -/
theorem linkReset_stream_ne {l m : Link} (h : m ≠ l) (hd : (s.rlc.demand.setLink l false).any = s.rlc.demand.any) :
    ((linkReset l s).link m).stream = (s.link m).stream := by
  have hraised (b : Bool) (v : State) : ((if b then raiseAll .roleChange v else v).link m).stream = (v.link m).stream := by
    cases b
    · rfl
    · exact (congrArg LinkState.stream (State.link_onEveryLink m _)).trans (raise_stream _ _)
  have harrives (v : State) :
      ((if v.sysReset = .awaitingReply l then resetArrives v else v).link m).stream = (v.link m).stream := by
    split <;> rfl
  rw [linkReset_eq]
  dsimp only
  rw [harrives, hraised, setDemand_sameTarget (s := portReset l s) hd]
  exact congrArg LinkState.stream (portReset_link_ne h)

/-- A reset of a link that holds no role, awaits no system reset and does not change the target acts on its port and its
demand alone. -/
theorem linkReset_alone {l : Link} (ht : s.roles.tone ≠ some l) (hp : s.roles.panel ≠ some l)
    (hd : (s.rlc.demand.setLink l false).any = s.rlc.demand.any) (hr : s.sysReset = .none) :
    linkReset l s = onRlc (fun r => { r with demand := r.demand.setLink l false }) (onLink l (LinkState.afterReset s.clock) s) := by
  have htone : holdsTone s l = false := by simpa [holdsTone] using ht
  have hpanel : holdsPanel s l = false := by simpa [holdsPanel] using hp
  have hroles : s.roles.without l = s.roles := by simp [Roles.without, ht, hp]
  have hport : portReset l s = onLink l (LinkState.afterReset s.clock) s := by
    rw [portReset, htone, hroles]
    rfl
  have hdemand : setDemand (s.rlc.demand.setLink l false) (portReset l s) =
      onRlc (fun r => { r with demand := r.demand.setLink l false }) (onLink l (LinkState.afterReset s.clock) s) := by
    rw [hport]
    exact setDemand_sameTarget (s := onLink l (LinkState.afterReset s.clock) s) hd
  rw [linkReset_eq, hdemand, htone, hpanel]
  exact if_neg (by simp [onRlc, hr])

/-! ## BREAK and LINE_RETURNS_HIGH (R172) -/

/-- The port knows that its line is low (R172). -/
def lineKnownLow (l : Link) (s : State) : State := onLink l (fun ls => { ls with lineLow := true }) s

theorem lineKnownLow_afterReset (l : Link) : ((lineKnownLow l s).link l).afterReset s.clock =
    { lineLow := true
      sending := (s.link l).sending.map fun sd => { sd with bytes := sd.bytes.take (elapsed s.clock sd.start / 5 + 1) } } := by
  rw [lineKnownLow, State.link_onLink_same]
  rfl

theorem exec_lineBreak {l : Link} (hp : s.phase = .running) (hl : (s.link l).lineLow = false) :
    exec (.lineBreak l) s = .next (linkReset l (lineKnownLow l s)) := by
  simp [exec, execLineBreak, hp, hl, lineKnownLow]

theorem exec_lineReturnsHigh {l : Link} (hl : (s.link l).lineLow = true) :
    exec (.lineReturnsHigh l) s = .next (onLink l (fun ls => { ls with lineLow := false, rx := .hunt }) s) := by
  simp [exec, execLineReturnsHigh, hl]

theorem Roles.without_tone (r : Roles) (l : Link) : (r.without l).tone ≠ some l := by
  unfold Roles.without
  dsimp only
  split
  · exact nofun
  · assumption

theorem Roles.without_panel (r : Roles) (l : Link) : (r.without l).panel ≠ some l := by
  unfold Roles.without
  dsimp only
  split
  · exact nofun
  · assumption

/-- Settles O51: a break is a link reset with the line known low, whose parts stand above. -/
theorem breakResetsLink : Obligations.BreakResetsLink := by
  intro l s hp cut
  have hother (m : Link) (hm : m ≠ l) : (lineKnownLow l s).link m = s.link m := State.link_onLink_ne _ hm
  refine ⟨fun hl ht hpn hd hr => ?alone, fun hl => ?reset, exec_lineReturnsHigh⟩
  case alone =>
    rw [exec_lineBreak hp hl, linkReset_alone (s := lineKnownLow l s) ht hpn hd hr]
    cases l <;> rfl
  case reset =>
    have hport : (linkReset l (lineKnownLow l s)).link l = { lineLow := true, sending := cut } :=
      (linkReset_link_same l).trans (lineKnownLow_afterReset l)
    refine ⟨_, exec_lineBreak hp hl, ?tone, ?panel, linkReset_demand l, hport, ?_, ?_, ?_, ?_, ?_, ?_, ?_, ?_, ?_,
      fun ht => ?torn, fun m hm => ?others⟩
    case tone =>
      rw [linkReset_roles]
      exact Roles.without_tone _ l
    case panel =>
      rw [linkReset_roles]
      exact Roles.without_panel _ l
    case torn =>
      have htone : holdsTone s l = true := by simpa [holdsTone] using ht
      have hvas : (linkReset l (lineKnownLow l s)).vas = (toneTeardown (lineKnownLow l s)).vas :=
        (linkReset_vas l).trans (if_pos htone)
      refine ⟨congrArg Vas.queue hvas, fun n => ?_⟩
      rw [State.slot, hvas]
      exact toneTeardown_slot n
    case others =>
      have hkept := linkReset_link_ne (s := lineKnownLow l s) hm
      rw [hother m hm] at hkept
      exact ⟨hkept.rxBuf, hkept.limit, hkept.rx, hkept.threshold, hkept.sending, hkept.base0, hkept.base1, hkept.depthPeriod,
        fun hd => (linkReset_stream_ne (s := lineKnownLow l s) hm hd).trans (congrArg LinkState.stream (hother m hm))⟩
    all_goals rw [hport]

end Sys2Proof.Machine
end

section
namespace Sys2Proof.Machine

variable {s t u : State}

/-! ## One entry of the directory, and its chain (R124 to R126) -/

@[simp] theorem State.take_onTake_same (n : TakeNo) (f : TakeEntry → TakeEntry) : (onTake n f s).take n = f (s.take n) := by
  simp [State.take, vmodify]

theorem State.take_onTake_ne {m n : TakeNo} (f : TakeEntry → TakeEntry) (h : m ≠ n) : (onTake n f s).take m = s.take m := by
  have hv : n.val ≠ m.val := fun e => h (Fin.ext e.symm)
  simp [State.take, vmodify, hv]

/-- A chain is followed through its own blocks alone (R124). -/
theorem chainFrom_congr {blocks blocks' : Vector BlockEntry 64} {fuel : Nat} {b : Block}
    (h : ∀ c ∈ chainFrom blocks fuel b, blocks'[c] = blocks[c]) : chainFrom blocks' fuel b = chainFrom blocks fuel b := by
  induction fuel generalizing b with
  | zero => rfl
  | succ fuel ih =>
    have hhead : blocks'[b] = blocks[b] := h b (by unfold chainFrom; split <;> exact List.mem_cons_self ..)
    cases hb : blocks[b] with
    | next b' =>
      simp only [chainFrom, hhead, hb]
      refine congrArg _ (ih fun c hc => h c ?_)
      simp only [chainFrom, hb]
      exact List.mem_cons_of_mem _ hc
    | free => simp only [chainFrom, hhead, hb]
    | last => simp only [chainFrom, hhead, hb]

theorem takeChain_congr {n : TakeNo} (hfirst : (t.take n).firstBlock = (s.take n).firstBlock)
    (hblocks : ∀ b ∈ takeChain s n, t.tks.blocks[b] = s.tks.blocks[b]) : takeChain t n = takeChain s n := by
  unfold takeChain at *
  rw [hfirst]
  split
  · rename_i b hb
    rw [hb] at hblocks
    exact chainFrom_congr hblocks
  · rfl

/-- The records of a take are read at its chain's places (R124). -/
theorem takeRecords_congr {n : TakeNo} (hcount : (t.take n).count = (s.take n).count) (hchain : takeChain t n = takeChain s n)
    (hmem : t.tks.mem = s.tks.mem) : takeRecords t n = takeRecords s n := by
  have hrecord : recordAt t n = recordAt s n := funext fun i => by
    rw [recordAt, recordAt, recordAddr, recordAddr, hchain, hmem]
  rw [takeRecords, takeRecords, hcount, hrecord]

theorem emptyTake_blocks {m : TakeNo} {b : Block} (h : b ∉ takeChain s m) :
    (emptyTake m s).tks.blocks[b] = s.tks.blocks[b] := by
  simp [emptyTake, onTks, h]

theorem State.take_onBlocks (n : TakeNo) (f : Tks → Vector BlockEntry 64) :
    (onTks (fun k => { k with blocks := f k }) s).take n = s.take n := rfl

theorem State.take_onRecorder (n : TakeNo) (r : Recorder) : (onTks (fun k => { k with recorder := r }) s).take n = s.take n := rfl

theorem emptyTake_take_ne {m n : TakeNo} (h : n ≠ m) : (emptyTake m s).take n = s.take n := by
  rw [emptyTake, State.take_onTake_ne _ h, State.take_onBlocks]

theorem emptyTake_take_same (m : TakeNo) : (emptyTake m s).take m = {} := by
  rw [emptyTake, State.take_onTake_same]

/-! ## Unfinished takes at a system reset (R143) -/

/-- At most the take store differs. -/
def StoreOnly (s t : State) : Prop := t = { s with tks := t.tks }

theorem StoreOnly.refl (s : State) : StoreOnly s s := rfl

theorem StoreOnly.trans (h : StoreOnly s t) (g : StoreOnly t u) : StoreOnly s u := by
  unfold StoreOnly at *
  rw [g, h]

theorem onTks_store (f : Tks → Tks) : StoreOnly s (onTks f s) := rfl

theorem onTake_store (n : TakeNo) (f : TakeEntry → TakeEntry) : StoreOnly s (onTake n f s) := rfl

theorem emptyTake_store (m : TakeNo) : StoreOnly s (emptyTake m s) := by
  rw [emptyTake]
  exact (onTks_store _).trans (onTake_store _ _)

/-- A take closed where it stands. -/
def closeTake (m : TakeNo) (s : State) : State := onTake m (fun e => { e with state := .closed }) s

theorem settleTake_finished {m : TakeNo} (h : ¬(s.take m).open_) : settleTake s m = s := by
  unfold settleTake
  split
  · rename_i hr
    exact absurd (.inl hr) h
  · rename_i hl
    exact absurd (.inr hl) h
  · rfl

/-- An unfinished take is closed or emptied (R136, R138, R143). -/
theorem settleTake_unfinished {m : TakeNo} (h : (s.take m).open_) :
    settleTake s m = closeTake m s ∨ settleTake s m = emptyTake m s := by
  rcases h with h | h
  · simp only [settleTake, h]
    exact ite_eq_or_eq _ _ _
  · simp only [settleTake, h]
    exact ite_eq_or_eq _ _ _

theorem settleTake_store (m : TakeNo) : StoreOnly s (settleTake s m) := by
  by_cases h : (s.take m).open_
  · rcases settleTake_unfinished h with he | he <;> rw [he]
    · exact onTake_store m _
    · exact emptyTake_store m
  · rw [settleTake_finished h]
    exact .refl s

theorem settleTake_mem (m : TakeNo) : (settleTake s m).tks.mem = s.tks.mem := by
  by_cases h : (s.take m).open_
  · rcases settleTake_unfinished h with he | he <;> rw [he]
    · rfl
    · exact emptyTake_mem m s
  · rw [settleTake_finished h]

theorem settleTake_take_ne {m n : TakeNo} (hn : n ≠ m) : (settleTake s m).take n = s.take n := by
  by_cases h : (s.take m).open_
  · rcases settleTake_unfinished h with he | he <;> rw [he]
    · exact State.take_onTake_ne _ hn
    · exact emptyTake_take_ne hn
  · rw [settleTake_finished h]

/-- A take that is not being written is left alone (R143). -/
theorem settleTake_take {m n : TakeNo} (hn : ¬(s.take n).open_) : (settleTake s m).take n = s.take n := by
  by_cases h : n = m
  · rw [settleTake_finished (h ▸ hn)]
  · exact settleTake_take_ne h

theorem settleTake_not_open (m : TakeNo) : ¬((settleTake s m).take m).open_ := by
  by_cases h : (s.take m).open_
  · rcases settleTake_unfinished h with he | he <;> rw [he]
    · simp [closeTake, TakeEntry.open_]
    · simp [emptyTake_take_same, TakeEntry.open_]
  · rwa [settleTake_finished h]

/-- A take keeps its chain when another take is settled whose chain shares no block with it (R124, R143). -/
theorem settleTake_chain {m n : TakeNo} (hn : n ≠ m) (h : ∀ b ∈ takeChain s n, b ∉ takeChain s m) :
    takeChain (settleTake s m) n = takeChain s n := by
  refine takeChain_congr (by rw [settleTake_take_ne hn]) fun b hb => ?_
  by_cases ho : (s.take m).open_
  · rcases settleTake_unfinished ho with he | he <;> rw [he]
    · rfl
    · exact emptyTake_blocks (h b hb)
  · rw [settleTake_finished ho]

theorem foldl_settleTake_take {n : TakeNo} (ms : List TakeNo) (hn : ¬(s.take n).open_) :
    (ms.foldl settleTake s).take n = s.take n := by
  induction ms generalizing s with
  | nil => rfl
  | cons m ms ih =>
    have hstep := settleTake_take (m := m) hn
    rw [List.foldl_cons, ih (by rwa [hstep]), hstep]

theorem foldl_settleTake_mem (ms : List TakeNo) : (ms.foldl settleTake s).tks.mem = s.tks.mem := by
  induction ms generalizing s with
  | nil => rfl
  | cons m ms ih => rw [List.foldl_cons, ih, settleTake_mem]

theorem foldl_settleTake_not_open {n : TakeNo} {ms : List TakeNo} (hn : n ∈ ms) : ¬((ms.foldl settleTake s).take n).open_ := by
  induction ms generalizing s with
  | nil => cases hn
  | cons m ms ih =>
    rw [List.foldl_cons]
    rcases List.mem_cons.mp hn with rfl | hn
    · rw [foldl_settleTake_take ms (settleTake_not_open n)]
      exact settleTake_not_open n
    · exact ih hn

theorem foldl_settleTake_finished {ms : List TakeNo} (h : ∀ n, ¬(s.take n).open_) : ms.foldl settleTake s = s := by
  induction ms with
  | nil => rfl
  | cons m ms ih => rw [List.foldl_cons, settleTake_finished (h m), ih]

/-- With at most one take being written, at most that one is settled (R126, R143). -/
theorem foldl_settleTake_one {ms : List TakeNo} (h : ∀ m n, (s.take m).open_ → (s.take n).open_ → m = n) :
    ms.foldl settleTake s = s ∨ ∃ m, (s.take m).open_ ∧ ms.foldl settleTake s = settleTake s m := by
  induction ms with
  | nil => exact .inl rfl
  | cons m ms ih =>
    rw [List.foldl_cons]
    by_cases hm : (s.take m).open_
    · refine .inr ⟨m, hm, foldl_settleTake_finished fun n hn => ?_⟩
      by_cases hnm : n = m
      · exact settleTake_not_open m (hnm ▸ hn)
      · rw [settleTake_take_ne hnm] at hn
        exact hnm (h n m hn hm)
    · rw [settleTake_finished hm]
      exact ih

/-! ## The take store at a system reset (R143) -/

theorem TakeEntry.not_open_of_closed {e : TakeEntry} (h : e.state = .closed) : ¬e.open_ := by
  simp [TakeEntry.open_, h]

/-- Every take settled in turn, the recorder still to be made IDLE (R143). -/
@[irreducible] def takesSettled (s : State) : State := (List.finRange 8).foldl settleTake s

theorem takesSettled_eq : takesSettled s = (List.finRange 8).foldl settleTake s := by rw [takesSettled]

theorem settleTakes_eq : settleTakes s = onTks (fun k => { k with recorder := .idle }) (takesSettled s) := by
  rw [takesSettled_eq]
  rfl

theorem settleTakes_store : StoreOnly s (settleTakes s) := by
  have hsettled : StoreOnly s (takesSettled s) := by
    rw [takesSettled_eq]
    exact foldl_rel (R := StoreOnly) .refl .trans (fun _ m => settleTake_store m) _ s
  rw [settleTakes_eq]
  exact hsettled.trans (onTks_store _)

theorem settleTakes_recorder : (settleTakes s).tks.recorder = .idle := by rw [settleTakes_eq, onTks_tks]

theorem settleTakes_mem : (settleTakes s).tks.mem = s.tks.mem := by
  have hsettled : (takesSettled s).tks.mem = s.tks.mem := by rw [takesSettled_eq, foldl_settleTake_mem]
  rw [settleTakes_eq, onTks_tks, hsettled]

theorem settleTakes_take (n : TakeNo) : (settleTakes s).take n = (takesSettled s).take n := by
  rw [settleTakes_eq, State.take_onRecorder]

theorem settleTakes_take_closed {n : TakeNo} (h : (s.take n).state = .closed) : (settleTakes s).take n = s.take n := by
  rw [settleTakes_take, takesSettled_eq]
  exact foldl_settleTake_take _ (TakeEntry.not_open_of_closed h)

theorem settleTakes_not_open (n : TakeNo) : ¬((settleTakes s).take n).open_ := by
  rw [settleTakes_take, takesSettled_eq]
  exact foldl_settleTake_not_open (List.mem_finRange n)

theorem takesSettled_one (h : ∀ m n, (s.take m).open_ → (s.take n).open_ → m = n) :
    takesSettled s = s ∨ ∃ m, (s.take m).open_ ∧ takesSettled s = settleTake s m := by
  rw [takesSettled_eq]
  exact foldl_settleTake_one h

/-- In a sound take store no CLOSED take loses a block to a take that is settled (R124, R143). -/
theorem settleTakes_chain_closed (h : TakesSound s) {n : TakeNo} (hn : (s.take n).state = .closed) :
    takeChain (settleTakes s) n = takeChain s n := by
  obtain ⟨hone, -, -, -, -, hdisjoint, -⟩ := h
  have hclosed := TakeEntry.not_open_of_closed hn
  have hidle : takeChain (settleTakes s) n = takeChain (takesSettled s) n :=
    takeChain_congr (by rw [settleTakes_take]) fun b _ => by rw [settleTakes_eq, onTks_tks]
  rw [hidle]
  rcases takesSettled_one hone with he | ⟨m, hm, he⟩ <;> rw [he]
  have hnm : n ≠ m := fun e => hclosed (e ▸ hm)
  exact settleTake_chain hnm fun b hb hb' => hnm (hdisjoint n m b hb hb')

/-! ## Start-up (R189, R190) -/

/-- A start-up acts on the phase, the calibration store, links and the fault record alone. -/
theorem startUp_frame : ∃ phase cst links faults,
    startUp s = { s with phase := phase, cst := cst, links := links, faults := faults } := by
  unfold startUp
  split
  · exact ⟨_, _, _, _, rfl⟩
  · obtain ⟨_, _, h⟩ := (reportInvalid_only (s := onCst Cst.load { s with phase := .loading }) s.cst.factory.stored.passes).trans
      (reportInvalid_only s.cst.user.stored.passes)
    exact ⟨_, _, _, _, h⟩

theorem startUp_phase : (startUp s).phase = if s.resetnLow then .heldInReset else .loading := by
  unfold startUp
  split
  · rfl
  · obtain ⟨_, _, h⟩ := (reportInvalid_only (s := onCst Cst.load { s with phase := .loading }) s.cst.factory.stored.passes).trans
      (reportInvalid_only s.cst.user.stored.passes)
    exact congrArg State.phase h

/-! ## What a system reset leaves (R101, R143, R160, R172, R173, R190) -/

/-- The part as a system reset hands it to start-up, its take store being settled. -/
def resetFrom (s : State) : State := resetBlocks (rebaseCommits (resetVoices s))

theorem systemReset_eq : systemReset s = startUp (resetFrom (settleTakes s)) := rfl

theorem resetFrom_resetnLow : (resetFrom s).resetnLow = s.resetnLow := by
  simp only [resetFrom, resetBlocks, rebaseCommits, resetVoices, onCst_resetnLow, onVas_resetnLow, toneTeardown_resetnLow]

theorem resetFrom_tks : (resetFrom s).tks = s.tks := by
  simp only [resetFrom, resetBlocks, rebaseCommits, resetVoices, onCst_tks, onVas_tks, toneTeardown_tks]

theorem resetFrom_vas : (resetFrom s).vas = { (toneTeardown s).vas with startCounter := 0, layers := defaultLayers } := by
  simp only [resetFrom, resetBlocks, rebaseCommits, resetVoices, onCst_vas, onVas_vas]

theorem resetFrom_slot (n : Slot) : (resetFrom s).slot n = { gen := (s.slot n).gen + 1, stale := false, voice := none } := by
  have hslot : (resetFrom s).slot n = (toneTeardown s).slot n := by
    rw [State.slot, resetFrom_vas, State.slot]
  rw [hslot, toneTeardown_slot]
  rfl

theorem resetFrom_startCounter : (resetFrom s).vas.startCounter = 0 := by rw [resetFrom_vas]

theorem resetFrom_queue : (resetFrom s).vas.queue = [] := by
  rw [resetFrom_vas, toneTeardown, onVas_vas]

/-- A port at a system reset: the byte under way keeps its time when the clock goes back to 0 (logs 16, 46). -/
theorem resetFrom_link (l : Link) : (resetFrom s).link l =
    { lineLow := (s.link l).lineLow
      sending := (s.link l).sending.map fun sd =>
        { bytes := sd.bytes.take (elapsed s.clock sd.start / 5 + 1), start := sd.start - s.clock } } := by
  have hlinks : (resetVoices s).links = s.links := by rw [resetVoices, onVas_links, toneTeardown_links]
  have hclock : (resetVoices s).clock = s.clock := by rw [resetVoices, onVas_clock, toneTeardown_clock]
  simp only [State.link, resetFrom, resetBlocks, rebaseCommits, onCst_links, onCst_clock, hlinks, hclock]
  cases l <;> rfl

/-- The settled take store apart, the part is as it was. -/
theorem settleTakes_slot (n : Slot) : (settleTakes s).slot n = s.slot n := by
  rw [State.slot, settleTakes_store]
  rfl

theorem settleTakes_link (l : Link) : (settleTakes s).link l = s.link l := by
  rw [State.link, settleTakes_store]
  rfl

theorem settleTakes_clock : (settleTakes s).clock = s.clock := by rw [settleTakes_store]

theorem settleTakes_resetnLow : (settleTakes s).resetnLow = s.resetnLow := by rw [settleTakes_store]

/-- No port has its notices on at the reset, so CAL_INVALID reaches none (R172, R189). -/
theorem systemReset_link (l : Link) : (systemReset s).link l =
    { lineLow := (s.link l).lineLow
      sending := (s.link l).sending.map fun sd =>
        { bytes := sd.bytes.take (elapsed s.clock sd.start / 5 + 1), start := sd.start - s.clock } } := by
  have hkept := (silentPortKept_linkClosed l).startUp (resetFrom (settleTakes s))
  rw [systemReset_eq, hkept (by rw [resetFrom_link]; exact ⟨rfl, rfl, rfl⟩), resetFrom_link, settleTakes_link, settleTakes_clock]

theorem systemReset_tks : (systemReset s).tks = (settleTakes s).tks := by
  obtain ⟨_, _, _, _, h⟩ := startUp_frame (s := resetFrom (settleTakes s))
  rw [systemReset_eq, h, resetFrom_tks]

theorem systemReset_vas : (systemReset s).vas = (resetFrom (settleTakes s)).vas := by
  obtain ⟨_, _, _, _, h⟩ := startUp_frame (s := resetFrom (settleTakes s))
  rw [systemReset_eq, h]

theorem systemReset_slot (n : Slot) : (systemReset s).slot n = { gen := (s.slot n).gen + 1, stale := false, voice := none } := by
  rw [State.slot, systemReset_vas, ← State.slot, resetFrom_slot, settleTakes_slot]

theorem systemReset_phase : (systemReset s).phase = if s.resetnLow then .heldInReset else .loading := by
  rw [systemReset_eq, startUp_phase, resetFrom_resetnLow, settleTakes_resetnLow]

theorem systemReset_blocks : (systemReset s).ajn = {} ∧ (systemReset s).ply = {} ∧ (systemReset s).keys = State.reset.keys
    ∧ (systemReset s).roles = {} ∧ (systemReset s).clock = 0 ∧ (systemReset s).sysReset = .none := by
  have hfrom (v : State) : (resetFrom v).ajn = {} ∧ (resetFrom v).ply = {} ∧ (resetFrom v).keys = State.reset.keys
      ∧ (resetFrom v).roles = {} ∧ (resetFrom v).clock = 0 ∧ (resetFrom v).sysReset = .none := ⟨rfl, rfl, rfl, rfl, rfl, rfl⟩
  obtain ⟨_, _, _, _, h⟩ := startUp_frame (s := resetFrom (settleTakes s))
  rw [systemReset_eq, h]
  exact hfrom (settleTakes s)

theorem systemReset_take (n : TakeNo) : (systemReset s).take n = (settleTakes s).take n := by
  rw [State.take, systemReset_tks, ← State.take]

theorem systemReset_chain_closed (h : TakesSound s) {n : TakeNo} (hn : (s.take n).state = .closed) :
    takeChain (systemReset s) n = takeChain s n ∧ takeRecords (systemReset s) n = takeRecords s n := by
  have hchain : takeChain (systemReset s) n = takeChain s n :=
    (takeChain_congr (by rw [systemReset_take]) fun b _ => by rw [systemReset_tks]).trans (settleTakes_chain_closed h hn)
  refine ⟨hchain, takeRecords_congr ?_ hchain ?_⟩
  · rw [systemReset_take, settleTakes_take_closed hn]
  · rw [systemReset_tks, settleTakes_mem]

/-! ## SYSTEM RESET (R173) -/

theorem exec_systemReset {l : Link} {args : List Byte} (h : headRequest l s = some (kSystemReset, args)) :
    exec (.systemReset l) s = .next (putReply l kSystemReset (systemResetEffect l args (popRequest l s)).2
      (systemResetEffect l args (popRequest l s)).1) :=
  congrArg Host.Outcome.next (serve_taken _ h)

theorem systemResetEffect_panel {l : Link} (h : s.roles.panel = some l) (args : List Byte) :
    systemResetEffect l args s = done (if s.sysReset = .none then { s with sysReset := .awaitingReply l } else s) :=
  if_pos (by simp [holdsPanel, h])

theorem exec_systemResetEffect (h : s.sysReset = .arrived false false) :
    exec .systemResetEffect s = .next (systemReset s) := by
  simp [exec, execSystemResetEffect, resetDue, h]

/-- Settles O59: the request by whether a reset is awaited already, its effect block by block. -/
theorem systemResetActs : Obligations.SystemResetActs := by
  refine ⟨fun l args s h hp => ⟨fun hr => ?asked, fun hr => ?again⟩, fun s h => ?effect⟩
  case asked =>
    rw [exec_systemReset h, systemResetEffect_panel (s := popRequest l s) hp, if_pos (show (popRequest l s).sysReset = _ from hr)]
    rfl
  case again =>
    rw [exec_systemReset h, systemResetEffect_panel (s := popRequest l s) hp, if_neg (show ¬(popRequest l s).sysReset = _ from hr)]
    rfl
  case effect =>
    obtain ⟨hajn, hply, hkeys, hroles, hclock, hsys⟩ := systemReset_blocks (s := s)
    refine ⟨_, exec_systemResetEffect h, systemReset_slot, ?_, ?_, hajn, hply, hkeys, hroles, hclock, hsys, ?_, ?_,
      fun n hn => ?_, fun hs n hn => systemReset_chain_closed hs hn, fun n => ?_, systemReset_link, fun hl => ?_, fun hl => ?_⟩
    · rw [systemReset_vas, resetFrom_startCounter]
    · rw [systemReset_vas, resetFrom_queue]
    · rw [systemReset_tks, settleTakes_recorder]
    · rw [systemReset_tks, settleTakes_mem]
    · rw [systemReset_take, settleTakes_take_closed hn]
    · rw [systemReset_take]
      exact not_or.mp (settleTakes_not_open n)
    · rw [systemReset_phase, if_pos hl]
    · rw [systemReset_phase, hl]
      rfl

end Sys2Proof.Machine
end

section
namespace Sys2Proof.Machine

variable {s t u : State}

/-! ## SET LAYERS (R79) -/

theorem setLayersEffect_taken {args : List Byte} {y0 y1 y2 y3 : Layer} (hn : 20 ≤ args.length) (h0 : layerAt args 0 = some y0)
    (h1 : layerAt args 5 = some y1) (h2 : layerAt args 10 = some y2) (h3 : layerAt args 15 = some y3) :
    setLayersEffect args s = done (onVas (fun va => { va with layers := #v[y0, y1, y2, y3] }) s)
      (y0.bytes ++ y1.bytes ++ y2.bytes ++ y3.bytes) := by
  have hdata : (#v[y0, y1, y2, y3]).toList.flatMap Layer.bytes = y0.bytes ++ y1.bytes ++ y2.bytes ++ y3.bytes := by
    simp [List.flatMap_cons]
  rw [setLayersEffect, needs_enough _ hn, ← hdata]
  simp only [layersOf, h0, h1, h2, h3]

theorem exec_setLayers {l : Link} {args : List Byte} (h : headRequest l s = some (kSetLayers, args)) :
    exec (.setLayers l) s = .next (putReply l kSetLayers (setLayersEffect args (popRequest l s)).2
      (setLayersEffect args (popRequest l s)).1) :=
  congrArg Host.Outcome.next (serve_taken _ h)

/-! ## Strikes (R80, R81) -/

theorem voiceEvent_strike {e : Event} {k : Key} (hk : e.key = some k.val) (hs : e.kind = .strike ∨ e.kind = .restrike)
    (hg : e.flags.guide = false) : voiceEvent e s = voiceStrike k e.source e.value s := by
  rw [voiceEvent, if_pos ⟨hs, hg⟩, hk, Option.bind_some, finOf_val]

theorem voiceEvent_guided {e : Event} (hg : e.flags.guide = true) : voiceEvent e s = s :=
  if_neg fun h => by simp [hg] at h

theorem voiceStrike_tone (k : Key) (src : Source) (value : Nat) (h : s.roles.tone ≠ none) :
    voiceStrike k src value s = ((List.finRange 4).foldl (strikeLayer k src value) (s, [])).1 :=
  if_pos (Option.isSome_iff_ne_none.mpr h)

/-- A layer takes a strike when it is enabled, spans the key, admits the source and lets the live gate pass (R81). -/
theorem layerTakes_iff {y : Layer} {k : Key} {src : Source} : layerTakes s y k src = true ↔
    y.enabled = true ∧ y.low ≤ k ∧ k ≤ y.high
      ∧ (y.filter = .both ∨ y.filter = (match src with | .live => .live | .playback => .playback))
      ∧ (src = .playback ∨ soundRoute s = .silent ∨ y.acoustic = true) := by
  cases src <;> simp [layerTakes, gatePasses, and_assoc]

theorem voiceLevel_eq (value trim : Nat) : voiceLevel value trim = max 1 (min (value * trim / 100) 1023) :=
  clamp_eq_max_min (by decide) _

/-! ## One layer's part of a strike (R83, R94) -/

section Layer

variable {k : Key} {src : Source} {value : Nat} {used : List Slot} {li : Fin 4} {n : Slot}

theorem strikeLayer_untaken (h : ¬layerTakes s s.vas.layers[li] k src = true) :
    strikeLayer k src value (s, used) li = (s, used) :=
  if_neg h

theorem strikeLayer_full (h : layerTakes s s.vas.layers[li] k src = true) (hfull : 48 ≤ s.vas.queue.length) :
    strikeLayer k src value (s, used) li = (refuseVoice s, used) := by
  have hroom : queueRoom s = false := Bool.eq_false_iff.mpr fun hr => absurd (queueRoom_iff.mp hr) (Nat.not_lt.mpr hfull)
  simp only [strikeLayer, h, hroom, Bool.not_false, if_true]

/-- A steal is counted, up to 65,535 (R86). -/
def countSteal (steal : Bool) (s : State) : State :=
  { s with faults := { s.faults with steals := if steal then min (s.faults.steals + 1) 65535 else s.faults.steals } }

/-- The slot a layer's voice goes to: its own to re-trigger, else the lowest FREE one, else a victim (R83). -/
theorem strikeLayer_assigns {retrigger steal : Bool} (h : layerTakes s s.vas.layers[li] k src = true)
    (hroom : s.vas.queue.length < 48)
    (hslot : (sameVoiceSlot s k src li = some n ∧ retrigger = true ∧ steal = false)
      ∨ (sameVoiceSlot s k src li = none ∧ freeSlot s = some n ∧ retrigger = false ∧ steal = false)
      ∨ (sameVoiceSlot s k src li = none ∧ freeSlot s = none ∧ victim s used = some n ∧ retrigger = false ∧ steal = true)) :
    strikeLayer k src value (s, used) li = (assignSlot n li k src value retrigger steal (countSteal steal s), n :: used) := by
  have hr : (!queueRoom s) = false := by rw [queueRoom_iff.mpr hroom, Bool.not_true]
  rcases hslot with ⟨hsame, rfl, rfl⟩ | ⟨hsame, hfree, rfl, rfl⟩ | ⟨hsame, hfree, hvictim, rfl, rfl⟩
  · simp only [strikeLayer, h, hr, hsame, if_true, Bool.false_eq_true, if_false]
    rfl
  · simp only [strikeLayer, h, hr, hsame, hfree, if_true, Bool.false_eq_true, if_false]
    rfl
  · simp only [strikeLayer, h, hr, hsame, hfree, hvictim, if_true, Bool.false_eq_true, if_false]
    rfl

end Layer

/-! ## An assignment (R84 to R87) -/

/-- Slot `sl` after a recomputation: the voice `v` as `s` lifts it, whatever was last sent (R90). -/
def HoldsVoice (s : State) (v : Voice) (g : BitVec 8) (sl : VoiceSlot) : Prop :=
  ∃ sent, sl.voice = some { v.recomputed (appliedLift s v) with lastSent := sent } ∧ sl.gen = g

/-- A recomputation puts the slot and the queue, and behind the waiting orders only its own VOICE DAMP joins (R90, R92). -/
theorem recomputeSlot_puts {n : Slot} {v : Voice} (h : (s.slot n).voice = some v) :
    ∃ sl q links, recomputeSlot n s = { setSlot n sl (onQueue (fun _ => q) s) with links := links }
      ∧ HoldsVoice s v (s.slot n).gen sl
      ∧ (s.vas.queue.any (VoiceOrder.isDampOf n (s.slot n).gen) = false → s.vas.queue <+: q) := by
  let x := appliedLift s v
  let sent : VoiceSlot := { s.slot n with stale := false, voice := some { v.recomputed x with lastSent := x } }
  by_cases hc : SlotCalls s n v
  · cases hw : s.vas.queue.any (VoiceOrder.isDampOf n (s.slot n).gen) with
    | true =>
      rw [recomputeSlot_coalesced h hc hw]
      exact ⟨sent, s.vas.queue.map fun o => if o.isDampOf n (s.slot n).gen then o.withLift x else o, s.links, rfl,
        ⟨_, rfl, rfl⟩, nofun⟩
    | false =>
      by_cases hroom : s.vas.queue.length < 48
      · rw [recomputeSlot_queued h hc hw hroom, queueOrder_eq]
        split
        · exact ⟨sent, _, _, rfl, ⟨_, rfl, rfl⟩, fun _ => List.prefix_append ..⟩
        · exact ⟨sent, _, _, rfl, ⟨_, rfl, rfl⟩, fun _ => List.prefix_append ..⟩
      · rw [recomputeSlot_dropped h hc hw (Nat.not_lt.mp hroom)]
        exact ⟨{ s.slot n with stale := true, voice := some (v.recomputed x) }, s.vas.queue, s.links, rfl,
          ⟨v.lastSent, rfl, rfl⟩, fun _ => List.prefix_rfl⟩
  · rw [recomputeSlot_uncalled h hc]
    exact ⟨{ s.slot n with voice := some (v.recomputed x) }, s.vas.queue, s.links, rfl, ⟨v.lastSent, rfl, rfl⟩,
      fun _ => List.prefix_rfl⟩

/-- The voice a strike starts, before its lift is computed (R84). -/
def freshVoice (s : State) (li : Fin 4) (k : Key) (src : Source) (value : Nat) : Voice :=
  { damped := false, key := k, source := src, layer := li, follows := s.vas.layers[li].follows
    level := voiceLevel value s.vas.layers[li].trim, applied := 255, lastSent := 255, startOrder := s.vas.startCounter }

/-- The slot assigned and the start counter moved on, the VOICE START still to be queued (R84, R87). -/
def putVoice (n : Slot) (v : Voice) (s : State) : State :=
  onVas (fun va => { va with startCounter := va.startCounter + 1 })
    (setSlot n { gen := (s.slot n).gen + 1, stale := false, voice := some v } s)

theorem putVoice_slot_same (n : Slot) (v : Voice) :
    (putVoice n v s).slot n = { gen := (s.slot n).gen + 1, stale := false, voice := some v } :=
  State.slot_setSlot_same n _

theorem putVoice_slot_ne {m n : Slot} (v : Voice) (h : m ≠ n) : (putVoice n v s).slot m = s.slot m :=
  State.slot_setSlot_ne _ h

/-- The VOICE START of an assignment (R85). -/
def startOrder (n : Slot) (li : Fin 4) (k : Key) (src : Source) (value : Nat) (retrigger steal : Bool) (s : State) : VoiceOrder :=
  .start n ((s.slot n).gen + 1) k s.vas.layers[li].program (voiceLevel value s.vas.layers[li].trim) src retrigger steal

theorem assignSlot_eq (n : Slot) (li : Fin 4) (k : Key) (src : Source) (value : Nat) (retrigger steal : Bool) :
    assignSlot n li k src value retrigger steal s =
      recomputeSlot n (queueOrder (startOrder n li k src value retrigger steal s) (putVoice n (freshVoice s li k src value) s)) :=
  rfl

theorem queueOrder_queue (o : VoiceOrder) : (queueOrder o s).vas.queue = s.vas.queue ++ [o] := by
  rw [queueOrder_eq]
  split <;> rfl

theorem queueOrder_counter (o : VoiceOrder) : (queueOrder o s).vas.startCounter = s.vas.startCounter := by
  rw [queueOrder_eq]
  split <;> rfl

theorem queueOrder_layers (o : VoiceOrder) : (queueOrder o s).vas.layers = s.vas.layers := by
  rw [queueOrder_eq]
  split <;> rfl

/-- What an assignment leaves: the slot's voice and generation, the order behind what waits, the counter; and it touches only
the voice assigner and links (R84 to R87). -/
structure Assigned (s t : State) (n : Slot) (v : Voice) (o : VoiceOrder) : Prop where
  queue : s.vas.queue.any (VoiceOrder.isDampOf n ((s.slot n).gen + 1)) = false → s.vas.queue ++ [o] <+: t.vas.queue
  startCounter : t.vas.startCounter = s.vas.startCounter + 1
  layers : t.vas.layers = s.vas.layers
  slot : HoldsVoice s v ((s.slot n).gen + 1) (t.slot n)
  others : ∀ m, m ≠ n → t.slot m = s.slot m
  only : OrdersOnly s t

theorem assignSlot_assigned (n : Slot) (li : Fin 4) (k : Key) (src : Source) (value : Nat) (retrigger steal : Bool) :
    Assigned s (assignSlot n li k src value retrigger steal s) n (freshVoice s li k src value)
      (startOrder n li k src value retrigger steal s) := by
  rw [assignSlot_eq]
  generalize ho : startOrder n li k src value retrigger steal s = o
  generalize freshVoice s li k src value = v
  have honly : OrdersOnly s (queueOrder o (putVoice n v s)) :=
    ((setSlot_orders _ _).trans (onVas_orders _)).trans (queueOrder_orders o)
  have hslot : (queueOrder o (putVoice n v s)).slot n = { gen := (s.slot n).gen + 1, stale := false, voice := some v } := by
    rw [queueOrder_slot, putVoice_slot_same]
  have hgen : ((queueOrder o (putVoice n v s)).slot n).gen = (s.slot n).gen + 1 := congrArg VoiceSlot.gen hslot
  have hcounter : (queueOrder o (putVoice n v s)).vas.startCounter = s.vas.startCounter + 1 := queueOrder_counter o
  have hlayers : (queueOrder o (putVoice n v s)).vas.layers = s.vas.layers := queueOrder_layers o
  obtain ⟨sl, q, links, he, ⟨sent, hvoice, hkept⟩, hq⟩ := recomputeSlot_puts (congrArg VoiceSlot.voice hslot)
  refine ⟨fun hwait => ?queue, ?counter, ?layers, ?slot, fun m hm => ?others, honly.trans (recomputeSlot_orders n)⟩
  case queue =>
    have hjoined : (queueOrder o (putVoice n v s)).vas.queue = s.vas.queue ++ [o] := queueOrder_queue o
    have hstart : VoiceOrder.isDampOf n ((s.slot n).gen + 1) o = false := by
      rw [← ho]
      rfl
    rw [hgen, hjoined, List.any_append, hwait, List.any_cons, hstart] at hq
    rw [he]
    exact hq rfl
  case counter =>
    rw [he]
    exact hcounter
  case layers =>
    rw [he]
    exact hlayers
  case slot =>
    refine ⟨sent, ?_, ?_⟩
    · rw [he, ← honly.appliedLift, ← hvoice]
      exact congrArg VoiceSlot.voice (State.slot_setSlot_same n sl)
    · rw [he, ← hgen, ← hkept]
      exact congrArg VoiceSlot.gen (State.slot_setSlot_same n sl)
  case others =>
    rw [recomputeSlot_slot_ne hm, queueOrder_slot, putVoice_slot_ne v hm]

/-! ## Which slot is found (R83, R86) -/

theorem freeSlot_some {n : Slot} (h : freeSlot s = some n) : (s.slot n).voice = none ∧ ∀ m < n, (s.slot m).voice ≠ none := by
  obtain ⟨hn, i, hi, rfl, hbefore⟩ := List.find?_eq_some_iff_getElem.mp h
  refine ⟨Option.isNone_iff_eq_none.mp hn, fun m hm hfree => ?_⟩
  have hlt : m.val < i := by simpa [Fin.lt_def] using hm
  simpa [hfree] using hbefore m.val hlt

theorem freeSlot_none : freeSlot s = none ↔ ∀ n, (s.slot n).voice ≠ none := by
  simp [freeSlot, List.find?_eq_none]

/-- Slot `n` holds a voice of this key, source and layer (R83). -/
def sameVoice (s : State) (k : Key) (src : Source) (li : Fin 4) (n : Slot) : Bool :=
  match (s.slot n).voice with
  | some v => v.key == k && v.source == src && v.layer == li
  | none => false

theorem sameVoiceSlot_eq (k : Key) (src : Source) (li : Fin 4) :
    sameVoiceSlot s k src li = (List.finRange 128).find? (sameVoice s k src li) := rfl

theorem sameVoice_iff {k : Key} {src : Source} {li : Fin 4} {n : Slot} : sameVoice s k src li n = true ↔
    ∃ v, (s.slot n).voice = some v ∧ v.key = k ∧ v.source = src ∧ v.layer = li := by
  unfold sameVoice
  cases (s.slot n).voice with
  | none => simp
  | some v => simp [and_assoc]

theorem sameVoiceSlot_some {k : Key} {src : Source} {li : Fin 4} {n : Slot} (h : sameVoiceSlot s k src li = some n) :
    ∃ v, (s.slot n).voice = some v ∧ v.key = k ∧ v.source = src ∧ v.layer = li := by
  rw [sameVoiceSlot_eq] at h
  exact sameVoice_iff.mp (List.find?_some h)

theorem sameVoiceSlot_none {k : Key} {src : Source} {li : Fin 4} : sameVoiceSlot s k src li = none ↔
    ¬∃ n v, (s.slot n).voice = some v ∧ v.key = k ∧ v.source = src ∧ v.layer = li := by
  rw [sameVoiceSlot_eq, List.find?_eq_none, not_exists]
  exact ⟨fun h n hn => h n (List.mem_finRange n) (sameVoice_iff.mpr hn), fun h n _ hn => h n (sameVoice_iff.mp hn)⟩

/-! ### The oldest slot (R77) -/

/-- One slot's turn in the search for the oldest of those that `p` selects. -/
def olderOf (s : State) (p : Slot → Voice → Bool) (best : Option (Slot × Nat)) (n : Slot) : Option (Slot × Nat) :=
  match (s.slot n).voice with
  | none => best
  | some v =>
    if p n v then
      match best with
      | none => some (n, voiceAge s v)
      | some (_, a) => if a < voiceAge s v then some (n, voiceAge s v) else best
    else best

theorem oldestSlot_eq (p : Slot → Voice → Bool) :
    oldestSlot s p = ((List.finRange 128).foldl (olderOf s p) none).map (·.1) := rfl

/-- `best` is the oldest of the slots of `ns` that `p` selects, with its age. -/
def IsOldest (s : State) (p : Slot → Voice → Bool) (ns : List Slot) : Option (Slot × Nat) → Prop
  | none => ∀ n ∈ ns, ∀ v, (s.slot n).voice = some v → p n v = false
  | some (n, a) => (∃ v, (s.slot n).voice = some v ∧ p n v = true ∧ voiceAge s v = a)
      ∧ ∀ m ∈ ns, ∀ w, (s.slot m).voice = some w → p m w = true → voiceAge s w ≤ a

section Oldest

variable {p : Slot → Voice → Bool} {ns : List Slot} {best : Option (Slot × Nat)} {n : Slot} {v : Voice}

/-- A slot that is FREE or that `p` leaves out changes nothing of the search. -/
theorem IsOldest.skip (h : IsOldest s p ns best) (hn : ∀ v, (s.slot n).voice = some v → p n v = false) :
    IsOldest s p (ns ++ [n]) best := by
  cases best with
  | none =>
    intro m hm
    rcases List.mem_append.mp hm with hm | hm
    · exact h m hm
    · rw [List.mem_singleton.mp hm]
      exact hn
  | some b =>
    refine ⟨h.1, fun m hm w hw hp => ?_⟩
    rcases List.mem_append.mp hm with hm | hm
    · exact h.2 m hm w hw hp
    · rw [List.mem_singleton.mp hm] at hw hp
      exact absurd hp (by simp [hn w hw])

/-- A selected slot as old as every one before it is the oldest so far. -/
theorem IsOldest.take (hv : (s.slot n).voice = some v) (hp : p n v = true)
    (hold : ∀ m ∈ ns, ∀ w, (s.slot m).voice = some w → p m w = true → voiceAge s w ≤ voiceAge s v) :
    IsOldest s p (ns ++ [n]) (some (n, voiceAge s v)) := by
  refine ⟨⟨v, hv, hp, rfl⟩, fun m hm w hw hpw => ?_⟩
  rcases List.mem_append.mp hm with hm | hm
  · exact hold m hm w hw hpw
  · rw [List.mem_singleton.mp hm, hv] at hw
    rw [Option.some.inj hw]

theorem IsOldest.olderOf (h : IsOldest s p ns best) (n : Slot) : IsOldest s p (ns ++ [n]) (olderOf s p best n) := by
  cases hv : (s.slot n).voice with
  | none =>
    simp only [Machine.olderOf, hv]
    exact h.skip fun w hw => absurd (hv.symm.trans hw) nofun
  | some v =>
    by_cases hp : p n v = true
    · cases best with
      | none =>
        simp only [Machine.olderOf, hv, hp, if_true]
        exact .take hv hp fun m hm w hw hpw => absurd hpw (by simp [h m hm w hw])
      | some b =>
        simp only [Machine.olderOf, hv, hp, if_true]
        split
        · rename_i hlt
          exact .take hv hp fun m hm w hw hpw => (h.2 m hm w hw hpw).trans hlt.le
        · rename_i hle
          refine ⟨h.1, fun m hm w hw hpw => ?_⟩
          rcases List.mem_append.mp hm with hm | hm
          · exact h.2 m hm w hw hpw
          · rw [List.mem_singleton.mp hm, hv] at hw
            rw [← Option.some.inj hw]
            exact Nat.not_lt.mp hle
    · simp only [Machine.olderOf, hv, hp]
      exact h.skip fun w hw => by
        rw [← Option.some.inj (hv.symm.trans hw)]
        exact Bool.eq_false_iff.mpr hp

theorem IsOldest.foldl (h : IsOldest s p ns best) (ms : List Slot) :
    IsOldest s p (ns ++ ms) (ms.foldl (Machine.olderOf s p) best) := by
  induction ms generalizing ns best with
  | nil => rwa [List.append_nil]
  | cons m ms ih =>
    have hstep := ih (h.olderOf m)
    rwa [List.append_assoc, List.singleton_append] at hstep

theorem isOldest_finRange : IsOldest s p (List.finRange 128) ((List.finRange 128).foldl (olderOf s p) none) :=
  IsOldest.foldl (ns := []) (best := none) (fun _ hn => absurd hn List.not_mem_nil) (List.finRange 128)

theorem oldestSlot_some (h : oldestSlot s p = some n) : ∃ v, (s.slot n).voice = some v ∧ p n v = true
    ∧ ∀ m w, (s.slot m).voice = some w → p m w = true → voiceAge s w ≤ voiceAge s v := by
  rw [oldestSlot_eq] at h
  obtain ⟨⟨n, a⟩, hbest, rfl⟩ := Option.map_eq_some_iff.mp h
  have hold := isOldest_finRange (s := s) (p := p)
  rw [hbest] at hold
  obtain ⟨⟨v, hv, hp, rfl⟩, hold⟩ := hold
  exact ⟨v, hv, hp, fun m => hold m (List.mem_finRange m)⟩

theorem oldestSlot_none (h : oldestSlot s p = none) (hv : (s.slot n).voice = some v) : p n v = false := by
  rw [oldestSlot_eq] at h
  have hold := isOldest_finRange (s := s) (p := p)
  rw [Option.map_eq_none_iff.mp h] at hold
  exact hold n (List.mem_finRange n) v hv

end Oldest

/-! ### The victim of a steal (R86) -/

/-- The rank in which voices are stolen: DAMPED first, then those whose key is not held, then the rest (R86). -/
def stealRank (s : State) (v : Voice) : Nat := if v.damped then 0 else if keyHeld s v then 2 else 1

/-- A victim is not yet used, and no unused voice ranks before it or is older in its rank. -/
theorem victim_some {used : List Slot} {n : Slot} (h : victim s used = some n) :
    n ∉ used ∧ ∃ v, (s.slot n).voice = some v ∧ ∀ m w, m ∉ used → (s.slot m).voice = some w →
      stealRank s v < stealRank s w ∨ (stealRank s v = stealRank s w ∧ voiceAge s w ≤ voiceAge s v) := by
  unfold victim at h
  rcases hdamped : oldestSlot s (fun n v => v.damped && !used.contains n) with _ | d
  · have hundamped (m : Slot) (w : Voice) (hm : m ∉ used) (hw : (s.slot m).voice = some w) : w.damped = false := by
      simpa [hm] using oldestSlot_none hdamped hw
    rcases hreleased : oldestSlot s (fun n v => !v.damped && !keyHeld s v && !used.contains n) with _ | r
    · rw [hdamped, hreleased, Option.none_or, Option.none_or] at h
      have hheld (m : Slot) (w : Voice) (hm : m ∉ used) (hw : (s.slot m).voice = some w) : keyHeld s w = true := by
        simpa [hm, hundamped m w hm hw] using oldestSlot_none hreleased hw
      obtain ⟨v, hv, hp, hold⟩ := oldestSlot_some h
      have hn : n ∉ used := by simpa [hundamped] using (Bool.and_eq_true_iff.mp hp).2
      refine ⟨hn, v, hv, fun m w hm hw => .inr ⟨?_, hold m w hw (by simp [hundamped m w hm hw, hm])⟩⟩
      simp [stealRank, hundamped m w hm hw, hundamped n v hn hv, hheld m w hm hw, hheld n v hn hv]
    · rw [hdamped, hreleased, Option.none_or, Option.some_or] at h
      cases h
      obtain ⟨v, hv, hp, hold⟩ := oldestSlot_some hreleased
      simp only [Bool.and_eq_true, Bool.not_eq_true', List.contains_eq_mem, decide_eq_false_iff_not] at hp
      obtain ⟨⟨hd, hk⟩, hn⟩ := hp
      refine ⟨hn, v, hv, fun m w hm hw => ?_⟩
      cases hkw : keyHeld s w with
      | true => exact .inl (by simp [stealRank, hd, hk, hundamped m w hm hw, hkw])
      | false =>
        exact .inr ⟨by simp [stealRank, hd, hk, hundamped m w hm hw, hkw],
          hold m w hw (by simp [hundamped m w hm hw, hkw, hm])⟩
  · rw [hdamped, Option.some_or] at h
    cases h
    obtain ⟨v, hv, hp, hold⟩ := oldestSlot_some hdamped
    simp only [Bool.and_eq_true, Bool.not_eq_true', List.contains_eq_mem, decide_eq_false_iff_not] at hp
    obtain ⟨hd, hn⟩ := hp
    refine ⟨hn, v, hv, fun m w hm hw => ?_⟩
    cases hdw : w.damped with
    | true => exact .inr ⟨by simp [stealRank, hd, hdw], hold m w hw (by simp [hdw, hm])⟩
    | false =>
      cases hkw : keyHeld s w <;> exact .inl (by simp [stealRank, hd, hdw, hkw])

theorem victim_none {used : List Slot} : victim s used = none ↔ ∀ n, (s.slot n).voice ≠ none → n ∈ used := by
  constructor
  · intro h n hv
    obtain ⟨v, hv⟩ := Option.ne_none_iff_exists'.mp hv
    obtain ⟨hdamped, -, hlast⟩ : _ ∧ _ ∧ _ := by simpa only [victim, Option.or_eq_none_iff] using h
    by_contra hn
    have hd : v.damped = false := by simpa [hn] using oldestSlot_none hdamped hv
    simpa [hn, hd] using oldestSlot_none hlast hv
  · intro h
    by_contra hsome
    obtain ⟨n, hn⟩ := Option.ne_none_iff_exists'.mp hsome
    obtain ⟨hunused, v, hv, -⟩ := victim_some hn
    exact hunused (h n (by simp [hv]))

/-- Settles O28: the request and the hand-over of a strike by their equations, one layer's part by the branch it takes, and
the slot found by the searches' own properties. -/
theorem setLayersReplacesList : Obligations.SetLayersReplacesList := by
  refine ⟨⟨?layers, ?events, ?strikes, fun s => ⟨fun n => freeSlot_some, fun k src li n => sameVoiceSlot_some, ?victims⟩⟩,
    fun s => ⟨freeSlot_none, fun k src li => sameVoiceSlot_none, fun used => victim_none⟩⟩
  case layers =>
    intro l args y0 y1 y2 y3 s h hn h0 h1 h2 h3
    rw [exec_setLayers h, setLayersEffect_taken hn h0 h1 h2 h3]
    rfl
  case events =>
    refine fun e k s hk hs => ⟨fun hg ht => ?_, fun h => h.elim voiceEvent_guided (voiceEvent_noTone e)⟩
    rw [voiceEvent_strike hk hs hg, voiceStrike_tone _ _ _ ht]
  case strikes =>
    intro k src value used li s y takes level
    have htakes : layerTakes s y k src = true ↔ takes := layerTakes_iff
    have hlevel : voiceLevel value y.trim = level := voiceLevel_eq value y.trim
    refine ⟨fun h => strikeLayer_untaken (mt htakes.mp h), fun h hfull => strikeLayer_full (htakes.mpr h) hfull,
      fun n retrigger steal h hroom hcase => ?_⟩
    clear_value level
    subst hlevel
    have hassigned := assignSlot_assigned (s := countSteal steal s) n li k src value retrigger steal
    have hstrike := strikeLayer_assigns (value := value) (htakes.mpr h) hroom hcase
    generalize assignSlot n li k src value retrigger steal (countSteal steal s) = t at hassigned hstrike
    obtain ⟨hqueue, hcounter, hlayers, ⟨sent, hvoice, hgen⟩, hothers, honly⟩ := hassigned
    have hfaults : t.faults = (countSteal steal s).faults := by rw [honly]
    exact ⟨t, _, hstrike, hqueue, hcounter, hlayers, hgen, hvoice, rfl, rfl, rfl, rfl, rfl, rfl, rfl, rfl, hothers, hfaults,
      Eq.trans honly (congrArg (fun f => { s with vas := t.vas, links := t.links, faults := f }) hfaults.symm)⟩
  case victims =>
    intro used n h rank
    have hrank : rank = stealRank s := funext fun w => by
      cases hsrc : w.source <;> simp [rank, stealRank, keyHeld, hsrc]
    rw [hrank]
    exact victim_some h

end Sys2Proof.Machine
end

section
namespace Sys2Proof.Machine

variable {s t u : State}

/-! ## What reaches the rail

A relation between states that says nothing of the blocks apart from the rail is closed under most of the part: the other
blocks reach the rail by a test for quiet, by a change of demand, and by the flag of sensing seen only. -/

/-- A relation that holds where the rail is as it was, and across each operation by which the other blocks reach the
rail. -/
structure RailClosed (R : State → State → Prop) : Prop where
  trans : ∀ {a b c}, R a b → R b c → R a c
  blocks : ∀ {a b : State}, b.rlc = a.rlc → R a b
  quieted : ∀ s, R s (quietMove s)
  demanded : ∀ d s, R s (setDemand d s)
  seen : ∀ s, R s (onRlc (fun r => { r with sensingSeen := true }) s)

namespace RailClosed

variable {R : State → State → Prop} (c : RailClosed R)

include c

protected theorem refl (s : State) : R s s := c.blocks rfl

/-- A change that leaves the rail, and what follows it. -/
protected theorem after {a b t : State} (h : R b t) (hrlc : b.rlc = a.rlc := by rfl) : R a t := c.trans (c.blocks hrlc) h

/-- A command that may do nothing. -/
protected theorem ite {p : Prop} [Decidable p] {s t : State} (h : R s t) : R s (if p then t else s) := by
  split
  · exact h
  · exact c.refl s

protected theorem action (h : ActionOnly s t) : R s t := by
  obtain ⟨_, _, _, _, _, _, _, _, rfl⟩ := h
  exact c.blocks rfl

protected theorem play (h : PlayOnly s t) : R s t := c.action h.action

protected theorem take (h : TakeOnly s t) : R s t := c.action h.action

protected theorem report (h : ReportOnly s t) : R s t := c.take h.take

protected theorem deriveLever (s : State) : R s (deriveLever s) := c.demanded _ _

/-! ### Keys and pedals (02, 03) -/

protected theorem keyChannelFailed (hammer : Bool) (k : Key) (time : Clock) (s : State) :
    R s (keyChannelFailed hammer k time s) := by
  have hreleased (e : Event) (v : State) : R v (if (v.key k).sounding then
      onKey k (fun r => { r with sounding := false }) (trackerEvent e v) else v) :=
    c.ite (c.action ((trackerEvent_only e).trans (onKey_only k _)))
  have hup (f : KeyRec → KeyRec) (v : State) : R v (setKeyLift k 0 (onKey k f v)) :=
    c.action ((onKey_only k f).trans (setKeyLift_only k 0))
  have hhammer (v : State) : R v (if hammer then onKey k (fun r => { r with hammerTime := none }) v else v) :=
    c.ite (c.blocks rfl)
  unfold keyChannelFailed
  dsimp only
  exact c.trans (c.trans (c.trans (c.trans (c.after (c.quieted _)) (hreleased _ _)) (hup _ _)) (hhammer _))
    (c.action ((trackerEvent_only _).trans (raiseAll_only _).report.take.action))

protected theorem keyChannelRecovered (hammer : Bool) (k : Key) (time : Clock) (s : State) :
    R s (keyChannelRecovered hammer k time s) := by
  have hback (f : KeyRec → KeyRec) : R s (quietMove (onKey k f s)) := c.after (c.quieted _)
  have hevent (failed : Bool) (e : Event) (v : State) : R v (if failed then v else trackerEvent e v) := by
    cases failed
    · exact c.action (trackerEvent_only e)
    · exact c.refl v
  exact c.trans (hback _) (hevent _ _ _)

/-! ### Conversions and walks (01) -/

protected theorem convertKey (k : Key) (time : Clock) (raw : Nat) (s : State) : R s (convertKey k time raw s) :=
  c.after
    (convert_rel c.refl c.trans (failed := fun v => keyChannelFailed false k time (reportFault .sensorFail v))
      (fun _ => c.after (c.keyChannelFailed _ _ _ _)) (c.keyChannelRecovered _ _ _)
      (fun _ => c.action (keyDepthSample_only _ _ _ _)) _ _ _
      (onSfe (fun f => { f with keyCh := f.keyCh.set k (channelTest s.sfe.keyCh[k] raw).record }) s))

protected theorem convertHammer (k : Key) (time : Clock) (raw : Nat) (s : State) : R s (convertHammer k time raw s) :=
  c.after
    (convert_rel c.refl c.trans (failed := fun v => keyChannelFailed true k time (reportFault .sensorFail v))
      (fun _ => c.after (c.keyChannelFailed _ _ _ _)) (c.keyChannelRecovered _ _ _)
      (fun _ => c.trans (c.action (hammerSample_only _ _ _ _)) (c.quieted _)) _ _ _
      (onSfe (fun f => { f with hammerCh := f.hammerCh.set k (channelTest s.sfe.hammerCh[k] raw).record }) s))

protected theorem convertResult (g : Group) (time : Clock) (s : State) (r : AinResult) :
    R s (convertResult g time s r) := by
  unfold convertResult
  cases g with
  | k n => exact c.convertKey _ _ _ _
  | h n => exact c.convertHammer _ _ _ _
  | p =>
    cases groupPedal r.ain with
    | none => exact c.refl _
    | some p => exact c.after (c.action (convertPedal_action p time r.raw))

protected theorem startFrame (s : State) : R s (startFrame s) := by
  rw [startFrame_eq]
  exact c.blocks rfl

protected theorem frameEnd (s : State) : R s (frameEnd s) := by
  have hseen (v : State) : R v (seeSensing v) := by
    unfold seeSensing
    split
    · exact c.refl _
    · exact c.trans (c.seen _) (c.quieted _)
  exact c.after (hseen _)

protected theorem endWalk (looped : Bool) (s : State) : R s (endWalk looped s) := by
  have hreported : R s (if looped then reportFault .listLoop s else s) := c.ite (c.blocks rfl)
  have hended : R s (walkEnded looped s) := c.trans (c.trans hreported (c.frameEnd _)) (c.blocks rfl)
  have hoverrun (v : State) : R v (frameOverrun v) := c.blocks rfl
  cases h : endsLate s with
  | false =>
    rw [endWalk_in_time looped h]
    exact hended
  | true =>
    rw [endWalk_late looped h]
    exact c.trans (c.trans hended (hoverrun _)) (c.startFrame _)

protected theorem nextEntry (pos : WalkPos) (s : State) : R s (nextEntry pos s) := by
  unfold nextEntry
  dsimp only
  split_ifs
  · exact c.endWalk _ _
  · exact c.endWalk _ _
  · rw [beginEntry_eq]
    exact c.blocks rfl

/-! ### Lines (09) -/

protected theorem linkReset (l : Link) (s : State) : R s (linkReset l s) := by
  rw [linkReset_demandThen]
  exact c.trans (c.after (c.demanded _ (portReset l s))) (c.blocks rfl)

protected theorem discardFrame (l : Link) (s : State) : R s (discardFrame l s) := c.blocks rfl

protected theorem takeByte (l : Link) (b : Byte) (stopLow : Bool) (s : State) : R s (takeByte l b stopLow s) := by
  have hcomplete (payload : List Byte) : R s (completeFrame l payload s) := by
    unfold completeFrame
    split
    · exact c.linkReset l s
    · exact c.blocks rfl
  unfold takeByte
  split
  · exact c.ite (c.blocks rfl)
  · split
    · exact c.blocks rfl
    · exact c.discardFrame l s
  · split_ifs
    · exact c.discardFrame l s
    · exact c.blocks rfl
    · exact c.blocks rfl
  · split
    · exact hcomplete _
    · exact c.discardFrame l s

/-! ### Start-up (R189) -/

protected theorem loadRegions (s : State) : R s (loadRegions s) :=
  c.after (b := onCst Cst.load { s with phase := .loading })
    (c.report ((reportInvalid_only _).trans (reportInvalid_only _)))

protected theorem startUp (s : State) : R s (startUp s) := by
  unfold startUp
  split
  · exact c.blocks rfl
  · exact c.loadRegions _

end RailClosed

end Sys2Proof.Machine
end

section
namespace Sys2Proof.Machine

/-! ## What holds across the requests that leave the rail to its own commands (R164) -/

namespace RailClosed

variable {R : State → State → Prop} (c : RailClosed R)

include c

protected theorem serve {effect : List Byte → State → State × Reply} (h : EffectRel R effect) (l : Link) (k : Byte) (s : State) :
    R s (serve l k effect s) := serve_rel c.refl c.trans (fun hl => c.report hl.report) h l k s

protected theorem needs {n : Nat} {args : List Byte} {s : State} {go : State × Reply} (h : R s go.1) :
    R s (needs n args s go).1 := by
  unfold needs
  split
  · exact c.refl _
  · exact h

protected theorem playerNeeds {n : Nat} {args : List Byte} {s : State} {go : State × Reply} (h : R s go.1) :
    R s (playerNeeds n args s go).1 := by
  unfold playerNeeds
  split
  · exact c.refl _
  · exact h

/-! ### Links, journal, notices, the rail read -/

protected theorem helloEffect (l : Link) : EffectRel R (helloEffect l) := fun _ s => c.refl s

protected theorem setLinkEffect (l : Link) : EffectRel R (setLinkEffect l) := fun args s => by
  refine c.needs ?_
  split
  · dsimp only
    split <;> exact c.blocks rfl
  · exact c.refl _

protected theorem claimRoleEffect (l : Link) : EffectRel R (claimRoleEffect l) := fun args s => by
  unfold claimRoleEffect
  split
  · exact c.refl _
  · split
    · split_ifs
      · exact c.refl _
      · exact c.refl _
      · exact c.after (c.play ((softClaimed_only .live).trans (softClaimed_only .playback)).play)
    · split_ifs <;> exact c.blocks rfl
    · exact c.refl _

protected theorem readKeysEffect (l : Link) : EffectRel R (readKeysEffect l) := fun args s => by
  refine c.needs ?_
  dsimp only
  split <;> exact c.refl s

protected theorem setWindowEffect (l : Link) : EffectRel R (setWindowEffect l) := fun args s => by
  refine c.needs ?_
  split <;> exact c.blocks rfl

protected theorem readWindowEffect (l : Link) : EffectRel R (readWindowEffect l) := fun args s => by
  refine c.needs ?_
  dsimp only
  split <;> exact c.refl s

protected theorem depthStreamEffect (l : Link) : EffectRel R (depthStreamEffect l) := fun args s => by
  refine c.needs ?_
  dsimp only
  split <;> exact c.blocks rfl

protected theorem setScanListEffect : EffectRel R setScanListEffect := fun args s => by
  refine c.needs ?_
  dsimp only
  split
  · exact c.refl _
  · split <;> exact c.blocks rfl

protected theorem systemResetEffect (l : Link) : EffectRel R (systemResetEffect l) := fun args s => by
  unfold systemResetEffect done
  split
  · exact c.ite (c.blocks rfl)
  · exact c.refl _

protected theorem openJournalEffect (l : Link) : EffectRel R (openJournalEffect l) := fun args s => by
  refine c.needs ?_
  dsimp only
  split <;> exact c.blocks rfl

protected theorem readJournalEffect (l : Link) : EffectRel R (readJournalEffect l) := fun args s => by
  refine c.needs ?_
  split <;> exact c.blocks rfl

protected theorem closeJournalEffect (l : Link) : EffectRel R (closeJournalEffect l) := fun args s => by
  unfold closeJournalEffect
  split <;> exact c.blocks rfl

protected theorem noticeSetEffect (l : Link) : EffectRel R (noticeSetEffect l) := fun args s => by
  refine c.needs ?_
  split
  · exact c.refl _
  · split <;> exact c.blocks rfl

protected theorem noticeMaskEffect (l : Link) : EffectRel R (noticeMaskEffect l) := fun args s => by
  refine c.needs ?_
  dsimp only
  split <;> exact c.blocks rfl

protected theorem readFaultsEffect : EffectRel R readFaultsEffect := fun args s => by
  refine c.needs ?_
  split <;> exact c.refl s

protected theorem clearFaultsEffect : EffectRel R clearFaultsEffect := fun _ _ => c.needs (c.blocks rfl)

protected theorem readRailEffect : EffectRel R readRailEffect := fun _ s => c.refl s

/-! ### Voices -/

protected theorem setLayersEffect : EffectRel R setLayersEffect := fun args s => by
  refine c.needs ?_
  split <;> exact c.blocks rfl

protected theorem readVoicesEffect (l : Link) : EffectRel R (readVoicesEffect l) := fun args s => by
  refine c.needs ?_
  dsimp only
  split <;> exact c.refl s

protected theorem voiceEndedEffect (l : Link) : EffectRel R (voiceEndedEffect l) := fun args s => by
  unfold voiceEndedEffect
  split
  · split
    · exact c.refl _
    · exact c.play ((foldl_endPair_voice _ (s, 0, 0)).trans (staleReported_only _).voice).play
  · exact c.refl _

/-! ### Takes -/

protected theorem takeRecordEffect : EffectRel R takeRecordEffect := fun args s => by
  refine c.needs ?_
  split
  · exact c.refl _
  · split_ifs
    · exact c.refl _
    · exact c.refl _
    · exact c.refl _
    · split
      · exact c.refl _
      · exact c.take (beginRecording_only _ _ _)

protected theorem takeStopEffect : EffectRel R takeStopEffect := fun args s => by
  unfold takeStopEffect
  split
  · exact c.refl _
  · exact c.take (stopRecording_only _)
  · exact c.take (stopRecording_only _)

protected theorem takeLoadEffect : EffectRel R takeLoadEffect := fun args s => by
  refine c.needs ?_
  split
  · exact c.refl _
  · split_ifs <;> exact c.blocks rfl

protected theorem writeTakeRecordsEffect : EffectRel R writeTakeRecordsEffect := fun args s => by
  refine c.needs ?_
  split
  · exact c.refl _
  · split
    · exact c.refl _
    · split
      · exact c.refl _
      · split_ifs
        · exact c.refl _
        · exact c.refl _
        · exact c.take (appendRecords_only _ _)

protected theorem loadEndEffect : EffectRel R loadEndEffect := fun args s => by
  refine c.needs ?_
  split
  · exact c.refl _
  · split
    · exact c.refl _
    · exact c.take ((endLoading_only _).trans (raiseAll_only _).report.take)

protected theorem keepEffect (l : Link) (keep : Bool) : EffectRel R (keepEffect l keep) := fun args s => by
  unfold keepEffect
  split
  · refine c.needs ?_
    split
    · exact c.refl _
    · split_ifs <;> exact c.blocks rfl
  · exact c.refl _

protected theorem takeEraseEffect : EffectRel R takeEraseEffect := fun args s => by
  refine c.needs ?_
  split
  · exact c.refl _
  · split_ifs
    · exact c.refl _
    · exact c.refl _
    · exact c.refl _
    · exact c.refl _
    · exact c.take ((emptyTake_only _).trans (raiseAll_only _).report.take)

protected theorem readTakeDirectoryEffect (l : Link) : EffectRel R (readTakeDirectoryEffect l) := fun args s => by
  refine c.needs ?_
  dsimp only
  split <;> exact c.refl s

protected theorem readTakeRecordsEffect (l : Link) : EffectRel R (readTakeRecordsEffect l) := fun args s => by
  refine c.needs ?_
  split
  · exact c.refl _
  · split <;> exact c.refl s

/-! ### The player -/

protected theorem takePlayEffect : EffectRel R takePlayEffect := fun args s => by
  refine c.playerNeeds ?_
  split
  · exact c.refl _
  · split
    · exact c.refl _
    · dsimp only
      generalize (if bitOf args 1 1 then word32At args 3 else 0) = start
      split
      · exact c.refl _
      · exact c.play (startPlayback_only _ _ _)

protected theorem stopEffect : EffectRel R stopEffect := fun args s => by
  unfold stopEffect
  split
  · exact c.play (endPlayback_only _)
  · exact c.refl _

protected theorem pauseEffect : EffectRel R pauseEffect := fun args s => by
  unfold pauseEffect
  split
  · exact c.refl _
  · split
    · exact c.play (((onPly_only _).trans (playMark_only _ _)).trans playStateRaised_only)
    · exact c.refl _

protected theorem resumeEffect : EffectRel R resumeEffect := fun args s => by
  unfold resumeEffect
  split
  · exact c.refl _
  · split
    · exact c.play (((onPly_only _).trans (playMark_only _ _)).trans playStateRaised_only)
    · exact c.refl _

protected theorem setTempoEffect : EffectRel R setTempoEffect := fun _ _ => c.playerNeeds (c.blocks rfl)

protected theorem setLoopEffect : EffectRel R setLoopEffect := fun args s => by
  refine c.playerNeeds ?_
  split
  · exact c.refl _
  · dsimp only
    split
    · exact c.play (setLoop_only _ _ _)
    · exact c.refl _

protected theorem clearLoopEffect : EffectRel R clearLoopEffect := fun _ _ => c.blocks rfl

protected theorem setGuideEffect : EffectRel R setGuideEffect := fun args s => by
  refine c.playerNeeds ?_
  split
  · split
    · exact c.refl _
    · exact c.play (setGuide_only _ _ _ _)
  · exact c.refl _

/-! ### The calibration store -/

/-- A new working copy reaches the rail by the test for quiet and by LEVER's membership (R42, R108, R109). -/
protected theorem installCst (new : Cst) (s : State) : R s (installCst new s) := by
  have hreset (v : State) : R v (resetHammers (perKeyChanged s.cst new) v) := by
    unfold resetHammers
    exact c.blocks rfl
  have hquiet : R s (quietMove (resetHammers (perKeyChanged s.cst new) (onCst (fun _ => new) s))) :=
    c.trans (c.after (hreset _)) (c.quieted _)
  unfold installCst
  dsimp only
  split
  · exact hquiet
  · exact c.trans hquiet (c.deriveLever _)

protected theorem calReadEffect (l : Link) : EffectRel R (calReadEffect l) := fun args s => by
  refine c.needs ?_
  split
  · exact c.refl _
  · dsimp only
    split <;> exact c.refl s

protected theorem calWriteEffect (l : Link) : EffectRel R (calWriteEffect l) := fun args s => by
  unfold calWriteEffect
  split
  · exact c.refl _
  · split
    · exact c.refl _
    · split_ifs
      · exact c.refl _
      · exact c.refl _
      · exact c.refl _
      · unfold calStore done
        dsimp only
        split
        · exact c.refl _
        · exact c.installCst _ _

protected theorem calCommitEffect (l : Link) : EffectRel R (calCommitEffect l) := fun args s => by
  unfold calCommitEffect
  split
  · exact c.refl _
  · refine c.needs ?_
    split
    · exact c.refl _
    · split <;> exact c.blocks rfl

protected theorem calDefaultsEffect (l : Link) : EffectRel R (calDefaultsEffect l) := fun args s => by
  unfold calDefaultsEffect
  split
  · exact c.refl _
  · refine c.needs ?_
    split
    · exact c.refl _
    · split_ifs
      · exact c.refl _
      · exact c.refl _
      · exact c.installCst _ _

end RailClosed

end Sys2Proof.Machine
end

section
namespace Sys2Proof.Machine

variable {s t u : State}

/-! ## The drive and the rail state (R103, R110) -/

theorem movingState_drive (e : Side) : (movingState e).drive = some e := by cases e <;> rfl

theorem endState_drive (e : Side) : (endState e).drive = none := by cases e <;> rfl

theorem drive_stopCount (now : Clock) (r : RailState) : (r.stopCount now).drive = r.drive := by cases r <;> rfl

/-- The drive matches where it is off in a state that does not drive. -/
theorem driveMatches_of_off (hleg : s.rlc.leg = none) (hstate : s.rlc.state.drive = none) : DriveMatchesState s := by
  rw [DriveMatchesState, hleg, hstate]
  rfl

/-- In a state that does not drive no leg is under way. -/
theorem DriveMatchesState.leg_none (h : DriveMatchesState s) (hstate : s.rlc.state.drive = none) : s.rlc.leg = none := by
  rw [DriveMatchesState, hstate] at h
  exact Option.map_eq_none_iff.mp h

theorem startMove_driveMatches (e : Side) (check : Bool) : DriveMatchesState (startMove e check s) := by
  simp only [DriveMatchesState, startMove_rlc, movingState_drive]
  rfl

theorem startHoming_driveMatches : DriveMatchesState (startHoming s) := by
  simp only [DriveMatchesState, startHoming, startLeg, onRlc_rlc, railEnter_rlc]
  rfl

/-- A state that does not drive is entered with the drive off. -/
theorem railEnter_driveMatches {st : RailState} (hleg : s.rlc.leg = none) (hst : st.drive = none) :
    DriveMatchesState (railEnter st s) :=
  driveMatches_of_off (by rw [railEnter_rlc]; exact hleg) (by rw [railEnter_rlc]; exact hst)

/-- The test at an end is made with the drive off (R113). -/
theorem endTest_driveMatches {e : Side} (hleg : s.rlc.leg = none) (hstate : s.rlc.state.drive = none) :
    DriveMatchesState (endTest e s) := by
  unfold endTest
  split_ifs
  · exact driveMatches_of_off hleg hstate
  · exact startMove_driveMatches _ _
  · exact railEnter_driveMatches hleg rfl

/-- An arrival cuts the drive (R112). -/
theorem arrive_driveMatches (e : Side) (travel : Option Nat) : DriveMatchesState (arrive e travel s) := by
  unfold arrive
  refine endTest_driveMatches ?_ ?_ <;> rw [railEnter_rlc]
  · rfl
  · exact endState_drive e

theorem railFault_driveMatches (k : FaultKind) : DriveMatchesState (railFault k s) := railEnter_driveMatches rfl rfl

/-- An obstructed leg gives way to a retreat toward the other end, or to FAULT (R117). -/
theorem obstruct_driveMatches (e : Side) : DriveMatchesState (obstruct e s) := by
  unfold obstruct
  dsimp only
  split
  · exact railFault_driveMatches _
  · simp only [DriveMatchesState, startLeg, onRlc_rlc, railEnter_rlc]
    rfl

theorem retreatEnd_driveMatches (stalled : Bool) (b : BackoffInfo) : DriveMatchesState (retreatEnd stalled b s) := by
  unfold retreatEnd
  dsimp only
  split_ifs
  · exact arrive_driveMatches _ _
  · exact startMove_driveMatches _ _
  · exact driveMatches_of_off rfl rfl

/-- After a stall the drive matches whatever it did before: the stall cuts it (R105). -/
theorem stallLeg_driveMatches (lg : Leg) : DriveMatchesState (stallLeg lg s) := by
  have hcut (h : s.rlc.state.drive = none) : DriveMatchesState (cutDrive s) := driveMatches_of_off rfl h
  have hmoving : DriveMatchesState
      (if lg.minCheck = false ∨ lg.params.minTravelMs * 1000 ≤ elapsed s.clock lg.start then
        arrive lg.toward (some (elapsed s.clock lg.start / 1000)) (cutDrive s)
      else obstruct lg.toward (cutDrive s)) := by
    split
    · exact arrive_driveMatches _ _
    · exact obstruct_driveMatches _
  unfold stallLeg
  cases hs : s.rlc.state with
  | homing => exact arrive_driveMatches _ _
  | closing => exact hmoving
  | opening => exact hmoving
  | backoff b =>
    dsimp only
    split
    · exact retreatEnd_driveMatches _ _
    · rename_i hphase
      exact hcut (by rw [hs]; simp only [RailState.drive, hphase])
  | unknown => exact hcut (by rw [hs]; rfl)
  | openState => exact hcut (by rw [hs]; rfl)
  | blocked => exact hcut (by rw [hs]; rfl)
  | waiting w => exact hcut (by rw [hs]; rfl)
  | fault => exact hcut (by rw [hs]; rfl)

/-! ## What keeps the drive with the state -/

/-- The drive matches the rail state after, if it did before. -/
def DriveKept (s t : State) : Prop := DriveMatchesState s → DriveMatchesState t

theorem DriveKept.refl : DriveKept s s := id
theorem DriveKept.trans (h : DriveKept s t) (g : DriveKept t u) : DriveKept s u := g ∘ h

/-- Where rail state and leg's direction are as they were the drive is kept. -/
theorem DriveKept.of_eq (hleg : t.rlc.leg.map Leg.toward = s.rlc.leg.map Leg.toward)
    (hstate : t.rlc.state.drive = s.rlc.state.drive) : DriveKept s t := fun h => by
  rw [DriveMatchesState, hleg, hstate]
  exact h

theorem quietMove_driveKept : DriveKept s (quietMove s) := fun h => by
  rcases quietMove_cases (s := s) with hq | hq | ⟨e, hq⟩ <;> rw [hq]
  · exact h
  · exact startHoming_driveMatches
  · exact startMove_driveMatches e true

/-- A change of target starts a move, ends a wait or a delay with the drive off, or leaves the rail as it is (R113 to
R119). -/
theorem targetChanged_driveKept : DriveKept s (targetChanged s) := fun h => by
  have hmove {p : Prop} [Decidable p] (e : Side) (v : State) :
      DriveMatchesState (if p then startMove e false v else s) := by
    split
    · exact startMove_driveMatches _ _
    · exact h
  unfold targetChanged
  split
  · exact h
  · exact h
  · exact h
  · rename_i hs
    have hoff : s.rlc.state.drive = none := by rw [hs]; rfl
    exact endTest_driveMatches (h.leg_none hoff) hoff
  · rename_i hs
    have hoff : s.rlc.state.drive = none := by rw [hs]; rfl
    exact endTest_driveMatches (h.leg_none hoff) hoff
  · exact hmove _ _
  · exact hmove _ _
  · rename_i w hs
    split_ifs
    · exact startMove_driveMatches _ _
    · exact railEnter_driveMatches (h.leg_none (by rw [hs]; rfl)) (endState_drive _)
    · exact h
  · split
    · exact h
    · split_ifs
      · exact arrive_driveMatches _ _
      · exact startMove_driveMatches _ _
      · exact h

theorem setDemand_driveKept (d : Demand) : DriveKept s (setDemand d s) := by
  have hset : DriveKept s (onRlc (fun r => { r with demand := d }) s) := .of_eq rfl rfl
  unfold setDemand
  dsimp only
  split
  · exact hset
  · exact hset.trans targetChanged_driveKept

/-- The other blocks keep the drive with the state. -/
theorem driveKept_railClosed : RailClosed DriveKept where
  trans := .trans
  blocks hrlc := .of_eq (by rw [hrlc]) (by rw [hrlc])
  quieted _ := quietMove_driveKept
  demanded d _ := setDemand_driveKept d
  seen _ := .of_eq rfl rfl

/-! ### The rail's own commands -/

theorem railDemandEffect_driveKept (l : Link) : EffectRel DriveKept (railDemandEffect l) := fun args s => by
  refine driveKept_railClosed.needs ?_
  split
  · exact .refl
  · exact setDemand_driveKept _

/-- FAULT is left with the drive off (R120). -/
theorem railRecoverEffect_driveKept : EffectRel DriveKept railRecoverEffect := fun args s => by
  unfold railRecoverEffect
  split
  · rename_i hs
    intro h
    have hleg : s.rlc.leg = none := h.leg_none (by rw [hs]; rfl)
    exact quietMove_driveKept (railEnter_driveMatches hleg rfl)
  · exact .refl

/-- The motor current and the end of the blanking leave a leg's direction (R105). -/
theorem map_currentChange_toward (now : Clock) (current : Nat) (leg : Option Leg) :
    (leg.map (Leg.currentChange now current)).map Leg.toward = leg.map Leg.toward := by
  have hleg (lg : Leg) : (lg.currentChange now current).toward = lg.toward := by
    unfold Leg.currentChange
    split <;> rfl
  rw [Option.map_map]
  exact congrArg (Option.map · leg) (funext hleg)

theorem map_unblank_toward (now : Clock) (current : Nat) (leg : Option Leg) :
    (leg.map (Leg.unblank now current)).map Leg.toward = leg.map Leg.toward := by
  rw [Option.map_map]
  rfl

/-- The retry delay ends in a move, or in a wait with the drive off (R119). -/
theorem retryDue_leg_none {x : Side × Bool} (h : DriveMatchesState s) (hdue : retryDue s = some x) : s.rlc.leg = none := by
  refine h.leg_none ?_
  unfold retryDue at hdue
  split at hdue
  · rename_i b hs
    rw [hs]
    split at hdue
    · rename_i hphase
      simp only [RailState.drive, hphase]
    · exact nomatch hdue
  · exact nomatch hdue

theorem heldDue_state {w : WaitInfo} (hdue : heldDue s = some w) : s.rlc.state = .waiting w := by
  unfold heldDue at hdue
  split at hdue
  · rename_i hs
    split at hdue
    · cases hdue
      exact hs
    · exact nomatch hdue
  · exact nomatch hdue

/-! ### Resets (R103, R110) -/

theorem resetBlocks_driveMatches : DriveMatchesState (resetBlocks s) := driveMatches_of_off rfl rfl

theorem coldBlocks_driveMatches : DriveMatchesState (coldBlocks s) := driveMatches_of_off rfl rfl

/-! ## Every step keeps the drive with the state -/

/-- The command that runs to `u` leaves no other state. -/
theorem DriveKept.of_next {o : Host.Outcome State Fault Refusal} (hu : o = .next u) (ht : o = .next t)
    (h : DriveKept s u) : DriveKept s t := by
  rw [hu] at ht
  cases ht
  exact h

/-- A request whose effect keeps the drive with the state. -/
theorem DriveKept.of_serve {effect : List Byte → State → State × Reply} {l : Link} {k : Byte}
    (h : EffectRel DriveKept effect)
    (ht : Host.Outcome.next (serve l k effect s) = (.next t : Host.Outcome State Fault Refusal)) : DriveKept s t :=
  .of_next rfl ht (driveKept_railClosed.serve h l k s)

/-- Every command keeps the drive with the state. -/
theorem exec_driveKept {i : Instr} (h : exec i s = .next t) : DriveKept s t := by
  have c := driveKept_railClosed
  cases i with
  | powerOnReset => exact .of_next rfl h fun _ => c.startUp _ coldBlocks_driveMatches
  | resetnLow =>
    refine .of_next rfl h ?_
    dsimp only
    split_ifs <;> exact c.blocks rfl
  | systemResetEffect => exact .of_next rfl h (c.ite fun _ => c.startUp _ resetBlocks_driveMatches)
  | receiveByte l b stopLow =>
    have hgap : DriveKept s (if gapDue l s then discardFrame l s else s) := c.ite (c.discardFrame l s)
    exact .of_next rfl h (c.ite (c.trans hgap (c.takeByte l b stopLow _)))
  | interByteGapTimeout l => exact .of_next rfl h (c.ite (c.discardFrame l s))
  | lineBreak l =>
    refine .of_next rfl h ?_
    dsimp only
    split_ifs
    · exact .refl
    · exact c.after (c.linkReset l _)
    · exact c.blocks rfl
  | transmitFrameStart l =>
    refine .of_next rfl h (c.ite ?_)
    split <;> exact c.blocks rfl
  | pendingNoticeQueued l =>
    refine .of_next rfl h ?_
    split <;> exact c.blocks rfl
  | voiceOrderDrain =>
    refine .of_next rfl h ?_
    split
    · exact c.after (c.play refillStale_only.play)
    · exact .refl
  | unknownRequest l =>
    refine .of_next rfl h ?_
    split
    · exact c.ite (c.blocks rfl)
    · exact .refl
  | hello l => exact .of_serve (c.helloEffect l) h
  | setLink l => exact .of_serve (c.setLinkEffect l) h
  | claimRole l => exact .of_serve (c.claimRoleEffect l) h
  | readKeys l => exact .of_serve (c.readKeysEffect l) h
  | setWindow l => exact .of_serve (c.setWindowEffect l) h
  | readWindow l => exact .of_serve (c.readWindowEffect l) h
  | depthStream l => exact .of_serve (c.depthStreamEffect l) h
  | setScanList l => exact .of_serve c.setScanListEffect h
  | openJournal l => exact .of_serve (c.openJournalEffect l) h
  | readJournal l => exact .of_serve (c.readJournalEffect l) h
  | closeJournal l => exact .of_serve (c.closeJournalEffect l) h
  | setLayers l => exact .of_serve c.setLayersEffect h
  | readVoices l => exact .of_serve (c.readVoicesEffect l) h
  | voiceEnded l => exact .of_serve (c.voiceEndedEffect l) h
  | railDemand l => exact .of_serve (railDemandEffect_driveKept l) h
  | railRecover l => exact .of_serve railRecoverEffect_driveKept h
  | readRail l => exact .of_serve c.readRailEffect h
  | takeRecord l => exact .of_serve c.takeRecordEffect h
  | takeStop l => exact .of_serve c.takeStopEffect h
  | takeLoad l => exact .of_serve c.takeLoadEffect h
  | writeTakeRecords l => exact .of_serve c.writeTakeRecordsEffect h
  | loadEnd l => exact .of_serve c.loadEndEffect h
  | takeKeep l => exact .of_serve (c.keepEffect l true) h
  | takeUnkeep l => exact .of_serve (c.keepEffect l false) h
  | takeErase l => exact .of_serve c.takeEraseEffect h
  | readTakeDirectory l => exact .of_serve (c.readTakeDirectoryEffect l) h
  | readTakeRecords l => exact .of_serve (c.readTakeRecordsEffect l) h
  | takePlay l => exact .of_serve c.takePlayEffect h
  | stop l => exact .of_serve c.stopEffect h
  | pause l => exact .of_serve c.pauseEffect h
  | resume l => exact .of_serve c.resumeEffect h
  | setTempo l => exact .of_serve c.setTempoEffect h
  | setLoop l => exact .of_serve c.setLoopEffect h
  | clearLoop l => exact .of_serve c.clearLoopEffect h
  | setGuide l => exact .of_serve c.setGuideEffect h
  | calRead l => exact .of_serve (c.calReadEffect l) h
  | calWrite l => exact .of_serve (c.calWriteEffect l) h
  | calCommit l => exact .of_serve (c.calCommitEffect l) h
  | calDefaults l => exact .of_serve (c.calDefaultsEffect l) h
  | commitComplete r equal =>
    refine .of_next rfl h (c.ite ?_)
    cases equal <;> exact c.blocks rfl
  | noticeSet l => exact .of_serve (c.noticeSetEffect l) h
  | noticeMask l => exact .of_serve (c.noticeMaskEffect l) h
  | readFaults l => exact .of_serve c.readFaultsEffect h
  | clearFaults l => exact .of_serve c.clearFaultsEffect h
  | systemReset l => exact .of_serve (c.systemResetEffect l) h
  | frameStart => exact .of_next rfl h (c.ite (c.startFrame _))
  | settleEnd =>
    refine .of_next rfl h ?_
    split <;> exact c.blocks rfl
  | conversionEnd results =>
    refine .of_next rfl h ?_
    split
    · exact c.trans (foldl_rel c.refl c.trans (c.convertResult _ _) results s) (c.nextEntry _ _)
    · exact .refl
  | recorderSecondStep =>
    refine .of_next rfl h ?_
    split <;> exact c.blocks rfl
  | millisecondStep =>
    refine .of_next rfl h ?_
    split
    · exact c.after (c.play finishStep_only)
    · exact .refl
  | silentInputChange low =>
    refine .of_next rfl h ?_
    split
    · exact .refl
    · exact .of_eq rfl rfl
  | leverDebounceExpiry =>
    have hlevel : DriveKept s (onRlc (fun r => { r with leverLow := r.silentLow }) s) := .of_eq rfl rfl
    exact .of_next rfl h (c.ite (hlevel.trans (c.deriveLever _)))
  | railHomingStart => exact .of_next rfl h (c.ite fun _ => startHoming_driveMatches)
  | railQuietMoveStart =>
    refine .of_next rfl h ?_
    split
    · exact fun _ => startMove_driveMatches _ _
    · exact .refl
  | railCurrentChange current => exact .of_next rfl h (.of_eq (map_currentChange_toward _ _ _) rfl)
  | inrushBlankingEnd => exact .of_next rfl h (c.ite (.of_eq (map_unblank_toward _ _ _) rfl))
  | stall =>
    refine .of_next rfl h ?_
    split
    · exact fun _ => stallLeg_driveMatches _
    · exact .refl
  | maximumTravelTimeout => exact .of_next rfl h (c.ite fun _ => railFault_driveMatches _)
  | backoffTimeEnd =>
    refine .of_next rfl h ?_
    split
    · exact fun _ => retreatEnd_driveMatches _ _
    · exact .refl
  | retryDelayEnd =>
    refine .of_next rfl h ?_
    split
    · rename_i hdue
      split
      · exact fun _ => startMove_driveMatches _ _
      · exact fun hs => railEnter_driveMatches (retryDue_leg_none hs hdue) rfl
    · exact .refl
  | railHeld =>
    refine .of_next rfl h ?_
    split
    · rename_i hdue
      exact .of_eq rfl (by rw [heldDue_state hdue]; rfl)
    · exact .refl
  | resetnHigh => exact .of_next rfl h (c.after (b := { s with resetnLow := false }) (c.ite (c.loadRegions _)))
  | lineReturnsHigh l => exact .of_next rfl h (c.ite (c.blocks rfl))
  | powerLoss =>
    refine .of_next rfl h ?_
    split
    · exact .refl
    · exact fun _ => coldBlocks_driveMatches (s := cutCommits s)
  | regionsLoaded => exact .of_next rfl h (c.ite (c.after (b := takeUp s) (c.startFrame _)))

theorem idle_driveKept (h : idle s = .next t) : DriveKept s t := by
  unfold idle at h
  split at h
  · split at h
    · exact exec_driveKept h
    · cases h
      split
      · exact .refl
      · rw [tick_eq]
        exact .of_eq rfl (drive_stopCount _ _)
  · cases h
    exact .refl

/-! ## The gate outputs (R103) -/

theorem ghaActive_iff : ghaActive s = true ↔ s.rlc.leg.map Leg.toward = some .blockedEnd := by
  unfold ghaActive
  cases s.rlc.leg <;> simp

theorem ghbActive_iff : ghbActive s = true ↔ s.rlc.leg.map Leg.toward = some .openEnd := by
  unfold ghbActive
  cases s.rlc.leg <;> simp

/-- Settles O10: the rail's own commands one by one, all else by what reaches the rail; the gate outputs by the direction
of the leg. -/
theorem driveStaysWithState : Obligations.DriveStaysWithState := by
  refine ⟨fun s t hs h => ?_, fun s hs => ⟨?_, ?_, fun ⟨ha, hb⟩ => ?_, fun hleg => ?_⟩⟩
  · unfold step at h
    split at h
    · exact idle_driveKept h hs
    · exact exec_driveKept h hs
  · rw [ghaActive_iff, hs]
  · rw [ghbActive_iff, hs]
  · exact nomatch (ghaActive_iff.mp ha).symm.trans (ghbActive_iff.mp hb)
  · simp only [ghaActive, ghbActive, hleg, and_self]

end Sys2Proof.Machine
end

section
namespace Sys2Proof.Machine

variable {s t u : State}

/-! ## How the rail's operations branch -/

theorem movingState_eq (e : Side) : movingState e = if e = .openEnd then .opening else .closing := by cases e <;> rfl

theorem endState_eq (e : Side) : endState e = if e = .openEnd then .openState else .blocked := by cases e <;> rfl

theorem Side.other_other (e : Side) : e.other.other = e := by cases e <;> rfl

theorem Side.ne_other (e : Side) : e ≠ e.other := by cases e <;> nofun

/-- A change of rail state other than to FAULT: the state, the RAIL event, RAIL_STATE (R122). -/
theorem railEnter_of_ne {st : RailState} (h : st ≠ .fault) : railEnter st s =
    raiseAll .railState (appendEvent { time := s.clock, kind := .rail, source := .live, key := none, value := st.code }
      (onRlc (fun r => { r with state := st }) s)) := if_neg h

/-- The test for quiet reads the sensing-seen flag, the keys and the clear height alone (R109). -/
theorem quietTest_congr (hseen : t.rlc.sensingSeen = s.rlc.sensingSeen) (hkeys : t.keys = s.keys) (hcst : t.cst = s.cst) :
    quietTest t = quietTest s := by
  simp only [quietTest, actionQuiet, State.key, hseen, hkeys, hcst]

theorem railEnter_quietTest (st : RailState) : quietTest (railEnter st s) = quietTest s :=
  quietTest_congr (by rw [railEnter_rlc]) (railEnter_keys st) (railEnter_cst st)

/-- A leg latches what clock and user working copy hold at its start (R104). -/
theorem newLeg_congr (hclock : t.clock = s.clock) (hcst : t.cst = s.cst) (e : Side) (check : Bool) :
    newLeg e check t = newLeg e check s := by
  simp only [newLeg, hclock, hcst]

theorem startLeg_rlc (e : Side) (check : Bool) :
    (startLeg e check s).rlc = { s.rlc with leg := some (newLeg e check s) } := rfl

/-- Homing enters its state with a leg toward OPEN and no minimum-travel check (R111). -/
theorem startHoming_rlc : (startHoming s).rlc = { s.rlc with state := .homing, leg := some (newLeg .openEnd false s) } := by
  rw [startHoming, startLeg_rlc, newLeg_congr (railEnter_clock _) (railEnter_cst _), railEnter_rlc]

theorem startHoming_ajn : (startHoming s).ajn =
    s.ajn.push { time := s.clock, kind := .rail, source := .live, key := none, value := RailState.homing.code } :=
  railEnter_ajn .homing

theorem startMove_ajn (e : Side) (check : Bool) : (startMove e check s).ajn =
    s.ajn.push { time := s.clock, kind := .rail, source := .live, key := none, value := (movingState e).code } :=
  railEnter_ajn (movingState e)

/-- The drive cut at an arrival: the travel time stored and the obstruction count cleared (R112). -/
def travelEnded (travel : Option Nat) (s : State) : State :=
  onRlc (fun r => { r with leg := none, obstructions := 0, lastTravelMs := travel.or r.lastTravelMs }) s

theorem arrive_eq (e : Side) (travel : Option Nat) :
    arrive e travel s = endTest e (railEnter (endState e) (travelEnded travel s)) := rfl

/-- An arrival at the end where the target is: the rail stays there (R112, R113). -/
theorem arrive_rlc_stays {e : Side} (travel : Option Nat) (h : target s = e) : (arrive e travel s).rlc =
    { s.rlc with
      state := endState e, leg := none, obstructions := 0, lastTravelMs := travel.or s.rlc.lastTravelMs } := by
  have htarget : target (railEnter (endState e) (travelEnded travel s)) = e := by
    rw [target, railEnter_rlc]
    exact h
  rw [arrive_eq, endTest, if_pos htarget, railEnter_rlc]
  rfl

/-! ### A test for quiet (R109) -/

theorem quietMove_unquiet (h : quietTest s = false) : quietMove s = s := by
  unfold quietMove
  split <;> simp [h]

theorem quietMove_unknown (hstate : s.rlc.state = .unknown) (h : quietTest s = true) : quietMove s = startHoming s := by
  simp [quietMove, hstate, h]

theorem quietMove_waiting {w : WaitInfo} (hstate : s.rlc.state = .waiting w) (h : quietTest s = true) :
    quietMove s = startMove w.side.other true s := by
  simp [quietMove, hstate, h]

/-- In a state that no move waits in a test for quiet changes nothing. -/
theorem quietMove_other (hunknown : s.rlc.state ≠ .unknown) (hwaiting : ∀ w, s.rlc.state ≠ .waiting w) : quietMove s = s := by
  unfold quietMove
  split
  · exact absurd ‹_› hunknown
  · exact absurd ‹_› (hwaiting _)
  · rfl

/-! ### A change of target (R111, R113 to R120) -/

theorem targetChanged_still (h : s.rlc.state = .unknown ∨ s.rlc.state = .homing ∨ s.rlc.state = .fault) :
    targetChanged s = s := by
  rcases h with h | h | h <;> simp only [targetChanged, h]

theorem targetChanged_end {e : Side} (h : s.rlc.state = endState e) : targetChanged s = endTest e s := by
  unfold targetChanged
  rw [h]
  cases e <;> rfl

theorem targetChanged_moving {e : Side} (h : s.rlc.state = movingState e) :
    targetChanged s = if target s = e.other then startMove e.other false (cutDrive s) else s := by
  unfold targetChanged
  rw [h]
  cases e <;> rfl

theorem targetChanged_waiting {w : WaitInfo} (h : s.rlc.state = .waiting w) :
    targetChanged s =
      if target s = w.side then
        if w.retreatStalled = some false then startMove w.side false s else railEnter (endState w.side) s
      else s := by
  simp only [targetChanged, h]

theorem targetChanged_retreat {b : BackoffInfo} {ms : Nat} (h : s.rlc.state = .backoff b) (hphase : b.phase = .retreat ms) :
    targetChanged s = s := by
  simp only [targetChanged, h, hphase]

theorem targetChanged_delay {b : BackoffInfo} {ms : Nat} {stalled : Bool} (h : s.rlc.state = .backoff b)
    (hphase : b.phase = .delay ms stalled) :
    targetChanged s =
      if target s = b.origin then if stalled then arrive b.origin none s else startMove b.origin false s else s := by
  simp only [targetChanged, h, hphase]

/-! ## RAIL DEMAND (R107) -/

/-- The demand set `d` moves the target to `side`. -/
def TurnsTo (side : Side) (d : Demand) (s : State) : Prop := target s ≠ side ∧ d.target = side

/-- The part with the demand set taken, before the rail acts on it. -/
def withDemand (d : Demand) (s : State) : State := onRlc (fun r => { r with demand := d }) s

theorem Demand.target_eq_blocked {d : Demand} : d.target = .blockedEnd ↔ d.any = true := by
  unfold Demand.target
  cases d.any <;> simp

theorem Demand.target_eq_open {d : Demand} : d.target = .openEnd ↔ d.any = false := by
  unfold Demand.target
  cases d.any <;> simp

theorem turnsTo_blocked {d : Demand} (h : s.rlc.demand.any = false ∧ d.any = true) : TurnsTo .blockedEnd d s := by
  obtain ⟨hold, hnew⟩ := h
  exact ⟨by rw [target, Demand.target_eq_open.mpr hold]; nofun, Demand.target_eq_blocked.mpr hnew⟩

theorem turnsTo_open {d : Demand} (h : s.rlc.demand.any = true ∧ d.any = false) : TurnsTo .openEnd d s := by
  obtain ⟨hold, hnew⟩ := h
  exact ⟨by rw [target, Demand.target_eq_blocked.mpr hold]; nofun, Demand.target_eq_open.mpr hnew⟩

theorem quietTest_withDemand (d : Demand) : quietTest (withDemand d s) = quietTest s := quietTest_congr rfl rfl rfl

section Turn

variable {side : Side} {d : Demand} (h : TurnsTo side d s)

include h

/-- A change of target is handed to the rail at once (R107). -/
theorem setDemand_turns : setDemand d s = targetChanged (withDemand d s) := by
  obtain ⟨hold, hnew⟩ := h
  exact if_neg fun heq => hold (heq.symm.trans hnew)

theorem target_withDemand_turns : target (withDemand d s) = side := h.2

/-- Where the change of target asks for nothing the demand set is all that changes. -/
theorem setDemand_turns_still (hstill : targetChanged (withDemand d s) = withDemand d s) :
    (setDemand d s).rlc = { s.rlc with demand := d } := by
  rw [setDemand_turns h, hstill]
  rfl

/-- A moving rail turns round with neither quiet test nor minimum-travel check (R116). -/
theorem setDemand_reverses (hstate : s.rlc.state = movingState side.other) : (setDemand d s).rlc =
    { s.rlc with demand := d, state := movingState side, leg := some (newLeg side false s) } := by
  rw [setDemand_turns h, targetChanged_moving (s := withDemand d s) hstate, side.other_other,
    if_pos (target_withDemand_turns h), startMove_rlc]
  rfl

/-- A rail standing at an end starts its move when the action is quiet (R113). -/
theorem setDemand_end_quiet (hstate : s.rlc.state = endState side.other) (hq : quietTest s = true) : (setDemand d s).rlc =
    { s.rlc with demand := d, state := movingState side, leg := some (newLeg side true s) } := by
  have hne : target (withDemand d s) ≠ side.other := (target_withDemand_turns h).trans_ne side.ne_other
  rw [setDemand_turns h, targetChanged_end (s := withDemand d s) hstate, endTest_rlc, if_neg hne,
    quietTest_withDemand, if_pos hq, side.other_other]
  rfl

/-- A rail standing at an end waits there while the action is not quiet (R113, R114). -/
theorem setDemand_end_unquiet (hstate : s.rlc.state = endState side.other) (hq : quietTest s = false) : (setDemand d s).rlc =
    { s.rlc with
      demand := d
      state := .waiting
        { side := side.other, start := s.clock, held := false, retreatStalled := none, stopped := false } } := by
  have hne : target (withDemand d s) ≠ side.other := (target_withDemand_turns h).trans_ne side.ne_other
  rw [setDemand_turns h, targetChanged_end (s := withDemand d s) hstate, endTest_rlc, if_neg hne,
    quietTest_withDemand, if_neg (by rw [hq]; nofun)]
  rfl

/-- A wait whose target comes back to its side ends (R114). -/
theorem setDemand_wait_ends {w : WaitInfo} (hstate : s.rlc.state = .waiting w) (hside : w.side = side) :
    (w.retreatStalled = some false → (setDemand d s).rlc =
        { s.rlc with demand := d, state := movingState side, leg := some (newLeg side false s) })
      ∧ (w.retreatStalled ≠ some false → (setDemand d s).rlc = { s.rlc with demand := d, state := endState side }) := by
  subst hside
  rw [setDemand_turns h, targetChanged_waiting (s := withDemand d s) hstate, if_pos (target_withDemand_turns h)]
  refine ⟨fun hf => ?_, fun hf => ?_⟩
  · rw [if_pos hf, startMove_rlc]
    rfl
  · rw [if_neg hf, railEnter_rlc]
    rfl

/-- A wait whose target goes to the other side goes on. -/
theorem setDemand_wait_goes_on {w : WaitInfo} (hstate : s.rlc.state = .waiting w) (hside : w.side ≠ side) :
    (setDemand d s).rlc = { s.rlc with demand := d } :=
  setDemand_turns_still h (by
    rw [targetChanged_waiting (s := withDemand d s) hstate, target_withDemand_turns h, if_neg (Ne.symm hside)])

/-- A delay whose target comes back to the origin ends (R119). -/
theorem setDemand_delay_ends {b : BackoffInfo} {ms : Nat} {stalled : Bool} (hstate : s.rlc.state = .backoff b)
    (hphase : b.phase = .delay ms stalled) (horigin : b.origin = side) :
    (stalled = false → (setDemand d s).rlc =
        { s.rlc with demand := d, state := movingState side, leg := some (newLeg side false s) })
      ∧ (stalled = true → (setDemand d s).rlc =
        { s.rlc with demand := d, state := endState side, leg := none, obstructions := 0 }) := by
  subst horigin
  have hback := target_withDemand_turns h
  rw [setDemand_turns h, targetChanged_delay (s := withDemand d s) hstate hphase, if_pos hback]
  refine ⟨fun hf => ?_, fun hf => ?_⟩ <;> subst hf
  · rw [if_neg nofun, startMove_rlc]
    rfl
  · rw [if_pos rfl, arrive_rlc_stays none hback]
    rfl

/-- A delay whose target goes away from the origin goes on. -/
theorem setDemand_delay_goes_on {b : BackoffInfo} {ms : Nat} {stalled : Bool} (hstate : s.rlc.state = .backoff b)
    (hphase : b.phase = .delay ms stalled) (horigin : b.origin ≠ side) : (setDemand d s).rlc = { s.rlc with demand := d } :=
  setDemand_turns_still h (by
    rw [targetChanged_delay (s := withDemand d s) hstate hphase, target_withDemand_turns h, if_neg (Ne.symm horigin)])

end Turn

/-- A retreat takes note of the demand set and goes on (R118). -/
theorem setDemand_retreat {b : BackoffInfo} {ms : Nat} (d : Demand) (hstate : s.rlc.state = .backoff b)
    (hphase : b.phase = .retreat ms) : (setDemand d s).rlc = { s.rlc with demand := d } := by
  unfold setDemand
  dsimp only
  split
  · rfl
  · exact congrArg State.rlc (targetChanged_retreat (s := withDemand d s) hstate hphase)

/-- States in which a change of target asks for nothing: those that make no move for it, and those at or on the way to the
new target. -/
theorem setDemand_still {d : Demand}
    (h : s.rlc.state = .unknown ∨ s.rlc.state = .homing ∨ s.rlc.state = .fault
      ∨ s.rlc.state = endState d.target ∨ s.rlc.state = movingState d.target) : setDemand d s = withDemand d s := by
  have hrlc : (withDemand d s).rlc.state = s.rlc.state := rfl
  have htarget : target (withDemand d s) = d.target := rfl
  have hstill : targetChanged (withDemand d s) = withDemand d s := by
    rcases h with h | h | h | h | h
    · exact targetChanged_still (.inl h)
    · exact targetChanged_still (.inr (.inl h))
    · exact targetChanged_still (.inr (.inr h))
    · rw [targetChanged_end (hrlc.trans h), endTest, if_pos htarget]
    · rw [targetChanged_moving (hrlc.trans h), if_neg (htarget.trans_ne d.target.ne_other)]
  unfold setDemand
  dsimp only
  split
  · rfl
  · exact hstill

/-- RAIL DEMAND taken: the link's membership, and what the rail makes of it (R107). -/
theorem exec_railDemand {l : Link} {args : List Byte} (h : headRequest l s = some (kRailDemand, args))
    (hn : 1 ≤ args.length) (ha : byteAt args 0 ≤ 1) :
    let d := s.rlc.demand.setLink l (byteAt args 0 == 1)
    let t := setDemand d (popRequest l s)
    exec (.railDemand l) s = .next (putReply l kRailDemand
      { result := .done, data := [byteOf t.rlc.state.code, byteOf (d.bits + if d.any then 32 else 0)] } t) := by
  intro d t
  have hbit : bitAt 5 (target t == .blockedEnd) = if d.any then 32 else 0 := by
    rw [target, setDemand_demand, Demand.target]
    cases d.any <;> rfl
  have heffect : railDemandEffect l args (popRequest l s) =
      done t [byteOf t.rlc.state.code, byteOf (t.rlc.demand.bits + bitAt 5 (target t == .blockedEnd))] := by
    rw [railDemandEffect, needs_enough _ hn, if_neg (Nat.not_lt.mpr ha)]
    rfl
  have hexec : exec (.railDemand l) s = .next (serve l kRailDemand (railDemandEffect l) s) := rfl
  rw [hexec, serve_taken _ h, heffect, hbit, setDemand_demand]
  rfl

/-! ## RAIL RECOVER (R120) -/

theorem exec_railRecover {l : Link} {args : List Byte} (h : headRequest l s = some (kRailRecover, args)) :
    exec (.railRecover l) s = .next (putReply l kRailRecover
      (railRecoverEffect args (popRequest l s)).2 (railRecoverEffect args (popRequest l s)).1) :=
  congrArg Host.Outcome.next (serve_taken _ h)

/-- FAULT left for UNKNOWN, before the test for quiet (R120). -/
def recovered (s : State) : State := railEnter .unknown (onRlc (fun r => { r with obstructions := 0 }) s)

theorem railRecoverEffect_fault {args : List Byte} (h : s.rlc.state = .fault) :
    railRecoverEffect args s = done (quietMove (recovered s)) := if_pos h

theorem railRecoverEffect_refused {args : List Byte} (h : s.rlc.state ≠ .fault) : railRecoverEffect args s = refuse .state s :=
  if_neg h

theorem recovered_rlc : (recovered s).rlc = { s.rlc with obstructions := 0, state := .unknown } := railEnter_rlc _

theorem recovered_quietTest : quietTest (recovered s) = quietTest s := railEnter_quietTest _

/-- The rail's operations that report no fault leave everything but rail, journal and links. -/
theorem RailOnly.eq_of_faults (h : RailOnly s t) (hf : t.faults = s.faults) :
    t = { s with rlc := t.rlc, ajn := t.ajn, links := t.links } := by
  obtain ⟨_, _, _, _, rfl⟩ := h
  cases hf
  rfl

/-- A quiet action starts homing in the moment of the recovery (R109, R111, R120). -/
theorem homing_from_recovered :
    let t := startHoming (recovered s)
    t.rlc = { s.rlc with obstructions := 0, state := .homing, leg := some (newLeg .openEnd false s) }
      ∧ t.ajn = (s.ajn.push { time := s.clock, kind := .rail, source := .live, key := none, value := 0 }).push
          { time := s.clock, kind := .rail, source := .live, key := none, value := 1 }
      ∧ RailOnly s t ∧ t.faults = s.faults := by
  have hclock : (recovered s).clock = s.clock := railEnter_clock _
  have hcst : (recovered s).cst = s.cst := railEnter_cst _
  refine ⟨?_, ?_, ?_, ?_⟩
  · rw [startHoming_rlc, recovered_rlc, newLeg_congr hclock hcst]
  · rw [startHoming_ajn, hclock, recovered, railEnter_ajn]
    rfl
  · exact ((onRlc_only _).trans (railEnter_only _)).trans startHoming_only
  · exact (railEnter_faults (s := recovered s) _).trans (railEnter_faults _)

/-- Settles O31: each clause of RAIL DEMAND by what the rail does with a change of target in its state, RAIL RECOVER by
the test for quiet in UNKNOWN. -/
theorem railRequestsMoveRail : Obligations.RailRequestsMoveRail := by
  intro l args s
  refine ⟨fun h hn ha => ?_, fun h hs => ⟨fun hq => ?_, fun hq => ?_⟩, fun h hs => ?_⟩
  · intro dem toBlocked toOpen kept moves stands waits
    have hb (hturn : toBlocked) : TurnsTo .blockedEnd dem (popRequest l s) := turnsTo_blocked hturn
    have ho (hturn : toOpen) : TurnsTo .openEnd dem (popRequest l s) := turnsTo_open hturn
    have hmoves (e : Side) (check : Bool) :
        moves e check = { kept with state := movingState e, leg := some (newLeg e check s) } := by
      rw [movingState_eq]
    have hstands (e : Side) : stands e = endState e := (endState_eq e).symm
    refine ⟨setDemand dem (popRequest l s), exec_railDemand h hn ha, setDemand_demand _,
      fun hsame => setDemand_sameTarget (s := popRequest l s) hsame, fun hs => ?_,
      fun hturn hs => setDemand_reverses (ho hturn) hs, fun hturn hs => setDemand_reverses (hb hturn) hs,
      fun hturn hs hq => setDemand_end_quiet (hb hturn) hs hq, fun hturn hs hq => setDemand_end_unquiet (hb hturn) hs hq,
      fun hturn hs hq => setDemand_end_quiet (ho hturn) hs hq, fun hturn hs hq => setDemand_end_unquiet (ho hturn) hs hq,
      fun w hs => ⟨?_, ?_⟩, fun b hs => ⟨fun ms hp => setDemand_retreat dem hs hp, fun ms stalled hp => ⟨?_, ?_⟩⟩⟩
    · refine setDemand_still (s := popRequest l s) ?_
      rcases hs with hs | hs | hs | ⟨hs, hturn⟩ | ⟨hs, hturn⟩ | ⟨hs, hturn⟩ | ⟨hs, hturn⟩
      · exact .inl hs
      · exact .inr (.inl hs)
      · exact .inr (.inr (.inl hs))
      · exact .inr (.inr (.inr (.inl (by rw [(ho hturn).2]; exact hs))))
      · exact .inr (.inr (.inr (.inl (by rw [(hb hturn).2]; exact hs))))
      · exact .inr (.inr (.inr (.inr (by rw [(hb hturn).2]; exact hs))))
      · exact .inr (.inr (.inr (.inr (by rw [(ho hturn).2]; exact hs))))
    · rw [hmoves, hstands]
      rintro (⟨hturn, hside⟩ | ⟨hturn, hside⟩) <;> rw [hside]
      · exact setDemand_wait_ends (hb hturn) hs hside
      · exact setDemand_wait_ends (ho hturn) hs hside
    · rintro (⟨hturn, hside⟩ | ⟨hturn, hside⟩)
      · exact setDemand_wait_goes_on (hb hturn) hs (by rw [hside]; nofun)
      · exact setDemand_wait_goes_on (ho hturn) hs (by rw [hside]; nofun)
    · rw [hmoves, hstands]
      rintro (⟨hturn, horigin⟩ | ⟨hturn, horigin⟩) <;> rw [horigin]
      · exact setDemand_delay_ends (hb hturn) hs hp horigin
      · exact setDemand_delay_ends (ho hturn) hs hp horigin
    · rintro (⟨hturn, horigin⟩ | ⟨hturn, horigin⟩)
      · exact setDemand_delay_goes_on (hb hturn) hs hp (by rw [horigin]; nofun)
      · exact setDemand_delay_goes_on (ho hturn) hs hp (by rw [horigin]; nofun)
  · rw [exec_railRecover h, railRecoverEffect_fault (s := popRequest l s) hs,
      quietMove_unquiet (recovered_quietTest (s := popRequest l s) |>.trans hq), recovered, railEnter_of_ne (st := .unknown) nofun]
    rfl
  · obtain ⟨hrlc, hajn, honly, hfaults⟩ := homing_from_recovered (s := popRequest l s)
    have hhome : quietMove (recovered (popRequest l s)) = startHoming (recovered (popRequest l s)) :=
      quietMove_unknown (by rw [recovered_rlc]) (recovered_quietTest.trans hq)
    refine ⟨startHoming (recovered (popRequest l s)), ?_, hrlc, hajn, ?_⟩
    · rw [exec_railRecover h, railRecoverEffect_fault (s := popRequest l s) hs, hhome]
      rfl
    · exact (honly.eq_of_faults hfaults).trans rfl
  · rw [exec_railRecover h, railRecoverEffect_refused (s := popRequest l s) hs]
    rfl

end Sys2Proof.Machine
end

section
namespace Sys2Proof.Machine

variable {s t u : State}

/-! ## Faults, obstructions and retreats (R117 to R120) -/

theorem railFault_rlc (k : FaultKind) : (railFault k s).rlc = { s.rlc with state := .fault, leg := none } := railEnter_rlc _

theorem railFault_faults (k : FaultKind) : (railFault k s).faults = (reportFault k s).faults := railEnter_faults _

/-- A reported fault kind has its flag set (R181). -/
theorem reportFault_own_flag (k : FaultKind) : (reportFault k s).faults.flags.getLsbD (k.code - 1) = true := by
  have hcode : k.code - 1 < 16 := by cases k <;> decide
  simp [reportFault_flag, hcode]

/-- With no attempts left an obstruction ends in FAULT, the obstruction counted (R117, R120). -/
theorem obstruct_gives_up {e : Side} (h : s.cst.user.working.rail.attempts ≤ s.rlc.obstructions + 1) :
    obstruct e s =
      railFault .railObstructed (onRlc (fun r => { r with leg := none, obstructions := s.rlc.obstructions + 1 }) s) :=
  if_pos h

/-- With attempts left the rail backs off from an obstruction by a leg toward its origin (R117). -/
theorem obstruct_backs_off {e : Side} (h : s.rlc.obstructions + 1 < s.cst.user.working.rail.attempts) :
    (obstruct e s).faults = s.faults ∧ (obstruct e s).rlc =
      { s.rlc with
        state := .backoff
          { phase := .retreat s.cst.user.working.rail.backoffMs, origin := e.other, start := s.clock }
        obstructions := s.rlc.obstructions + 1
        leg := some (newLeg e.other false s) } := by
  unfold obstruct
  dsimp only
  rw [if_neg (Nat.not_le.mpr h)]
  refine ⟨?_, ?_⟩
  · rw [startLeg_faults, railEnter_faults]
    rfl
  · rw [startLeg_rlc, newLeg_congr (railEnter_clock _) (railEnter_cst _), railEnter_rlc]
    rfl

/-- A retreat that ends with the target away goes into the delay (R118). -/
theorem retreatEnd_away {b : BackoffInfo} (stalled : Bool) (h : target s ≠ b.origin) :
    retreatEnd stalled b s =
      onRlc (fun r =>
        { r with
          leg := none
          state := .backoff { b with phase := .delay s.cst.user.working.rail.retryMs stalled, start := s.clock } }) s :=
  if_neg h

/-- A retreat whose time ends with the target at the origin goes on there as a move (R118). -/
theorem retreatEnd_home {b : BackoffInfo} (h : target s = b.origin) :
    retreatEnd false b s = startMove b.origin false (cutDrive s) := if_pos h

/-! ## Stalls (R105, R106, R111, R117, R118) -/

/-- A run that has reached the filter width is a stall (R105). -/
theorem exec_stall {lg : Leg} {t0 : Clock} (hp : s.phase = .running) (hleg : s.rlc.leg = some lg) (hrun : lg.run = some t0)
    (hwidth : lg.params.filterUs ≤ elapsed s.clock t0) : exec .stall s = .next (stallLeg lg s) := by
  have hdue : stallDue s = some lg := by simp only [stallDue, hleg, hrun, hp, hwidth, true_and, if_true]
  have hexec : exec .stall s = execStall s := rfl
  rw [hexec, execStall, hdue]

theorem stallLeg_moving {e : Side} (lg : Leg) (h : s.rlc.state = movingState e) : stallLeg lg s =
    if lg.minCheck = false ∨ lg.params.minTravelMs * 1000 ≤ elapsed s.clock lg.start then
      arrive lg.toward (some (elapsed s.clock lg.start / 1000)) (cutDrive s)
    else obstruct lg.toward (cutDrive s) := by
  unfold stallLeg
  rw [h]
  cases e <;> rfl

theorem stallLeg_homing (lg : Leg) (h : s.rlc.state = .homing) :
    stallLeg lg s = arrive lg.toward (some (elapsed s.clock lg.start / 1000)) (cutDrive s) := by
  simp only [stallLeg, h]

theorem stallLeg_retreat {b : BackoffInfo} {ms : Nat} (lg : Leg) (h : s.rlc.state = .backoff b) (hphase : b.phase = .retreat ms) :
    stallLeg lg s = retreatEnd true b (cutDrive s) := by
  simp only [stallLeg, h, hphase]

/-- Below the minimum travel a stall of a checked leg is an obstruction (R106). -/
theorem stallLeg_obstructs {e : Side} {lg : Leg} (h : s.rlc.state = movingState e) (hcheck : lg.minCheck = true)
    (hmin : elapsed s.clock lg.start < lg.params.minTravelMs * 1000) : stallLeg lg s = obstruct lg.toward (cutDrive s) := by
  rw [stallLeg_moving lg h, if_neg]
  rintro (hc | hm)
  · exact nomatch hcheck.symm.trans hc
  · exact Nat.not_le.mpr hmin hm

/-- Settles O34: the stall by the state it falls in and the travel window, then what an arrival, an obstruction and the
end of a retreat make of the rail. -/
theorem stallIsArrivalOrObstruction : Obligations.StallIsArrivalOrObstruction := by
  intro lg t0 s hp hleg hrun hwidth
  rw [exec_stall hp hleg hrun hwidth]
  refine ⟨fun side hs htoward => ?_, fun hs htoward htarget => ?_, fun b ms hs hphase haway => ?_⟩
  · subst htoward
    refine ⟨fun hwindow htarget => ⟨_, rfl, ?_⟩, fun hcheck hmin hleft => ⟨_, rfl, ?_⟩, fun hcheck hmin hnone => ⟨_, rfl, ?_⟩⟩
    · rw [stallLeg_moving lg hs, if_pos hwindow, arrive_rlc_stays (s := cutDrive s) _ htarget]
      rfl
    · rw [stallLeg_obstructs hs hcheck hmin]
      exact obstruct_backs_off (s := cutDrive s) hleft
    · rw [stallLeg_obstructs hs hcheck hmin, obstruct_gives_up (s := cutDrive s) hnone, railFault_rlc, railFault_faults]
      exact ⟨rfl, reportFault_own_flag .railObstructed⟩
  · refine ⟨_, rfl, ?_⟩
    rw [stallLeg_homing lg hs, htoward, arrive_rlc_stays (s := cutDrive s) _ htarget]
    rfl
  · rw [stallLeg_retreat lg hs hphase, retreatEnd_away (s := cutDrive s) true haway]
    rfl

/-! ## Times of the rail (R106, R114, R118, R119) -/

theorem exec_maximumTravelTimeout {lg : Leg} (hp : s.phase = .running) (hleg : s.rlc.leg = some lg)
    (hstate : s.rlc.state.timed = true) (hmax : lg.params.maxTravelMs * 1000 ≤ elapsed s.clock lg.start) :
    exec .maximumTravelTimeout s = .next (railFault .railTimeout s) :=
  congrArg Host.Outcome.next (if_pos (by simp only [travelDue, hleg, hp, hstate, hmax, decide_true, Bool.and_self]))

theorem exec_backoffTimeEnd {b : BackoffInfo} {ms : Nat} (hp : s.phase = .running) (hstate : s.rlc.state = .backoff b)
    (hphase : b.phase = .retreat ms) (htime : ms * 1000 ≤ elapsed s.clock b.start) :
    exec .backoffTimeEnd s = .next (retreatEnd false b s) := by
  have hdue : backoffDue s = some b := by simp only [backoffDue, hstate, hphase, hp, htime, true_and, if_true]
  have hexec : exec .backoffTimeEnd s = execBackoffTimeEnd s := rfl
  rw [hexec, execBackoffTimeEnd, hdue]

/-- A delay at its end makes the next attempt, or waits at the origin for a quiet action (R119). -/
theorem exec_retryDelayEnd {b : BackoffInfo} {ms : Nat} {stalled : Bool} (hp : s.phase = .running)
    (hstate : s.rlc.state = .backoff b) (hphase : b.phase = .delay ms stalled)
    (htime : ms * 1000 ≤ elapsed s.clock b.start) :
    exec .retryDelayEnd s =
      .next (if quietTest s then startMove (target s) true s else enterWaiting b.origin (some stalled) s) := by
  have hdue : retryDue s = some (b.origin, stalled) := by
    simp only [retryDue, hstate, hphase, hp, htime, true_and, if_true]
  have hexec : exec .retryDelayEnd s = execRetryDelayEnd s := rfl
  rw [hexec, execRetryDelayEnd, hdue]

theorem exec_railHeld {w : WaitInfo} (hp : s.phase = .running) (hstate : s.rlc.state = .waiting w) (hheld : w.held = false)
    (htime : 2000000 ≤ elapsed s.clock w.start) :
    exec .railHeld s =
      .next (raiseAll .railHeld (onRlc (fun r => { r with state := .waiting { w with held := true } }) s)) := by
  have hdue : heldDue s = some w := by simp only [heldDue, hstate, hp, hheld, htime, or_true, true_and, if_true]
  have hexec : exec .railHeld s = execRailHeld s := rfl
  rw [hexec, execRailHeld, hdue]

/-- Settles O35: each time's command, and what the rail then does. -/
theorem railTimesEnd : Obligations.RailTimesEnd := by
  intro s hp
  refine ⟨fun lg hleg hs hmax => ?_, fun b ms hs hphase htime haway => ?_, fun b ms hs hphase htime hhome => ?_,
    fun b ms f hs hphase htime hq => ?_, fun b ms f hs hphase htime hq => ?_,
    fun w hs hheld htime => exec_railHeld hp hs hheld htime⟩
  · have htimed : s.rlc.state.timed = true := by rcases hs with hs | hs | hs <;> rw [hs] <;> rfl
    refine ⟨_, exec_maximumTravelTimeout hp hleg htimed hmax, railFault_rlc _, ?_⟩
    rw [railFault_faults]
    exact reportFault_own_flag .railTimeout
  · rw [exec_backoffTimeEnd hp hs hphase htime, retreatEnd_away false haway]
  · refine ⟨_, exec_backoffTimeEnd hp hs hphase htime, ?_⟩
    rw [retreatEnd_home hhome, startMove_rlc]
    rfl
  · refine ⟨_, exec_retryDelayEnd hp hs hphase htime, ?_⟩
    rw [if_pos hq, startMove_rlc]
  · refine ⟨_, exec_retryDelayEnd hp hs hphase htime, ?_⟩
    rw [if_neg (by rw [hq]; nofun), enterWaiting, railEnter_rlc]

end Sys2Proof.Machine
end

section
namespace Sys2Proof.Machine

variable {s t u : State}

/-! ## An empty queue (R114, R165, R173; logs 1, 9, 16, 18, 21) -/

theorem step_empty (h : s.pending = []) : step s = idle s := by
  rw [step, h]

theorem awake_of_powered (h : s.phase = .loading ∨ s.phase = .running) : s.phase.awake = true := by
  rcases h with h | h <;> rw [h] <;> rfl

theorem idle_asleep (h : s.phase = .off ∨ s.phase = .heldInReset) : idle s = .next s := by
  have hasleep : s.phase.awake = false := by rcases h with h | h <;> rw [h] <;> rfl
  rw [idle, hasleep]
  rfl

theorem idle_due {i : Instr} (h : s.phase.awake = true) (hdue : dueCommand s = some i) : idle s = exec i s := by
  rw [idle, if_pos h, hdue]

theorem idle_nothing_due (h : s.phase.awake = true) (hdue : dueCommand s = none) :
    idle s = .next (if awaitsOutside s then s else tick s) := by
  rw [idle, if_pos h, hdue]

theorem Sending.complete_iff {now : Clock} {sd : Sending} :
    sd.complete now = true ↔ 5 * sd.bytes.length ≤ elapsed now sd.start := decide_eq_true_iff

/-- A frame sent in full frees its transmitter (R165). -/
theorem freed_sent {ls : LinkState} {now : Clock} {sd : Sending} (hsd : ls.sending = some sd)
    (hfull : 5 * sd.bytes.length ≤ elapsed now sd.start) : ls.freed now = { ls with sending := none } := by
  rw [LinkState.freed, hsd, if_pos]
  exact Sending.complete_iff.mpr hfull

theorem freed_not_sent {ls : LinkState} {now : Clock}
    (h : ∀ sd, ¬(ls.sending = some sd ∧ 5 * sd.bytes.length ≤ elapsed now sd.start)) : ls.freed now = ls := by
  cases hls : ls.sending with
  | none =>
    rw [LinkState.freed, hls]
    rfl
  | some sd =>
    rw [LinkState.freed, hls, if_neg]
    exact fun hfull => h sd ⟨hls, Sending.complete_iff.mp hfull⟩

/-- A link has sent the reply to a SYSTEM RESET in full (R173). -/
theorem replied_iff {ls : LinkState} {now : Clock} : ls.replied now = true ↔
    ∃ sd, (ls.sending = some sd ∧ 5 * sd.bytes.length ≤ elapsed now sd.start)
      ∧ sd.bytes = envelope [kSystemReset ||| 0x80, 0] := by
  unfold LinkState.replied
  cases ls.sending with
  | none => simp
  | some sd => simp [Sending.complete_iff, Sending.answersReset]

theorem tick_link (l : Link) : (tick s).link l = (s.link l).freed (s.clock + 1) := by
  rw [tick_eq]
  cases l <;> rfl

/-- A wait's count reaches its end at 65,534 ms (R114; log 18). -/
theorem tick_rlc_waiting {w : WaitInfo} (h : s.rlc.state = .waiting w) : (tick s).rlc =
    { s.rlc with
      state := .waiting { w with stopped := w.stopped || decide (65534000 ≤ elapsed (s.clock + 1) w.start) } } := by
  rw [tick_eq, h]
  rfl

theorem tick_rlc_other (h : ∀ w, s.rlc.state ≠ .waiting w) : (tick s).rlc = s.rlc := by
  have hcount : s.rlc.state.stopCount (s.clock + 1) = s.rlc.state := by
    unfold RailState.stopCount
    split
    · exact absurd ‹_› (h _)
    · rfl
  rw [tick_eq]
  dsimp only
  rw [hcount]

theorem tick_sysReset_awaiting {l : Link} (h : s.sysReset = .awaitingReply l) : (tick s).sysReset =
    if (s.link l).replied (s.clock + 1) = true then .arrived s.cst.factory.commit.isSome s.cst.user.commit.isSome
    else .awaitingReply l := by
  rw [tick_eq, h]

/-- Where no reset awaits a reply that has been sent in full nothing arrives (R173). -/
theorem tick_sysReset_kept (h : ∀ l, s.sysReset = .awaitingReply l → (s.link l).replied (s.clock + 1) ≠ true) :
    (tick s).sysReset = s.sysReset := by
  cases hr : s.sysReset with
  | awaitingReply l => rw [tick_sysReset_awaiting hr, if_neg (h l hr)]
  | none => rw [tick_eq, hr]
  | arrived f u => rw [tick_eq, hr]

/-- A microsecond changes the clock, the rail, the links and an awaited system reset alone. -/
theorem tick_frame : tick s =
    { s with clock := s.clock + 1, rlc := (tick s).rlc, links := (tick s).links, sysReset := (tick s).sysReset } := by
  rw [tick_eq]

/-- Settles O2: the part asleep, due, awaiting, and the microsecond block by block. -/
theorem emptyQueueIdles : Obligations.EmptyQueueIdles := by
  intro s hqueue
  rw [step_empty hqueue]
  refine ⟨idle_asleep, fun i hp => idle_due (awake_of_powered hp), fun hp hdue hout => ?_, fun hp hdue hout => ?_⟩
  · rw [idle_nothing_due (awake_of_powered hp) hdue, hout]
    rfl
  · intro now sent
    have htick : idle s = .next (tick s) := by
      rw [idle_nothing_due (awake_of_powered hp) hdue, hout]
      rfl
    refine ⟨tick s, htick, tick_frame, fun w => tick_rlc_waiting, tick_rlc_other, fun l sd hsent => ?_, fun l hnot => ?_,
      fun l sd hwait hsent hreply => ?_, fun hnot => tick_sysReset_kept fun l hwait hrep => ?_⟩
    · obtain ⟨hsd, hfull⟩ := hsent
      rw [tick_link, freed_sent hsd hfull]
    · rw [tick_link, freed_not_sent hnot]
    · rw [tick_sysReset_awaiting hwait, if_pos (replied_iff.mpr ⟨sd, hsent, hreply⟩)]
    · obtain ⟨sd, hsent, hreply⟩ := replied_iff.mp hrep
      exact hnot l sd hwait hsent hreply

end Sys2Proof.Machine
end

section
namespace Sys2Proof.Machine

variable {s t u : State}

/-! ## READ RAIL (R123, R174) -/

/-- Six flags in bits 0 to 5 of a byte are read back bit by bit. -/
theorem getLsbD_sixFlags : ∀ b0 b1 b2 b3 b4 b5 : Bool,
    let x := byteOf (bitAt 0 b0 + bitAt 1 b1 + bitAt 2 b2 + bitAt 3 b3 + bitAt 4 b4 + bitAt 5 b5)
    x.getLsbD 0 = b0 ∧ x.getLsbD 1 = b1 ∧ x.getLsbD 2 = b2 ∧ x.getLsbD 3 = b3 ∧ x.getLsbD 4 = b4 ∧ x.getLsbD 5 = b5 := by
  decide

/-- Two bytes of `le16` carry a number modulo 2^16 (R174). -/
theorem le16_value (n : Nat) : (byteOf n).toNat + 256 * (byteOf (n / 256)).toNat = n % 65536 := by
  simp only [byteOf, BitVec.toNat_ofNat]
  omega

/-- The rail waits at BLOCKED: bit 0 of byte 1 of the rail record. -/
def RailState.waitsAtBlocked : RailState → Bool
  | .waiting w => w.side == .blockedEnd
  | _ => false

/-- A backoff is in its delay: bit 1. -/
def RailState.inDelay : RailState → Bool
  | .backoff { phase := .delay _ _, .. } => true
  | _ => false

/-- A backoff has its origin at BLOCKED: bit 2. -/
def RailState.originBlocked : RailState → Bool
  | .backoff b => b.origin == .blockedEnd
  | _ => false

theorem waitsAtBlocked_iff {r : RailState} : r.waitsAtBlocked = true ↔ ∃ w, r = .waiting w ∧ w.side = .blockedEnd := by
  cases r <;> simp [RailState.waitsAtBlocked]

theorem inDelay_iff {r : RailState} : r.inDelay = true ↔ ∃ b ms f, r = .backoff b ∧ b.phase = .delay ms f := by
  cases r with
  | backoff b =>
    obtain ⟨phase, origin, start⟩ := b
    cases phase with
    | retreat ms => simp [RailState.inDelay]
    | delay ms stalled => exact ⟨fun _ => ⟨_, ms, stalled, rfl, rfl⟩, fun _ => rfl⟩
  | _ => simp [RailState.inDelay]

theorem originBlocked_iff {r : RailState} : r.originBlocked = true ↔ ∃ b, r = .backoff b ∧ b.origin = .blockedEnd := by
  cases r <;> simp [RailState.originBlocked]

theorem railFlagByte_eq : railFlagByte s =
    bitAt 0 s.rlc.state.waitsAtBlocked + bitAt 1 s.rlc.state.inDelay + bitAt 2 s.rlc.state.originBlocked
      + bitAt 3 (gateBank s == .blockedEnd) + bitAt 4 (soundRoute s == .silent) + bitAt 5 (target s == .blockedEnd) := by
  unfold railFlagByte
  congr 3
  cases s.rlc.state with
  | waiting w => rfl
  | backoff b =>
    obtain ⟨phase, origin, start⟩ := b
    cases phase <;> simp [RailState.waitsAtBlocked, RailState.inDelay, RailState.originBlocked, bitAt]
  | _ => rfl

/-- Bytes 4 and 5 of the rail record before they are cut to 16 bits: the leg's time. -/
def Rlc.legMs (now : Clock) (r : Rlc) : Nat :=
  match r.leg with
  | some lg => elapsed now lg.start / 1000
  | none => 65535

/-- Bytes 6 and 7: the time of a wait. -/
def Rlc.waitMs (now : Clock) (r : Rlc) : Nat :=
  match r.state with
  | .waiting w => w.ms now
  | _ => 65535

theorem railRecord_legTime : word16At (railRecord s) 4 = s.rlc.legMs s.clock % 65536 := le16_value _

theorem railRecord_waitTime : word16At (railRecord s) 6 = s.rlc.waitMs s.clock % 65536 := le16_value _

theorem railRecord_travelTime : word16At (railRecord s) 8 = s.rlc.lastTravelMs.getD 65535 % 65536 := le16_value _

/-- Byte 1 of the rail record bit by bit (R174). -/
theorem railRecord_flags :
    let d := railRecord s
    bitOf d 1 0 = s.rlc.state.waitsAtBlocked ∧ bitOf d 1 1 = s.rlc.state.inDelay ∧ bitOf d 1 2 = s.rlc.state.originBlocked
      ∧ bitOf d 1 3 = (gateBank s == .blockedEnd) ∧ bitOf d 1 4 = (soundRoute s == .silent)
      ∧ bitOf d 1 5 = (target s == .blockedEnd) := by
  have hbyte (i : Nat) : bitOf (railRecord s) 1 i = (byteOf (railFlagByte s)).getLsbD i := rfl
  simp only [hbyte, railFlagByte_eq]
  exact getLsbD_sixFlags _ _ _ _ _ _

/-- Byte 2 of the rail record bit by bit (R174). -/
theorem railRecord_members :
    let d := railRecord s
    bitOf d 2 0 = s.rlc.demand.a ∧ bitOf d 2 1 = s.rlc.demand.b ∧ bitOf d 2 2 = s.rlc.demand.c
      ∧ bitOf d 2 3 = s.rlc.demand.lever ∧ bitOf d 2 4 = s.rlc.leverLow
      ∧ bitOf d 2 5 = s.cst.factory.working.option.leverDemand := getLsbD_sixFlags _ _ _ _ _ _

theorem state_code_lt (r : RailState) : r.code < 256 := by
  cases r <;> simp [RailState.code]

theorem legMs_off (h : s.rlc.leg = none) : s.rlc.legMs s.clock = 65535 := by
  simp only [Rlc.legMs, h]

theorem legMs_driven {lg : Leg} (h : s.rlc.leg = some lg) : s.rlc.legMs s.clock = elapsed s.clock lg.start / 1000 := by
  simp only [Rlc.legMs, h]

theorem waitMs_running {w : WaitInfo} (h : s.rlc.state = .waiting w) (hs : w.stopped = false) :
    s.rlc.waitMs s.clock = min (elapsed s.clock w.start / 1000) 65534 := by
  simp only [Rlc.waitMs, h, WaitInfo.ms, hs, Bool.false_eq_true, if_false]

theorem waitMs_stopped {w : WaitInfo} (h : s.rlc.state = .waiting w) (hs : w.stopped = true) : s.rlc.waitMs s.clock = 65534 := by
  simp only [Rlc.waitMs, h, WaitInfo.ms, hs, if_true]

theorem waitMs_absent (h : ∀ w, s.rlc.state ≠ .waiting w) : s.rlc.waitMs s.clock = 65535 := by
  unfold Rlc.waitMs
  split
  · exact absurd ‹_› (h _)
  · rfl

theorem exec_readRail {l : Link} {args : List Byte} (h : headRequest l s = some (kReadRail, args)) :
    exec (.readRail l) s = .next (putReply l kReadRail { result := .done, data := railRecord s } (popRequest l s)) :=
  congrArg Host.Outcome.next (serve_taken _ h)

/-! ### What the rail publishes (R121) -/

theorem gateBank_of_ne (h : s.rlc.state ≠ .openState) : gateBank s = .blockedEnd := by
  unfold gateBank RailState.bank
  split
  · exact absurd ‹_› h
  · rfl

theorem soundRoute_waiting {w : WaitInfo} (h : s.rlc.state = .waiting w) :
    soundRoute s = if w.side = .openEnd then .acoustic else .silent := by
  rw [soundRoute, h, RailState.route]

theorem soundRoute_fault (h : s.rlc.state = .fault) :
    soundRoute s = if target s = .blockedEnd then .silent else .acoustic := by
  rw [soundRoute, h, RailState.route]

/-- Gate bank and sound route of every rail state (R27, R121). -/
theorem published_by_state (s : State) :
    (s.rlc.state = .unknown ∨ s.rlc.state = .homing → gateBank s = .blockedEnd ∧ soundRoute s = .acoustic)
      ∧ (s.rlc.state = .openState → gateBank s = .openEnd ∧ soundRoute s = .acoustic)
      ∧ (s.rlc.state = .closing ∨ s.rlc.state = .blocked ∨ s.rlc.state = .opening →
          gateBank s = .blockedEnd ∧ soundRoute s = .silent)
      ∧ (∀ w, s.rlc.state = .waiting w → gateBank s = .blockedEnd
          ∧ soundRoute s = if w.side = .openEnd then .acoustic else .silent)
      ∧ (∀ b, s.rlc.state = .backoff b → gateBank s = .blockedEnd ∧ soundRoute s = .silent)
      ∧ (s.rlc.state = .fault → gateBank s = .blockedEnd
          ∧ soundRoute s = if target s = .blockedEnd then .silent else .acoustic) := by
  refine ⟨?_, fun h => ?_, ?_, fun w h => ⟨?_, soundRoute_waiting h⟩, fun b h => ?_, fun h => ⟨?_, soundRoute_fault h⟩⟩
  · rintro (h | h) <;> rw [gateBank, soundRoute, h] <;> exact ⟨rfl, rfl⟩
  · rw [gateBank, soundRoute, h]
    exact ⟨rfl, rfl⟩
  · rintro (h | h | h) <;> rw [gateBank, soundRoute, h] <;> exact ⟨rfl, rfl⟩
  · exact gateBank_of_ne (by rw [h]; nofun)
  · rw [gateBank, soundRoute, h]
    exact ⟨rfl, rfl⟩
  · exact gateBank_of_ne (by rw [h]; nofun)

/-- Settles O20: the record byte by byte, and bank and route by the rail state. -/
theorem readRailAnswersRecord : Obligations.ReadRailAnswersRecord := by
  refine ⟨fun l args s h => ?_, fun s => ?_⟩
  · obtain ⟨hwait, hdelay, horigin, hbank, hroute, htarget⟩ := railRecord_flags (s := s)
    obtain ⟨ha, hb, hc, hlever, hlow, hmode⟩ := railRecord_members (s := s)
    refine ⟨railRecord s, exec_readRail h, rfl, Nat.mod_eq_of_lt (state_code_lt s.rlc.state), ?_, ?_, ?_, ?_, ?_, ?_,
      ha, hb, hc, hlever, hlow, hmode, rfl, ?_⟩
    · rw [hwait, waitsAtBlocked_iff]
    · rw [hdelay, inDelay_iff]
    · rw [horigin, originBlocked_iff]
    · rw [hbank, beq_iff_eq]
    · rw [hroute, beq_iff_eq]
    · rw [htarget, beq_iff_eq]
    · rw [railRecord_legTime, railRecord_waitTime, railRecord_travelTime]
      refine ⟨fun hleg => ?_, fun lg hleg => ?_, fun hw => ?_, fun w hw hs => ?_, fun w hw hs => ?_, fun ht => ?_,
        fun ms ht => ?_⟩
      · rw [legMs_off hleg]
      · rw [legMs_driven hleg]
      · rw [waitMs_absent hw]
      · rw [waitMs_running hw hs]
        omega
      · rw [waitMs_stopped hw hs]
      · rw [ht]
        rfl
      · rw [ht]
        rfl
  · obtain ⟨hidle, hopen, hmoves, hwaits, hbackoff, hfault⟩ := published_by_state s
    refine ⟨hidle, hopen, hmoves, fun w hw => ?_, hbackoff, fun hf => ?_⟩
    · obtain ⟨hbank, hroute⟩ := hwaits w hw
      refine ⟨hbank, hroute.trans ?_⟩
      cases w.side <;> rfl
    · obtain ⟨hbank, hroute⟩ := hfault hf
      refine ⟨hbank, hroute.trans ?_⟩
      cases target s <;> rfl

end Sys2Proof.Machine
end

section
namespace Sys2Proof.Machine

variable {s t u : State}

/-! ## The rail's inputs (R105, R108) -/

/-- Of the rail at most state, leg, obstruction count and last travel time differ: demand set, lever, inputs and the
sensing-seen flag are as they were. -/
def DriveOnly (s t : State) : Prop :=
  ∃ state leg obstructions travel,
    t.rlc = { s.rlc with state := state, leg := leg, obstructions := obstructions, lastTravelMs := travel }

theorem DriveOnly.refl : DriveOnly s s := ⟨_, _, _, _, rfl⟩

theorem DriveOnly.trans (h : DriveOnly s t) (g : DriveOnly t u) : DriveOnly s u := by
  obtain ⟨_, _, _, _, hst⟩ := h
  obtain ⟨_, _, _, _, htu⟩ := g
  exact ⟨_, _, _, _, by rw [htu, hst]⟩

theorem railEnter_driveOnly (st : RailState) : DriveOnly s (railEnter st s) := ⟨_, _, _, _, railEnter_rlc st⟩

theorem startMove_driveOnly (e : Side) (check : Bool) : DriveOnly s (startMove e check s) := ⟨_, _, _, _, startMove_rlc e check⟩

theorem cutDrive_driveOnly : DriveOnly s (cutDrive s) := ⟨_, _, _, _, rfl⟩

theorem endTest_driveOnly (e : Side) : DriveOnly s (endTest e s) := by
  unfold endTest
  split_ifs
  · exact .refl
  · exact startMove_driveOnly _ _
  · exact railEnter_driveOnly _

theorem arrive_driveOnly (e : Side) (travel : Option Nat) : DriveOnly s (arrive e travel s) := by
  have hended : DriveOnly s (travelEnded travel s) := ⟨_, _, _, _, rfl⟩
  rw [arrive_eq]
  exact (hended.trans (railEnter_driveOnly _)).trans (endTest_driveOnly e)

theorem targetChanged_driveOnly : DriveOnly s (targetChanged s) := by
  have hturn (p : Prop) [Decidable p] (e : Side) : DriveOnly s (if p then startMove e false (cutDrive s) else s) := by
    split
    · exact cutDrive_driveOnly.trans (startMove_driveOnly _ _)
    · exact .refl
  unfold targetChanged
  split
  · exact .refl
  · exact .refl
  · exact .refl
  · exact endTest_driveOnly _
  · exact endTest_driveOnly _
  · exact hturn _ _
  · exact hturn _ _
  · split_ifs
    · exact startMove_driveOnly _ _
    · exact railEnter_driveOnly _
    · exact .refl
  · split
    · exact .refl
    · split_ifs
      · exact arrive_driveOnly _ _
      · exact startMove_driveOnly _ _
      · exact .refl

/-- A change of demand leaves what the rail's inputs set (R107). -/
theorem setDemand_driveOnly (d : Demand) : DriveOnly (withDemand d s) (setDemand d s) := by
  unfold setDemand
  dsimp only
  split
  · exact .refl
  · exact targetChanged_driveOnly

/-- The debounce ends: the lever level follows the input and LEVER's membership is derived again (R108). -/
theorem exec_leverDebounceExpiry (hp : s.phase = .running) (hne : s.rlc.silentLow ≠ s.rlc.leverLow)
    (htime : 20000 ≤ elapsed s.clock s.rlc.silentSince) :
    exec .leverDebounceExpiry s = .next (deriveLever (onRlc (fun r => { r with leverLow := r.silentLow }) s)) := by
  have hdue : leverDue s = true := by simp [leverDue, hp, hne, htime]
  exact congrArg Host.Outcome.next (if_pos hdue)

theorem deriveLever_leverLow : (deriveLever s).rlc.leverLow = s.rlc.leverLow := by
  obtain ⟨_, _, _, _, h⟩ := setDemand_driveOnly (s := s)
    { s.rlc.demand with lever := s.rlc.leverLow && s.cst.factory.working.option.leverDemand }
  rw [deriveLever, h]
  rfl

/-- A change of the motor current, by what the leg makes of it (R105). -/
theorem exec_railCurrentChange {current : Nat} {leg : Option Leg} (h : s.rlc.leg.map (Leg.currentChange s.clock current) = leg) :
    exec (.railCurrentChange current) s = .next (onRlc (fun r => { r with current := current, leg := leg }) s) := by
  subst h
  rfl

theorem currentChange_blanking {lg : Leg} (now : Clock) (current : Nat) (h : lg.blanked = false) :
    lg.currentChange now current = lg := by
  simp [Leg.currentChange, h]

theorem Leg.above_iff {lg : Leg} {current : Nat} : lg.above current = true ↔ (lg.params.threshold + 1) * 12 < current :=
  decide_eq_true_iff

/-- Above the threshold a run goes on, or starts where there is none (R105). -/
theorem currentChange_above {lg : Leg} {current : Nat} (now : Clock) (hb : lg.blanked = true)
    (h : (lg.params.threshold + 1) * 12 < current) :
    lg.currentChange now current = { lg with run := some (lg.run.getD now) } := by
  rw [Leg.currentChange, if_pos hb, if_pos (Leg.above_iff.mpr h)]

theorem currentChange_below {lg : Leg} {current : Nat} (now : Clock) (hb : lg.blanked = true)
    (h : current ≤ (lg.params.threshold + 1) * 12) : lg.currentChange now current = { lg with run := none } := by
  rw [Leg.currentChange, if_pos hb, if_neg (mt Leg.above_iff.mp (Nat.not_lt.mpr h))]

theorem exec_inrushBlankingEnd {lg : Leg} (hleg : s.rlc.leg = some lg) (hp : s.phase = .running) (hb : lg.blanked = false)
    (htime : lg.params.blankingMs * 1000 ≤ elapsed s.clock lg.start) :
    exec .inrushBlankingEnd s = .next (onRlc (fun r => { r with leg := some (lg.unblank s.clock s.rlc.current) }) s) := by
  have hdue : blankingDue s = true := by simp [blankingDue, hleg, hp, hb, htime]
  have hexec : exec .inrushBlankingEnd s = execInrushBlankingEnd s := rfl
  rw [hexec, execInrushBlankingEnd, if_pos hdue, onRlc, hleg]
  rfl

theorem unblank_eq (lg : Leg) (now : Clock) (current : Nat) : lg.unblank now current =
    { lg with blanked := true, run := if (lg.params.threshold + 1) * 12 < current then some now else none } := by
  simp only [Leg.unblank, Leg.above_iff]

/-- Settles O32: the input, the debounce, and the glitch filter by blanking, threshold and run. -/
theorem railInputsFollowed : Obligations.RailInputsFollowed := by
  intro level current s
  refine ⟨fun hne => congrArg Host.Outcome.next (if_neg hne), fun hp hne htime => ?_, fun hblank => ?_,
    fun lg hleg hb habove hrun => ?_, fun lg t0 hleg hb habove hrun => ?_, fun lg hleg hb hbelow => ?_,
    fun lg hleg hp hb htime => ?_⟩
  · exact ⟨_, exec_leverDebounceExpiry hp hne htime, deriveLever_leverLow, setDemand_demand _⟩
  · have hkept : s.rlc.leg.map (Leg.currentChange s.clock current) = s.rlc.leg := by
      cases hleg : s.rlc.leg with
      | none => rfl
      | some lg => rw [Option.map_some, currentChange_blanking _ _ (hblank lg hleg)]
    exact exec_railCurrentChange hkept
  · refine exec_railCurrentChange ?_
    rw [hleg, Option.map_some, currentChange_above _ hb habove, hrun]
    rfl
  · have hkept : s.rlc.leg.map (Leg.currentChange s.clock current) = s.rlc.leg := by
      rw [hleg, Option.map_some, currentChange_above _ hb habove, hrun, Option.getD_some, ← hrun]
    exact exec_railCurrentChange hkept
  · refine exec_railCurrentChange ?_
    rw [hleg, Option.map_some, currentChange_below _ hb hbelow]
  · rw [exec_inrushBlankingEnd hleg hp hb htime, unblank_eq]

/-! ## The quiet action (R109, R111, R114) -/

theorem exec_railHomingStart (hp : s.phase = .running) (hstate : s.rlc.state = .unknown) (hq : quietTest s = true) :
    exec .railHomingStart s = .next (startHoming s) := by
  have hdue : homingDue s = true := by simp [homingDue, hp, hstate, hq]
  exact congrArg Host.Outcome.next (if_pos hdue)

theorem exec_railQuietMoveStart {w : WaitInfo} (hp : s.phase = .running) (hstate : s.rlc.state = .waiting w)
    (hq : quietTest s = true) : exec .railQuietMoveStart s = .next (startMove w.side.other true s) := by
  have hdue : quietMoveDue s = some w.side := by simp [quietMoveDue, hstate, hp, hq]
  have hexec : exec .railQuietMoveStart s = execRailQuietMoveStart s := rfl
  rw [hexec, execRailQuietMoveStart, hdue]

/-- A key does not stand in the way with a FAILED channel, or with its hammer READY below the clear height (R109). -/
theorem KeyRec.quiet_iff {clear : Nat} {k : KeyRec} : k.quiet clear = true ↔
    k.depthFailed = true ∨ k.hammerFailed = true ∨ (k.hammer = .ready ∧ k.height < clear) := by
  simp [KeyRec.quiet, or_assoc]

theorem quietTest_iff : quietTest s = true ↔ s.rlc.sensingSeen = true ∧ ∀ k, (s.key k).depthFailed = true
    ∨ (s.key k).hammerFailed = true
    ∨ ((s.key k).hammer = .ready ∧ (s.key k).height < s.cst.user.working.hammer.clearHeight) := by
  simp only [quietTest, actionQuiet, Bool.and_eq_true, List.all_eq_true, List.mem_finRange, true_implies, KeyRec.quiet_iff]

/-- A move started by a test for quiet appends the RAIL event of the state it enters (R122). -/
theorem quietMove_ajn (hq : quietTest s = true) (h : s.rlc.state = .unknown ∨ ∃ w, s.rlc.state = .waiting w) :
    (quietMove s).ajn = s.ajn.push
      { time := s.clock, kind := .rail, source := .live, key := none, value := (quietMove s).rlc.state.code } := by
  rcases h with h | ⟨w, h⟩
  · rw [quietMove_unknown h hq, startHoming_ajn, startHoming_rlc]
  · rw [quietMove_waiting h hq, startMove_ajn, startMove_rlc]

/-- Every sample of a hammer sets its height, a held-out key's and a first one too (R29, R40, R44). -/
theorem hammerSample_height (k : Key) (time : Clock) (first : Bool) (height : Nat) (s : State) :
    ((hammerSample k time first height s).key k).height = height := by
  by_cases halone : (s.key k).heldOut = true ∨ first = true
  · rw [hammerSample_alone halone, State.key_onKey_same]
  · obtain ⟨hheld, hfirst⟩ := not_or.mp halone
    cases Bool.eq_false_iff.mpr hfirst
    obtain ⟨⟨hheight, -⟩, -⟩ := hammerSample_key (time := time) (h := height) (Bool.eq_false_iff.mpr hheld)
    exact hheight

theorem ActionOnly.rlc (h : ActionOnly s t) : t.rlc = s.rlc := by
  obtain ⟨_, _, _, _, _, _, _, _, rfl⟩ := h
  rfl

/-- A conversion of a HEALTHY hammer channel in range is a sample, and the test for quiet behind it (R15, R109). -/
theorem convertHammer_healthy {k : Key} {raw : Nat} (time : Clock) (hf : s.sfe.hammerCh[k].failed = false)
    (hr : 40 ≤ raw ∧ raw ≤ 4055) :
    convertHammer k time raw s = quietMove (hammerSample k time (!s.sfe.hammerCh[k].delivered)
      (normalise (s.cst.factory.working.keySensor[k]).hammerRest (s.cst.factory.working.keySensor[k]).hammerTop raw)
      (onSfe (fun f => { f with hammerCh := f.hammerCh.set k (channelTest s.sfe.hammerCh[k] raw).record }) s)) := by
  unfold convertHammer
  rw [channelTest_healthy_in hf hr]
  rfl

/-- The first frame end makes sensing seen and tests for quiet (R109). -/
theorem frameEnd_first (h : s.rlc.sensingSeen = false) :
    ∃ u, frameEnd s = quietMove u ∧ u.rlc = { s.rlc with sensingSeen := true } ∧ u.keys = s.keys := by
  refine ⟨_, if_neg ?_, rfl, rfl⟩
  rw [onEveryLink_rlc, h]
  nofun

/-- Settles O33: the two commands, the test's own meaning, what it starts, and where samples and frame ends make it. -/
theorem quietActionStartsDrive : Obligations.QuietActionStartsDrive := by
  refine ⟨fun s hp hq => ⟨fun hs => ⟨_, exec_railHomingStart hp hs hq, startHoming_rlc⟩, fun w hs hside => ?_,
      fun w hs hside => ?_⟩,
    fun s => quietTest_iff,
    fun s => ⟨fun hq hs => ?_, fun w hq hs => ?_, quietMove_ajn, ?_⟩,
    fun k time raw s hf hlo hhi => ?_, fun s => frameEnd_first⟩
  · exact ⟨_, exec_railQuietMoveStart hp hs hq, by rw [startMove_rlc, hside]; rfl⟩
  · exact ⟨_, exec_railQuietMoveStart hp hs hq, by rw [startMove_rlc, hside]; rfl⟩
  · rw [quietMove_unknown hs hq, startHoming_rlc]
  · rw [quietMove_waiting hs hq, startMove_rlc]
  · rintro (hq | ⟨hunknown, hwaiting⟩)
    · exact quietMove_unquiet hq
    · exact quietMove_other hunknown hwaiting
  · exact ⟨_, convertHammer_healthy time hf ⟨hlo, hhi⟩, (hammerSample_only _ _ _ _).rlc, hammerSample_height _ _ _ _ _⟩

end Sys2Proof.Machine
end

section
namespace Sys2Proof.Machine

variable {s t u : State} {n m : TakeNo} {b p : Block} {a : Nat} {r : TakeRec}

/-! ## Chains in the block table (R124) -/

theorem getElem_set_fin {α : Type} {k : Nat} (v : Vector α k) (i j : Fin k) (x : α) :
    (v.set i x)[j] = if j = i then x else v[j] := by
  simp [Vector.getElem_set, Fin.ext_iff, eq_comm]

/-- A chain starts at its first block. -/
theorem chainFrom_ne_nil (blocks : Vector BlockEntry 64) (fuel : Nat) (b : Block) : chainFrom blocks (fuel + 1) b ≠ [] := by
  unfold chainFrom
  split <;> exact List.cons_ne_nil _ _

/-- A chain whose first block has no next one holds that block alone. -/
theorem chainFrom_single {blocks : Vector BlockEntry 64} {b : Block} (h : ∀ c, blocks[b] ≠ .next c) (fuel : Nat) :
    chainFrom blocks (fuel + 1) b = [b] := by
  unfold chainFrom
  split
  · rename_i c hc
    exact absurd hc (h c)
  · rfl

/-- A chain whose last block is made to name a new last one is longer by that one (R125). -/
theorem chainFrom_extended {blocks blocks' : Vector BlockEntry 64} {fuel : Nat} {first p b : Block}
    (hfuel : (chainFrom blocks fuel first).length < fuel) (hnodup : (chainFrom blocks fuel first).Nodup)
    (hlast : (chainFrom blocks fuel first).getLast? = some p)
    (hother : ∀ c ∈ chainFrom blocks fuel first, c ≠ p → blocks'[c] = blocks[c])
    (hp : blocks'[p] = .next b) (hb : blocks'[b] = .last) :
    chainFrom blocks' fuel first = chainFrom blocks fuel first ++ [b] := by
  induction fuel generalizing first with
  | zero => exact absurd hfuel (Nat.not_lt_zero _)
  | succ fuel ih =>
    by_cases hnext : ∃ c, blocks[first] = .next c
    · obtain ⟨c, hc⟩ := hnext
      have hchain : chainFrom blocks (fuel + 1) first = first :: chainFrom blocks fuel c := by simp only [chainFrom, hc]
      rw [hchain] at hfuel hnodup hlast hother
      obtain ⟨fuel, rfl⟩ : ∃ k, fuel = k + 1 := Nat.exists_eq_succ_of_ne_zero (by simp at hfuel; omega)
      obtain ⟨hfirst, hnodup⟩ := List.nodup_cons.mp hnodup
      rw [List.getLast?_cons_of_ne_nil (chainFrom_ne_nil _ _ _)] at hlast
      have hne : first ≠ p := fun e => hfirst (e ▸ List.mem_of_getLast? hlast)
      have hkept : blocks'[first] = .next c := (hother first (List.mem_cons_self ..) hne).trans hc
      have htail := ih (by simpa using hfuel) hnodup hlast (fun d hd => hother d (List.mem_cons_of_mem _ hd)) hp hb
      rw [hchain, List.cons_append, ← htail]
      conv_lhs => unfold chainFrom
      simp only [hkept]
    · have hchain := chainFrom_single (fun c hc => hnext ⟨c, hc⟩) fuel
      rw [hchain] at hfuel hlast ⊢
      obtain rfl : first = p := by simpa using hlast
      obtain ⟨fuel, rfl⟩ : ∃ k, fuel = k + 1 := Nat.exists_eq_succ_of_ne_zero (by simp at hfuel; omega)
      conv_lhs => unfold chainFrom
      simp only [hp, chainFrom_single (blocks := blocks') (b := b) (by simp [hb]) fuel, List.cons_append, List.nil_append]

theorem takeChain_eq_nil_iff : takeChain s n = [] ↔ (s.take n).firstBlock = none := by
  unfold takeChain
  split
  · rename_i b hb
    simp [hb, chainFrom_ne_nil]
  · rename_i hb
    simp [hb]

/-- A take of one block. -/
theorem takeChain_single (hfirst : (s.take n).firstBlock = some b) (hlast : s.tks.blocks[b] = .last) :
    takeChain s n = [b] := by
  unfold takeChain
  rw [hfirst]
  exact chainFrom_single (by simp [hlast]) 63

/-! ## The places of a take (R124) -/

/-- Record `i` has its place where the chain reaches that far. -/
theorem recordAddr_isSome (h : a < 256 * (takeChain s n).length) :
    ∃ x, recordAddr s n a = some x := by
  have hlt : a / 256 < (takeChain s n).length := by omega
  exact ⟨_, by rw [recordAddr, List.getElem?_eq_getElem hlt, Option.map_some]⟩

/-- A longer chain keeps the places. -/
theorem recordAddr_of_prefix {i : Nat} (h : takeChain s n <+: takeChain t m) (ha : recordAddr s n i = some a) :
    recordAddr t m i = some a := by
  obtain ⟨tail, htail⟩ := h
  simp only [recordAddr, Option.map_eq_some_iff] at ha ⊢
  obtain ⟨b, hb, rfl⟩ := ha
  have hlt : i / 256 < (takeChain s n).length := (List.getElem?_eq_some_iff.mp hb).choose
  exact ⟨b, by rw [← htail, List.getElem?_append_left hlt, hb], rfl⟩

theorem recordAddr_congr (h : takeChain t n = takeChain s n) : recordAddr t n = recordAddr s n := by
  funext i
  rw [recordAddr, recordAddr, h]

/-- The block and the place of an address. -/
theorem recordAddr_eq_some {i : Nat} (h : recordAddr s n i = some a) :
    ∃ b, (takeChain s n)[i / 256]? = some b ∧ a = b.val * 256 + i % 256 := by
  simp only [recordAddr, Option.map_eq_some_iff] at h
  obtain ⟨b, hb, rfl⟩ := h
  exact ⟨b, hb, rfl⟩

/-- Two records of a chain without repetition have different places. -/
theorem recordAddr_index_inj {i j : Nat} (hnodup : (takeChain s n).Nodup) (hi : recordAddr s n i = some a)
    (hj : recordAddr s n j = some a) : i = j := by
  obtain ⟨b, hb, ha⟩ := recordAddr_eq_some hi
  obtain ⟨c, hc, ha'⟩ := recordAddr_eq_some hj
  obtain ⟨hblock, hplace⟩ : b = c ∧ i % 256 = j % 256 := ⟨Fin.ext (by omega), by omega⟩
  obtain ⟨hlt, hb⟩ := List.getElem?_eq_some_iff.mp hb
  obtain ⟨hlt', hc⟩ := List.getElem?_eq_some_iff.mp hc
  have hindex := (List.Nodup.getElem_inj_iff hnodup).mp (hb.trans (hblock.trans hc.symm))
  omega

/-- Records of different takes have different places where their chains share no block. -/
theorem recordAddr_ne {i j : Nat} {a' : Nat} (hdisjoint : ∀ b ∈ takeChain s n, b ∉ takeChain s m)
    (hi : recordAddr s n i = some a) (hj : recordAddr s m j = some a') : a ≠ a' := by
  obtain ⟨b, hb, ha⟩ := recordAddr_eq_some hi
  obtain ⟨c, hc, ha'⟩ := recordAddr_eq_some hj
  intro e
  obtain rfl : b = c := Fin.ext (by omega)
  exact hdisjoint b (List.mem_of_getElem? hb) (List.mem_of_getElem? hc)

/-- All records counted are held exactly when each is. -/
theorem takeRecords_length_iff : (takeRecords s n).length = (s.take n).count ↔
    ∀ i < (s.take n).count, (recordAt s n i).isSome = true := by
  have h := List.filterMap_length_eq_length (f := recordAt s n) (l := List.range (s.take n).count)
  simpa [takeRecords] using h

/-- With nothing left out, a filtered list is the list of images. -/
theorem getElem?_filterMap_of_isSome {α β : Type} {f : α → Option β} {xs : List α} (h : ∀ x ∈ xs, (f x).isSome = true)
    (i : Nat) : (xs.filterMap f)[i]? = xs[i]?.bind f := by
  induction xs generalizing i with
  | nil => rfl
  | cons x xs ih =>
    obtain ⟨y, hy⟩ := Option.isSome_iff_exists.mp (h x (List.mem_cons_self ..))
    rw [List.filterMap_cons_some hy]
    cases i with
    | zero => simp [hy]
    | succ i => simpa using ih (fun x hx => h x (List.mem_cons_of_mem _ hx)) i

/-- Where all records counted are held, the records are the ones at their places. -/
theorem takeRecords_getElem? {i : Nat} (hheld : (takeRecords s n).length = (s.take n).count) (hi : i < (s.take n).count) :
    (takeRecords s n)[i]? = recordAt s n i := by
  have hsome := takeRecords_length_iff.mp hheld
  rw [takeRecords, getElem?_filterMap_of_isSome fun j hj => hsome j (List.mem_range.mp hj)]
  simp [hi]

end Sys2Proof.Machine
end

section
namespace Sys2Proof.Machine

variable {s t u : State} {n m : TakeNo} {b p c : Block} {a : Nat} {r : TakeRec}

/-! ## A block allocated (R125) -/

theorem lowestFree_free (h : lowestFree s = some b) : s.tks.blocks[b] = .free := by
  simpa using List.find?_some h

/-- A take without a block is given its first. -/
theorem allocateBlock_first (hfree : lowestFree s = some b) (h : takeChain s n = []) :
    allocateBlock n s = onTake n (fun e => { e with firstBlock := some b })
      (onTks (fun k => { k with blocks := k.blocks.set b .last }) s) := by
  simp only [allocateBlock, hfree, h, List.getLast?_nil]

/-- A chain's last block is made to name the block allocated. -/
theorem allocateBlock_next (hfree : lowestFree s = some b) (h : (takeChain s n).getLast? = some p) :
    allocateBlock n s = onTks (fun k => { k with blocks := k.blocks.set p (.next b) })
      (onTks (fun k => { k with blocks := k.blocks.set b .last }) s) := by
  simp only [allocateBlock, hfree, h]

/-- Of its take's entry an allocation changes the first block alone. -/
theorem allocateBlock_take_same : (allocateBlock n s).take n =
    { s.take n with firstBlock := ((allocateBlock n s).take n).firstBlock } := by
  unfold allocateBlock
  split
  · rfl
  · dsimp only
    split
    · rfl
    · rw [State.take_onTake_same]
      rfl

theorem allocateBlock_take_ne (h : m ≠ n) : (allocateBlock n s).take m = s.take m := by
  unfold allocateBlock
  split
  · rfl
  · dsimp only
    split
    · rfl
    · exact State.take_onTake_ne _ h

theorem allocateBlock_recorder : (allocateBlock n s).tks.recorder = s.tks.recorder := by
  unfold allocateBlock
  split
  · rfl
  · dsimp only
    split <;> rfl

theorem allocateBlock_store : StoreOnly s (allocateBlock n s) := by
  unfold allocateBlock
  split
  · exact .refl s
  · dsimp only
    split
    · exact (onTks_store _).trans (onTks_store _)
    · exact (onTks_store _).trans (onTake_store _ _)

/-- The entries of the block table behind an allocation: the new block is a last one, the chain's last block names it. -/
theorem allocateBlock_blocks (hfree : lowestFree s = some b) (c : Block) : (allocateBlock n s).tks.blocks[c] =
    if (takeChain s n).getLast? = some c then .next b else if c = b then .last else s.tks.blocks[c] := by
  cases hlast : (takeChain s n).getLast? with
  | none =>
    rw [allocateBlock_first hfree (List.getLast?_eq_none_iff.mp hlast), if_neg (by simp)]
    exact getElem_set_fin _ _ _ _
  | some p =>
    rw [allocateBlock_next hfree hlast]
    refine (getElem_set_fin _ _ _ _).trans ?_
    simp only [onTks_tks, getElem_set_fin, Option.some.injEq, eq_comm]

/-- A count over a list without repetition is one more where one element more is counted. -/
theorem countP_eq_succ {α : Type} {p q : α → Bool} {x : α} {xs : List α} (hnodup : xs.Nodup) (hmem : x ∈ xs)
    (hp : p x = true) (hq : q x = false) (h : ∀ y, y ≠ x → q y = p y) : xs.countP p = xs.countP q + 1 := by
  induction xs with
  | nil => cases hmem
  | cons y ys ih =>
    obtain ⟨hy, hnodup⟩ := List.nodup_cons.mp hnodup
    rcases List.mem_cons.mp hmem with rfl | hmem
    · have hrest : ys.countP p = ys.countP q :=
        List.countP_congr fun z hz => by rw [h z fun e => hy (e ▸ hz)]
      rw [List.countP_cons_of_pos hp, List.countP_cons_of_neg (by simp [hq]), hrest]
    · have hne : y ≠ x := fun e => hy (e ▸ hmem)
      rw [List.countP_cons, List.countP_cons, ih hnodup hmem, h y hne]
      omega

theorem lowestFree_of_freeBlocks (h : 0 < freeBlocks s) : ∃ b, lowestFree s = some b := by
  obtain ⟨b, hb, hfree⟩ := List.countP_pos_iff.mp h
  exact Option.isSome_iff_exists.mp (List.find?_isSome.mpr ⟨b, hb, hfree⟩)

/-! ## Sound block tables (R124, R125) -/

theorem BlocksSound.chain (h : BlocksSound s) (n : TakeNo) : ChainSound s n := by
  obtain ⟨hchain, -, -⟩ := h
  exact hchain n

/-- A block lies in one chain at most. -/
theorem BlocksSound.owner_unique (h : BlocksSound s) (hm : b ∈ takeChain s m) (hn : b ∈ takeChain s n) : m = n := by
  obtain ⟨-, hdisjoint, -⟩ := h
  exact hdisjoint m n b hm hn

/-- A block that is not FREE lies in a chain. -/
theorem BlocksSound.owned (h : BlocksSound s) (hb : s.tks.blocks[b] ≠ .free) : ∃ n, b ∈ takeChain s n := by
  obtain ⟨-, -, hcover⟩ := h
  exact hcover b hb

/-- No block of a sound chain is FREE. -/
theorem BlocksSound.not_free (h : BlocksSound s) (hb : s.tks.blocks[b] = .free) : b ∉ takeChain s n := by
  obtain ⟨-, hnotFree, -⟩ := h.chain n
  exact fun hmem => hnotFree b hmem hb

theorem BlocksSound.nodup (h : BlocksSound s) (n : TakeNo) : (takeChain s n).Nodup := by
  obtain ⟨hnodup, -⟩ := h.chain n
  exact hnodup

theorem BlocksSound.disjoint (h : BlocksSound s) (hne : m ≠ n) (hb : b ∈ takeChain s m) : b ∉ takeChain s n :=
  fun hb' => hne (h.owner_unique hb hb')

theorem BlocksSound.count_le (h : BlocksSound s) (n : TakeNo) : (s.take n).count ≤ 256 * (takeChain s n).length := by
  obtain ⟨-, -, -, hroom, -⟩ := h.chain n
  exact hroom

/-- Every record counted is held. -/
theorem BlocksSound.records_length (h : BlocksSound s) (n : TakeNo) : (takeRecords s n).length = (s.take n).count := by
  obtain ⟨-, -, -, -, -, hheld, -⟩ := h.chain n
  exact hheld

/-- An EMPTY take owns nothing. -/
theorem BlocksSound.empty (h : BlocksSound s) (hn : (s.take n).state = .empty) : s.take n = {} := by
  obtain ⟨-, -, -, -, -, -, hempty⟩ := h.chain n
  exact hempty hn

/-- A chain of a take that owns no block and counts no record is sound. -/
theorem chainSound_of_cleared (h : s.take n = {}) : ChainSound s n := by
  have hchain : takeChain s n = [] := takeChain_eq_nil_iff.mpr (by rw [h])
  simp [ChainSound, hchain, h, takeRecords]

/-- A chain stays sound when its entry's count, its blocks' entries and its records are as they were. -/
theorem ChainSound.congr (h : ChainSound s n) (hcount : (t.take n).count = (s.take n).count)
    (hchain : takeChain t n = takeChain s n) (hblocks : ∀ b ∈ takeChain s n, t.tks.blocks[b] = s.tks.blocks[b])
    (hrecords : takeRecords t n = takeRecords s n) (hempty : (t.take n).state = .empty → t.take n = {}) : ChainSound t n := by
  obtain ⟨hnodup, hfree, hlast, hroom, hneeded, hheld, -⟩ := h
  refine ⟨by rwa [hchain], fun b hb => ?_, fun b hb => ?_, by rwa [hchain, hcount], by rwa [hchain, hcount],
    by rwa [hrecords, hcount], hempty⟩
  · rw [hchain] at hb
    rw [hblocks b hb]
    exact hfree b hb
  · rw [hchain] at hb
    rw [hblocks b (List.mem_of_getLast? hb)]
    exact hlast b hb

/-- With block table, take memory, first blocks and counts as they were the table stays sound. -/
theorem BlocksSound.congr (h : BlocksSound s) (hblocks : t.tks.blocks = s.tks.blocks) (hmem : t.tks.mem = s.tks.mem)
    (hfirst : ∀ n, (t.take n).firstBlock = (s.take n).firstBlock) (hcount : ∀ n, (t.take n).count = (s.take n).count)
    (hempty : ∀ n, (t.take n).state = .empty → t.take n = {}) : BlocksSound t := by
  have hchain (n : TakeNo) : takeChain t n = takeChain s n := takeChain_congr (hfirst n) fun b _ => by rw [hblocks]
  refine ⟨fun n => ?_, fun m n b hm hn => ?_, fun b hb => ?_⟩
  · exact (h.chain n).congr (hcount n) (hchain n) (fun b _ => by rw [hblocks])
      (takeRecords_congr (hcount n) (hchain n) hmem) (hempty n)
  · rw [hchain] at hm hn
    exact h.owner_unique hm hn
  · rw [hblocks] at hb
    obtain ⟨n, hn⟩ := h.owned hb
    exact ⟨n, by rwa [hchain]⟩

/-! ### A block allocated in a sound table -/

theorem allocateBlock_chain (h : BlocksSound s) (hfree : lowestFree s = some b) :
    takeChain (allocateBlock n s) n = takeChain s n ++ [b] := by
  have hnew : b ∉ takeChain s n := h.not_free (lowestFree_free hfree)
  have hblocks := allocateBlock_blocks (n := n) hfree
  have hlast : (allocateBlock n s).tks.blocks[b] = .last := by
    rw [hblocks, if_neg fun e => hnew (List.mem_of_getLast? e), if_pos rfl]
  by_cases hnil : takeChain s n = []
  · rw [hnil]
    refine takeChain_single ?_ hlast
    rw [allocateBlock_first hfree hnil, State.take_onTake_same]
  · obtain ⟨p, hp⟩ := Option.isSome_iff_exists.mp (List.getLast?_isSome.mpr hnil)
    obtain ⟨first, hfirst⟩ := Option.ne_none_iff_exists'.mp (mt takeChain_eq_nil_iff.mpr hnil)
    have hs : takeChain s n = chainFrom s.tks.blocks 64 first := by rw [takeChain, hfirst]
    have ht : takeChain (allocateBlock n s) n = chainFrom (allocateBlock n s).tks.blocks 64 first := by
      have hkept : ((allocateBlock n s).take n).firstBlock = some first := by
        rw [allocateBlock_next hfree hp]
        exact hfirst
      rw [takeChain, hkept]
    have hlength : (takeChain s n).length < 64 := by
      have hnodup : (b :: takeChain s n).Nodup := List.nodup_cons.mpr ⟨hnew, h.nodup n⟩
      simpa using hnodup.length_le_card
    have hother (c : Block) (hc : c ∈ takeChain s n) (hne : c ≠ p) :
        (allocateBlock n s).tks.blocks[c] = s.tks.blocks[c] := by
      rw [hblocks, if_neg (by rw [hp]; simpa using Ne.symm hne), if_neg (ne_of_mem_of_not_mem hc hnew)]
    have hnamed : (allocateBlock n s).tks.blocks[p] = .next b := by rw [hblocks, if_pos hp]
    have hnodup := h.nodup n
    rw [ht, hs]
    rw [hs] at hlength hnodup hp hother
    exact chainFrom_extended hlength hnodup hp hother hnamed hlast

/-- The blocks of another chain keep their entries. -/
theorem allocateBlock_blocks_ne (h : BlocksSound s) (hfree : lowestFree s = some b) (hm : m ≠ n) (hc : c ∈ takeChain s m) :
    (allocateBlock n s).tks.blocks[c] = s.tks.blocks[c] := by
  rw [allocateBlock_blocks hfree, if_neg fun e => h.disjoint hm hc (List.mem_of_getLast? e),
    if_neg fun e => h.not_free (lowestFree_free hfree) (e ▸ hc)]

theorem allocateBlock_chain_ne (h : BlocksSound s) (hfree : lowestFree s = some b) (hm : m ≠ n) :
    takeChain (allocateBlock n s) m = takeChain s m :=
  takeChain_congr (by rw [allocateBlock_take_ne hm]) fun _ hc => allocateBlock_blocks_ne h hfree hm hc

theorem allocateBlock_records_ne (h : BlocksSound s) (hfree : lowestFree s = some b) (hm : m ≠ n) :
    takeRecords (allocateBlock n s) m = takeRecords s m :=
  takeRecords_congr (by rw [allocateBlock_take_ne hm]) (allocateBlock_chain_ne h hfree hm) (allocateBlock_mem n s)

theorem allocateBlock_count (m : TakeNo) : ((allocateBlock n s).take m).count = (s.take m).count := by
  by_cases hm : m = n
  · rw [hm, allocateBlock_take_same]
  · rw [allocateBlock_take_ne hm]

theorem allocateBlock_records (h : BlocksSound s) (hfree : lowestFree s = some b) :
    takeRecords (allocateBlock n s) n = takeRecords s n := by
  have hprefix : takeChain s n <+: takeChain (allocateBlock n s) n := by
    rw [allocateBlock_chain h hfree]
    exact List.prefix_append _ _
  rw [takeRecords, takeRecords, allocateBlock_count]
  refine List.filterMap_congr fun i hi => ?_
  have hroom := h.count_le n
  obtain ⟨a, ha⟩ := recordAddr_isSome (s := s) (n := n) (a := i) (by have := List.mem_range.mp hi; omega)
  rw [recordAt, recordAt, recordAddr_of_prefix hprefix ha, ha, allocateBlock_mem]

/-- A free block fewer. -/
theorem allocateBlock_freeBlocks (h : BlocksSound s) (hfree : lowestFree s = some b) :
    freeBlocks s = freeBlocks (allocateBlock n s) + 1 := by
  have hnew := lowestFree_free hfree
  refine countP_eq_succ (List.nodup_finRange 64) (List.mem_finRange b) (by simp [hnew]) ?_ fun c hc => ?_
  · rw [allocateBlock_blocks hfree, if_neg fun e => h.not_free hnew (List.mem_of_getLast? e), if_pos rfl]
    rfl
  · rw [allocateBlock_blocks hfree, if_neg hc]
    split
    · rename_i hlast
      have hused : s.tks.blocks[c] ≠ .free := fun e => h.not_free e (List.mem_of_getLast? hlast)
      simpa using hused
    · rfl

/-- A full chain stays sound with one block more (R125). -/
theorem allocateBlock_sound (h : BlocksSound s) (hfree : lowestFree s = some b) (hstate : (s.take n).state ≠ .empty)
    (hfull : 256 * (takeChain s n).length ≤ (s.take n).count) : BlocksSound (allocateBlock n s) := by
  have hchain := allocateBlock_chain (n := n) h hfree
  have hnew : b ∉ takeChain s n := h.not_free (lowestFree_free hfree)
  have hchainOf (m : TakeNo) (hm : m ≠ n) := allocateBlock_chain_ne h hfree hm
  have hblocks := allocateBlock_blocks (n := n) hfree
  have hlast : (allocateBlock n s).tks.blocks[b] = .last := by
    rw [hblocks, if_neg fun e => hnew (List.mem_of_getLast? e), if_pos rfl]
  have hroom := h.count_le n
  refine ⟨fun m => ?_, fun m k c hm hk => ?_, fun c hc => ?_⟩
  · by_cases hm : m = n
    · subst hm
      refine ⟨?_, fun c hc => ?_, fun c hc => ?_, ?_, ?_, ?_, fun he => ?_⟩
      · rw [hchain]
        exact List.nodup_append.mpr ⟨h.nodup m, List.nodup_singleton b, fun c hc d hd =>
          List.mem_singleton.mp hd ▸ fun e => hnew (e ▸ hc)⟩
      · rw [hblocks]
        split_ifs with hc' hb
        · exact nofun
        · exact nofun
        · rw [hchain, List.mem_append, List.mem_singleton] at hc
          exact fun e => h.not_free e (hc.resolve_right hb)
      · rw [hchain, List.getLast?_concat] at hc
        exact Option.some.inj hc ▸ hlast
      · rw [hchain, allocateBlock_count, List.length_append, List.length_singleton]
        omega
      · rw [hchain, allocateBlock_count, List.length_append, List.length_singleton]
        omega
      · rw [allocateBlock_records h hfree, allocateBlock_count, h.records_length]
      · rw [allocateBlock_take_same] at he
        exact absurd he hstate
    · exact (h.chain m).congr (allocateBlock_count m) (hchainOf m hm) (fun c hc => allocateBlock_blocks_ne h hfree hm hc)
        (allocateBlock_records_ne h hfree hm) fun he => by
          rw [allocateBlock_take_ne hm] at he ⊢
          exact h.empty he
  · have hin (i : TakeNo) (hi : c ∈ takeChain (allocateBlock n s) i) : c ∈ takeChain s i ∨ (c = b ∧ i = n) := by
      by_cases hi' : i = n
      · subst hi'
        rw [hchain, List.mem_append, List.mem_singleton] at hi
        exact hi.imp_right fun e => ⟨e, rfl⟩
      · exact .inl (hchainOf i hi' ▸ hi)
    rcases hin m hm with hm | ⟨rfl, rfl⟩ <;> rcases hin k hk with hk | ⟨hc, hk'⟩
    · exact h.owner_unique hm hk
    · exact absurd (hc ▸ hm) (h.not_free (lowestFree_free hfree))
    · exact absurd hk (h.not_free (lowestFree_free hfree))
    · exact hk'.symm
  · by_cases hcb : c = b
    · exact ⟨n, by rw [hchain, hcb]; simp⟩
    · have hused : s.tks.blocks[c] ≠ .free := fun e => by
        rw [hblocks, if_neg fun hl => h.not_free e (List.mem_of_getLast? hl), if_neg hcb] at hc
        exact hc e
      obtain ⟨m, hm⟩ := h.owned hused
      by_cases hmn : m = n
      · exact ⟨n, by rw [hchain, ← hmn]; exact List.mem_append_left _ hm⟩
      · exact ⟨m, by rwa [hchainOf m hmn]⟩

end Sys2Proof.Machine
end

section
namespace Sys2Proof.Machine

variable {s t u : State} {n m : TakeNo} {b c : Block} {a : Nat} {r : TakeRec} {rs : List TakeRec}

/-! ## Records appended (R125, R134) -/

/-- A directory entry counts a record more. -/
def TakeEntry.counting (r : TakeRec) (e : TakeEntry) : TakeEntry :=
  { e with
    count := e.count + 1
    duration := e.duration + r.ms
    strikes := e.strikes + (if r.kind = .strike then 1 else 0) }

/-- A record written at a place of the last block and counted. -/
def recordWritten (n : TakeNo) (a : Nat) (r : TakeRec) (s : State) : State :=
  onTake n (TakeEntry.counting r) (onTks (fun k => { k with mem := TakeMem.write k.mem a r }) s)

/-- Where the chain has a place left, the record is written there. -/
theorem appendRecord_of_room (ha : recordAddr s n (s.take n).count = some a)
    (hroom : (s.take n).count < 256 * (takeChain s n).length) : appendRecord n s r = recordWritten n a r s := by
  simp only [appendRecord, if_neg (Nat.not_le.mpr hroom), ha]
  rfl

/-- Where the chain is full, a block is allocated first. -/
theorem appendRecord_of_full (hfull : 256 * (takeChain s n).length ≤ (s.take n).count)
    (hroom : (s.take n).count < 256 * (takeChain (allocateBlock n s) n).length) :
    appendRecord n s r = appendRecord n (allocateBlock n s) r := by
  simp only [appendRecord, if_pos hfull, allocateBlock_count, if_neg (Nat.not_le.mpr hroom)]

/-- Take `n` with a block more where its chain is full (R125). -/
def roomMade (n : TakeNo) (s : State) : State :=
  if 256 * (takeChain s n).length ≤ (s.take n).count then allocateBlock n s else s

/-- A record written as record `i` of take `n`, where it has a place (R124). -/
def recordPut (n : TakeNo) (i : Nat) (r : TakeRec) (s : State) : State :=
  match recordAddr s n i with
  | some a => onTks (fun k => { k with mem := TakeMem.write k.mem a r }) s
  | none => s

/-- The three parts of an append. -/
theorem appendRecord_eq : appendRecord n s r =
    onTake n (TakeEntry.counting r) (recordPut n (s.take n).count r (roomMade n s)) := rfl

theorem roomMade_rel {R : State → State → Prop} (refl : R s s) (allocated : R s (allocateBlock n s)) :
    R s (roomMade n s) := by
  unfold roomMade
  split
  · exact allocated
  · exact refl

theorem recordPut_rel {R : State → State → Prop} {i : Nat} (refl : R s s)
    (written : ∀ f : Tks → TakeMem, R s (onTks (fun k => { k with mem := f k }) s)) :
    R s (recordPut n i r s) := by
  unfold recordPut
  split
  · exact written _
  · exact refl

theorem recordPut_take (i : Nat) (m : TakeNo) : (recordPut n i r s).take m = s.take m :=
  recordPut_rel (R := fun s t => t.take m = s.take m) rfl fun _ => rfl

/-- Whatever the block table, an append counts its record in its take's entry. -/
theorem appendRecord_take_same : (appendRecord n s r).take n =
    TakeEntry.counting r { s.take n with firstBlock := ((roomMade n s).take n).firstBlock } := by
  have hroom : (roomMade n s).take n = { s.take n with firstBlock := ((roomMade n s).take n).firstBlock } :=
    roomMade_rel (R := fun s t => t.take n = { s.take n with firstBlock := (t.take n).firstBlock }) rfl allocateBlock_take_same
  rw [appendRecord_eq, State.take_onTake_same, recordPut_take]
  exact congrArg _ hroom

theorem appendRecord_take_ne (hm : m ≠ n) : (appendRecord n s r).take m = s.take m := by
  rw [appendRecord_eq, State.take_onTake_ne _ hm, recordPut_take]
  exact roomMade_rel (R := fun s t => t.take m = s.take m) rfl (allocateBlock_take_ne hm)

theorem appendRecord_store : StoreOnly s (appendRecord n s r) := by
  have hroom : StoreOnly s (roomMade n s) := roomMade_rel (.refl s) allocateBlock_store
  have hput : StoreOnly (roomMade n s) (recordPut n (s.take n).count r (roomMade n s)) :=
    recordPut_rel (.refl _) fun _ => onTks_store _
  rw [appendRecord_eq]
  exact (hroom.trans hput).trans (onTake_store _ _)

theorem appendRecord_recorder : (appendRecord n s r).tks.recorder = s.tks.recorder := by
  have hroom : (roomMade n s).tks.recorder = s.tks.recorder :=
    roomMade_rel (R := fun s t => t.tks.recorder = s.tks.recorder) rfl allocateBlock_recorder
  have hput : (recordPut n (s.take n).count r (roomMade n s)).tks.recorder = (roomMade n s).tks.recorder :=
    recordPut_rel (R := fun s t => t.tks.recorder = s.tks.recorder) rfl fun _ => rfl
  rw [appendRecord_eq]
  exact hput.trans hroom

/-- What appended records make of their take's entry, and what they leave alone, whatever the block table. -/
structure EntryGrown (n : TakeNo) (rs : List TakeRec) (s t : State) : Prop where
  store : StoreOnly s t
  recorder : t.tks.recorder = s.tks.recorder
  others : ∀ m, m ≠ n → t.take m = s.take m
  state : (t.take n).state = (s.take n).state
  count : (t.take n).count = (s.take n).count + rs.length
  duration : (t.take n).duration = (s.take n).duration + (rs.map TakeRec.ms).sum
  strikes : (t.take n).strikes = (s.take n).strikes + rs.countP (fun r => r.kind == .strike)

theorem appendRecords_entryGrown (n : TakeNo) (rs : List TakeRec) (s : State) :
    EntryGrown n rs s (appendRecords n rs s) := by
  induction rs generalizing s with
  | nil => exact ⟨.refl s, rfl, fun _ _ => rfl, rfl, rfl, rfl, rfl⟩
  | cons r rs ih =>
    have hrest := ih (appendRecord n s r)
    have hentry := appendRecord_take_same (s := s) (n := n) (r := r)
    refine ⟨appendRecord_store.trans hrest.store, hrest.recorder.trans appendRecord_recorder,
      fun m hm => (hrest.others m hm).trans (appendRecord_take_ne hm), hrest.state.trans ?_, hrest.count.trans ?_,
      hrest.duration.trans ?_, hrest.strikes.trans ?_⟩ <;> rw [hentry]
    · rfl
    · exact Nat.add_right_comm _ 1 _
    · exact Nat.add_assoc _ _ _
    · rw [List.countP_cons, Nat.add_comm (rs.countP _)]
      simp only [TakeEntry.counting, beq_iff_eq, Nat.add_assoc]

/-! ### The record written -/

theorem recordWritten_chain (m : TakeNo) : takeChain (recordWritten n a r s) m = takeChain s m := by
  refine takeChain_congr ?_ fun _ _ => rfl
  by_cases hm : m = n
  · subst hm
    rw [recordWritten, State.take_onTake_same]
    rfl
  · rw [recordWritten, State.take_onTake_ne _ hm]
    rfl

theorem recordWritten_take : (recordWritten n a r s).take n = TakeEntry.counting r (s.take n) := by
  rw [recordWritten, State.take_onTake_same]
  rfl

theorem recordWritten_take_ne (hm : m ≠ n) : (recordWritten n a r s).take m = s.take m := by
  rw [recordWritten, State.take_onTake_ne _ hm]
  rfl

/-- A record at another place stays. -/
theorem recordWritten_recordAt {i : Nat} (h : ∀ x, recordAddr s m i = some x → x ≠ a) :
    recordAt (recordWritten n a r s) m i = recordAt s m i := by
  rw [recordAt, recordAt, recordAddr_congr (recordWritten_chain m)]
  cases hx : recordAddr s m i with
  | none => rfl
  | some x => exact TakeMem.read_write_ne (h x hx)

/-- Behind the records held stands the one written. -/
theorem recordWritten_records (hnodup : (takeChain s n).Nodup) (ha : recordAddr s n (s.take n).count = some a) :
    takeRecords (recordWritten n a r s) n = takeRecords s n ++ [r] := by
  have hnew : recordAt (recordWritten n a r s) n (s.take n).count = some r := by
    rw [recordAt, recordAddr_congr (recordWritten_chain n), ha]
    exact TakeMem.read_write_same
  have hold (i : Nat) (hi : i ∈ List.range (s.take n).count) : recordAt (recordWritten n a r s) n i = recordAt s n i :=
    recordWritten_recordAt fun x hx e =>
      absurd (recordAddr_index_inj hnodup hx (e ▸ ha)) (List.mem_range.mp hi).ne
  rw [takeRecords, recordWritten_take, TakeEntry.counting, List.range_succ, List.filterMap_append,
    List.filterMap_congr hold, takeRecords]
  simp [hnew]

theorem recordWritten_records_ne (hdisjoint : ∀ b ∈ takeChain s m, b ∉ takeChain s n) (hm : m ≠ n)
    (ha : recordAddr s n (s.take n).count = some a) : takeRecords (recordWritten n a r s) m = takeRecords s m := by
  rw [takeRecords, takeRecords, recordWritten_take_ne hm]
  exact List.filterMap_congr fun i _ => recordWritten_recordAt fun x hx => recordAddr_ne hdisjoint hx ha

/-! ### Records appended in a sound store -/

/-- What appended records make of a sound store: they follow the ones held, each at its place behind them, and nothing
else of the store changes (R124, R125, R134). -/
structure Appended (n : TakeNo) (rs : List TakeRec) (s t : State) : Prop where
  sound : BlocksSound t
  chain : takeChain s n <+: takeChain t n
  records : takeRecords t n = takeRecords s n ++ rs
  others : ∀ m, m ≠ n → takeChain t m = takeChain s m ∧ takeRecords t m = takeRecords s m
  places : ∀ a, (∀ i, (s.take n).count ≤ i → i < (s.take n).count + rs.length → recordAddr t n i ≠ some a) →
    t.tks.mem.read a = s.tks.mem.read a
  room : takeRoom t n + rs.length = takeRoom s n
  state : (t.take n).state = (s.take n).state

/-- The count of a sound take is the number of its records. -/
theorem Appended.count {rs : List TakeRec} (hs : BlocksSound s) (h : Appended n rs s t) :
    (t.take n).count = (s.take n).count + rs.length := by
  rw [← h.sound.records_length, h.records, List.length_append, hs.records_length]

theorem Appended.refl (h : BlocksSound s) : Appended n [] s s :=
  ⟨h, List.prefix_refl _, (List.append_nil _).symm, fun _ _ => ⟨rfl, rfl⟩, fun _ _ => rfl, rfl, rfl⟩

theorem Appended.trans {rs' : List TakeRec} (hs : BlocksSound s) (h : Appended n rs s t) (g : Appended n rs' t u) :
    Appended n (rs ++ rs') s u := by
  have hcount := h.count hs
  refine ⟨g.sound, h.chain.trans g.chain, by rw [g.records, h.records, List.append_assoc], fun m hm => ?_, fun a ha => ?_, ?_,
    g.state.trans h.state⟩
  · obtain ⟨hchain, hrecords⟩ := h.others m hm
    obtain ⟨hchain', hrecords'⟩ := g.others m hm
    exact ⟨hchain'.trans hchain, hrecords'.trans hrecords⟩
  · rw [List.length_append] at ha
    rw [g.places a fun i hi hi' => ha i (by omega) (by omega), h.places a fun i hi hi' hx =>
      ha i hi (by omega) (recordAddr_of_prefix g.chain hx)]
  · have hroom := h.room
    have hroom' := g.room
    rw [List.length_append]
    omega

/-- A record written in a block with room (R134). -/
theorem recordWritten_appended (h : BlocksSound s) (hstate : (s.take n).state ≠ .empty)
    (ha : recordAddr s n (s.take n).count = some a) (hroom : (s.take n).count < 256 * (takeChain s n).length) :
    Appended n [r] s (recordWritten n a r s) := by
  have hrecords := recordWritten_records (r := r) (h.nodup n) ha
  have hothers (m : TakeNo) (hm : m ≠ n) : takeRecords (recordWritten n a r s) m = takeRecords s m :=
    recordWritten_records_ne (fun _ => h.disjoint hm) hm ha
  have hcount : ((recordWritten n a r s).take n).count = (s.take n).count + 1 := by rw [recordWritten_take]; rfl
  refine ⟨⟨fun m => ?_, fun m k b hm hk => ?_, fun b hb => ?_⟩, ?_, hrecords,
    fun m hm => ⟨recordWritten_chain m, hothers m hm⟩, fun x hx => ?_, ?_, ?_⟩
  · by_cases hm : m = n
    · subst hm
      obtain ⟨hnodup, hfree, hlast, -, hneeded, hheld, -⟩ := h.chain m
      refine ⟨?_, ?_, ?_, ?_, ?_, ?_, fun he => ?_⟩
      · rwa [recordWritten_chain]
      · rwa [recordWritten_chain]
      · rwa [recordWritten_chain]
      · rwa [recordWritten_chain, hcount]
      · rw [recordWritten_chain, hcount]
        omega
      · rw [hrecords, hcount, List.length_append, hheld, List.length_singleton]
      · rw [recordWritten_take] at he
        exact absurd he hstate
    · refine (h.chain m).congr ?_ (recordWritten_chain m) (fun _ _ => rfl) (hothers m hm) fun he => ?_
      · rw [recordWritten_take_ne hm]
      · rw [recordWritten_take_ne hm] at he ⊢
        exact h.empty he
  · rw [recordWritten_chain] at hm hk
    exact h.owner_unique hm hk
  · obtain ⟨m, hm⟩ := h.owned hb
    exact ⟨m, by rwa [recordWritten_chain]⟩
  · rw [recordWritten_chain]
  · refine TakeMem.read_write_ne fun e => ?_
    rw [recordAddr_congr (recordWritten_chain n)] at hx
    exact hx _ (le_refl _) (by simp) (e ▸ ha)
  · have hfree : freeBlocks (recordWritten n a r s) = freeBlocks s := rfl
    rw [takeRoom, takeRoom, recordWritten_chain, hcount, hfree, List.length_singleton]
    omega
  · rw [recordWritten_take]
    rfl

/-- A block allocated to a full chain appends no record yet (R125). -/
theorem allocateBlock_appended (h : BlocksSound s) (hfree : lowestFree s = some b) (hstate : (s.take n).state ≠ .empty)
    (hfull : 256 * (takeChain s n).length ≤ (s.take n).count) : Appended n [] s (allocateBlock n s) := by
  refine ⟨allocateBlock_sound h hfree hstate hfull, ?_, ?_, fun m hm => ?_, fun a _ => ?_, ?_, ?_⟩
  · rw [allocateBlock_chain h hfree]
    exact List.prefix_append _ _
  · rw [allocateBlock_records h hfree, List.append_nil]
  · exact ⟨allocateBlock_chain_ne h hfree hm, allocateBlock_records_ne h hfree hm⟩
  · rw [allocateBlock_mem]
  · have hroom := h.count_le n
    rw [takeRoom, takeRoom, allocateBlock_chain h hfree, allocateBlock_count, allocateBlock_freeBlocks (n := n) h hfree,
      List.length_append, List.length_singleton, List.length_nil]
    omega
  · rw [allocateBlock_take_same]

/-- A record that fits is appended, in a block of the chain or in one allocated for it (R125, R134). -/
theorem appendRecord_appended (h : BlocksSound s) (hstate : (s.take n).state ≠ .empty) (hroom : 1 ≤ takeRoom s n) :
    Appended n [r] s (appendRecord n s r) := by
  by_cases hfull : 256 * (takeChain s n).length ≤ (s.take n).count
  · obtain ⟨b, hfree⟩ := lowestFree_of_freeBlocks (s := s) (by rw [takeRoom] at hroom; omega)
    have hallocated := allocateBlock_appended h hfree hstate hfull
    have hplace : ((allocateBlock n s).take n).count < 256 * (takeChain (allocateBlock n s) n).length := by
      have hcount := h.count_le n
      rw [allocateBlock_count, allocateBlock_chain h hfree, List.length_append, List.length_singleton]
      omega
    obtain ⟨a, ha⟩ := recordAddr_isSome hplace
    rw [appendRecord_of_full hfull (by rwa [allocateBlock_count] at hplace), appendRecord_of_room ha hplace]
    exact hallocated.trans h (recordWritten_appended hallocated.sound (by rwa [hallocated.state]) ha hplace)
  · have hplace := Nat.not_le.mp hfull
    obtain ⟨a, ha⟩ := recordAddr_isSome hplace
    rw [appendRecord_of_room ha hplace]
    exact recordWritten_appended h hstate ha hplace

/-- Records that fit are appended whole (R134, R137). -/
theorem appendRecords_appended (h : BlocksSound s) (hstate : (s.take n).state ≠ .empty) (hroom : rs.length ≤ takeRoom s n) :
    Appended n rs s (appendRecords n rs s) := by
  induction rs generalizing s with
  | nil => exact .refl h
  | cons r rs ih =>
    rw [List.length_cons] at hroom
    have hfirst : Appended n [r] s (appendRecord n s r) := appendRecord_appended h hstate (by omega)
    have hleft := hfirst.room
    rw [List.length_singleton] at hleft
    exact hfirst.trans h (ih hfirst.sound (by rwa [hfirst.state]) (by omega))

end Sys2Proof.Machine
end

section
namespace Sys2Proof.Machine

variable {s t u : State} {n m : TakeNo} {b c : Block} {r : RecInfo}

/-! ## A take emptied (R125, R126) -/

theorem emptyTake_chain : takeChain (emptyTake n s) n = [] := takeChain_eq_nil_iff.mpr (by rw [emptyTake_take_same])

theorem emptyTake_recorder : (emptyTake n s).tks.recorder = s.tks.recorder := by
  simp only [emptyTake, onTake_tks, onTks_tks]

/-- Its blocks are FREE, the others are as they were. -/
theorem emptyTake_blocks_eq (b : Block) :
    (emptyTake n s).tks.blocks[b] = if b ∈ takeChain s n then .free else s.tks.blocks[b] := by
  simp [emptyTake, onTks]

theorem emptyTake_chain_ne (h : BlocksSound s) (hm : m ≠ n) : takeChain (emptyTake n s) m = takeChain s m :=
  takeChain_congr (by rw [emptyTake_take_ne hm]) fun _ hb => emptyTake_blocks (h.disjoint hm hb)

/-- The block table stays sound (R125). -/
theorem emptyTake_sound (h : BlocksSound s) : BlocksSound (emptyTake n s) := by
  refine ⟨fun m => ?_, fun m k b hm hk => ?_, fun b hb => ?_⟩
  · by_cases hm : m = n
    · subst hm
      exact chainSound_of_cleared (emptyTake_take_same m)
    · have hcount : ((emptyTake n s).take m).count = (s.take m).count := by rw [emptyTake_take_ne hm]
      refine (h.chain m).congr hcount (emptyTake_chain_ne h hm) (fun b hb => emptyTake_blocks (h.disjoint hm hb))
        (takeRecords_congr hcount (emptyTake_chain_ne h hm) (emptyTake_mem n s)) fun he => ?_
      rw [emptyTake_take_ne hm] at he ⊢
      exact h.empty he
  · have hkept (i : TakeNo) (hi : b ∈ takeChain (emptyTake n s) i) : b ∈ takeChain s i := by
      by_cases hin : i = n
      · rw [hin, emptyTake_chain] at hi
        exact absurd hi List.not_mem_nil
      · rwa [emptyTake_chain_ne h hin] at hi
    exact h.owner_unique (hkept m hm) (hkept k hk)
  · rw [emptyTake_blocks_eq] at hb
    split at hb
    · exact absurd rfl hb
    · rename_i hbn
      obtain ⟨m, hm⟩ := h.owned hb
      exact ⟨m, by rwa [emptyTake_chain_ne h (by rintro rfl; exact hbn hm)]⟩

/-! ## What keeps the takes sound (R124 to R130) -/

/-- The takes are sound after, if they were before. -/
def TakesKept (s t : State) : Prop := TakesSound s → TakesSound t

theorem TakesSound.blocksSound (h : TakesSound s) : BlocksSound s := by
  obtain ⟨-, -, -, -, hblocks⟩ := h
  exact hblocks

/-- At most one take is being written. -/
theorem TakesSound.open_unique (h : TakesSound s) (hm : (s.take m).open_) (hn : (s.take n).open_) : m = n := by
  obtain ⟨hone, -⟩ := h
  exact hone m n hm hn

theorem TakesSound.recording (h : TakesSound s) (hn : s.tks.recorder.names = some n) : (s.take n).state = .recording := by
  obtain ⟨-, hrecorder, -⟩ := h
  exact hrecorder n hn

theorem TakesSound.armed (h : TakesSound s) (hn : s.tks.recorder = .armed n) :
    (s.take n).count = 0 ∧ takeChain s n ≠ [] := by
  obtain ⟨-, -, harmed, -⟩ := h
  exact harmed n hn

/-- The take the player names is CLOSED. -/
theorem TakesSound.played (h : TakesSound s) {ss : Session} (hss : s.ply.session = some ss) :
    (s.take ss.take).state = .closed := by
  obtain ⟨-, -, -, hplayed, -⟩ := h
  exact hplayed ss hss

/-- A take that is not CLOSED is not played. -/
theorem TakesSound.not_played (h : TakesSound s) (hn : (s.take n).state ≠ .closed) {ss : Session}
    (hss : s.ply.session = some ss) : ss.take ≠ n := fun e => hn (e ▸ h.played hss)

/-- With no take being written the recorder is IDLE. -/
theorem TakesSound.recorder_idle (h : TakesSound s) (hidle : ∀ m, ¬(s.take m).open_) (m : TakeNo) :
    s.tks.recorder.names ≠ some m := fun hm => hidle m (.inl (h.recording hm))

/-- The take the player names in `t` is one it named in `s`, or one that is CLOSED there. -/
def SessionKept (s t : State) : Prop := ∀ ss, t.ply.session = some ss →
  (s.take ss.take).state = .closed ∨ ∃ ss', s.ply.session = some ss' ∧ ss'.take = ss.take

theorem SessionKept.of_eq (h : t.ply.session = s.ply.session) : SessionKept s t := fun ss hss => .inr ⟨ss, h ▸ hss, rfl⟩

theorem TakesSound.of_tks (h : TakesSound s) (htks : t.tks = s.tks) (hsession : SessionKept s t) : TakesSound t := by
  have htake (n : TakeNo) : t.take n = s.take n := by rw [State.take, htks, ← State.take]
  have hchain (n : TakeNo) : takeChain t n = takeChain s n := takeChain_congr (by rw [htake]) fun _ _ => by rw [htks]
  refine ⟨fun m n hm hn => ?_, fun n hn => ?_, fun n hn => ?_, fun ss hss => ?_, ?_⟩
  · rw [htake] at hm hn
    exact h.open_unique hm hn
  · rw [htks] at hn
    rw [htake]
    exact h.recording hn
  · rw [htks] at hn
    rw [htake, hchain]
    exact h.armed hn
  · rw [htake]
    rcases hsession ss hss with hclosed | ⟨ss', hss', htake'⟩
    · exact hclosed
    · exact htake' ▸ h.played hss'
  · exact h.blocksSound.congr (by rw [htks]) (by rw [htks]) (fun n => by rw [htake]) (fun n => by rw [htake]) fun n hn => by
      rw [htake] at hn ⊢
      exact h.blocksSound.empty hn

/-- The store of a power-on reset is sound (R124, R126, R129). -/
theorem takesSound_of_initial (htks : t.tks = Tks.initial) (hidle : t.ply.session = none) : TakesSound t :=
  reset_takesSound.of_tks htks fun _ hss => nomatch hidle.symm.trans hss

/-- The takes stay sound when one entry changes and the recorder, the player and the block table agree with it. -/
theorem TakesSound.of_entry (h : TakesSound s) (hothers : ∀ m, m ≠ n → t.take m = s.take m)
    (hopen : (t.take n).open_ → (s.take n).open_ ∨ ∀ m, ¬(s.take m).open_)
    (hrecorder : ∀ m, t.tks.recorder.names = some m → (t.take m).state = .recording)
    (harmed : ∀ m, t.tks.recorder = .armed m → (t.take m).count = 0 ∧ takeChain t m ≠ [])
    (hplayed : ∀ ss, t.ply.session = some ss → (t.take ss.take).state = .closed)
    (hblocks : BlocksSound t) : TakesSound t := by
  have hlone (m : TakeNo) (hm : m ≠ n) (ho : (t.take m).open_) (hn : (t.take n).open_) : False := by
    rw [hothers m hm] at ho
    rcases hopen hn with hsn | hnone
    · exact hm (h.open_unique ho hsn)
    · exact hnone m ho
  refine ⟨fun m k hm hk => ?_, hrecorder, harmed, hplayed, hblocks⟩
  by_cases hmn : m = n <;> by_cases hkn : k = n
  · rw [hmn, hkn]
  · exact (hlone k hkn hk (hmn ▸ hm)).elim
  · exact (hlone m hmn hm (hkn ▸ hk)).elim
  · rw [hothers m hmn] at hm
    rw [hothers k hkn] at hk
    exact h.open_unique hm hk

theorem Recorder.names_of_armed {k : Recorder} (h : k = .armed n) : k.names = some n := by rw [h]; rfl

theorem Recorder.names_of_recording {k : Recorder} (h : k = .recording n r) : k.names = some n := by rw [h]; rfl

/-! ### The recorder (R129, R130) -/

/-- The recorder becomes IDLE. -/
def recorderIdled (s : State) : State := onTks (fun k => { k with recorder := .idle }) s

/-- The recorder records take `n`. -/
def recorderRuns (n : TakeNo) (r : RecInfo) (s : State) : State := onTks (fun k => { k with recorder := .recording n r }) s

theorem recorderRuns_take (m : TakeNo) : (recorderRuns n r s).take m = s.take m := rfl

/-- The recorder is set on a take being recorded, or on none. -/
theorem TakesSound.onRecorder (h : TakesSound s) {k : Recorder}
    (hrecorder : ∀ m, k.names = some m → (s.take m).state = .recording)
    (harmed : ∀ m, k = .armed m → (s.take m).count = 0 ∧ takeChain s m ≠ []) :
    TakesSound (onTks (fun x => { x with recorder := k }) s) :=
  h.of_entry (n := 0) (fun _ _ => rfl) .inl hrecorder harmed (fun _ => h.played)
    (h.blocksSound.congr rfl rfl (fun _ => rfl) (fun _ => rfl) fun _ => h.blocksSound.empty)

theorem recorderIdled_takesKept : TakesKept s (recorderIdled s) := fun h => h.onRecorder nofun nofun

theorem recorderRuns_takesSound (h : TakesSound s) (hn : (s.take n).state = .recording) : TakesSound (recorderRuns n r s) :=
  h.onRecorder (fun _ hm => Option.some.inj hm ▸ hn) nofun

/-! ### A take's state (R126, R136 to R139) -/

/-- An entry that keeps its blocks and its count keeps the block table sound. -/
theorem onTake_blocksSound {f : TakeEntry → TakeEntry} (h : BlocksSound s)
    (hfirst : (f (s.take n)).firstBlock = (s.take n).firstBlock) (hcount : (f (s.take n)).count = (s.take n).count)
    (hstate : (f (s.take n)).state ≠ .empty) : BlocksSound (onTake n f s) := by
  have hentry (m : TakeNo) : (onTake n f s).take m = if m = n then f (s.take n) else s.take m := by
    by_cases hm : m = n
    · rw [if_pos hm, hm, State.take_onTake_same]
    · rw [if_neg hm, State.take_onTake_ne f hm]
  refine h.congr rfl rfl (fun m => ?_) (fun m => ?_) fun m he => ?_
  · rw [hentry]
    split
    · rename_i hm
      rw [hfirst, hm]
    · rfl
  · rw [hentry]
    split
    · rename_i hm
      rw [hcount, hm]
    · rfl
  · rw [hentry] at he ⊢
    split at he
    · exact absurd he hstate
    · rename_i hm
      rw [if_neg hm]
      exact h.empty he

theorem onTake_chain {f : TakeEntry → TakeEntry} (hfirst : (f (s.take n)).firstBlock = (s.take n).firstBlock) (m : TakeNo) :
    takeChain (onTake n f s) m = takeChain s m := by
  refine takeChain_congr ?_ fun _ _ => rfl
  by_cases hm : m = n
  · rw [hm, State.take_onTake_same, hfirst]
  · rw [State.take_onTake_ne f hm]

/-- A take's entry changes where the recorder does not name it, and it is CLOSED or not played. -/
theorem TakesSound.onTake {f : TakeEntry → TakeEntry} (h : TakesSound s)
    (hfirst : (f (s.take n)).firstBlock = (s.take n).firstBlock) (hcount : (f (s.take n)).count = (s.take n).count)
    (hstate : (f (s.take n)).state ≠ .empty)
    (hopen : (f (s.take n)).open_ → (s.take n).open_ ∨ ∀ m, ¬(s.take m).open_)
    (hnamed : s.tks.recorder.names = some n → (f (s.take n)).state = .recording)
    (hclosed : (s.take n).state = .closed → (f (s.take n)).state = .closed) : TakesSound (onTake n f s) := by
  refine h.of_entry (fun m hm => State.take_onTake_ne f hm) (by rwa [State.take_onTake_same]) (fun m hm => ?_)
    (fun m hm => ?_) (fun ss hss => ?_) (onTake_blocksSound h.blocksSound hfirst hcount hstate)
  · by_cases hmn : m = n
    · subst hmn
      rw [State.take_onTake_same]
      exact hnamed hm
    · rw [State.take_onTake_ne f hmn]
      exact h.recording hm
  · rw [onTake_chain hfirst]
    by_cases hmn : m = n
    · subst hmn
      rw [State.take_onTake_same, hcount]
      exact h.armed hm
    · rw [State.take_onTake_ne f hmn]
      exact h.armed hm
  · by_cases hmn : ss.take = n
    · rw [hmn, State.take_onTake_same]
      exact hclosed (hmn ▸ h.played hss)
    · rw [State.take_onTake_ne f hmn]
      exact h.played hss

/-- A take the recorder does not name is closed. -/
theorem closeTake_takesSound (h : TakesSound s) (hn : s.tks.recorder.names ≠ some n) : TakesSound (closeTake n s) :=
  h.onTake rfl rfl (by simp) (fun ho => absurd ho (TakeEntry.not_open_of_closed rfl)) (fun hm => absurd hm hn) fun _ => rfl

/-- A take that neither recorder nor player names is emptied. -/
theorem emptyTake_takesSound (h : TakesSound s) (hn : s.tks.recorder.names ≠ some n)
    (hplayed : ∀ ss, s.ply.session = some ss → ss.take ≠ n) : TakesSound (emptyTake n s) := by
  have hnotNamed {m : TakeNo} (hm : s.tks.recorder.names = some m) : m ≠ n := fun e => hn (e ▸ hm)
  refine h.of_entry (fun m hm => emptyTake_take_ne hm) (fun ho => ?_) (fun m hm => ?_) (fun m hm => ?_) (fun ss hss => ?_)
    (emptyTake_sound h.blocksSound)
  · rw [emptyTake_take_same] at ho
    exact absurd ho (by simp [TakeEntry.open_])
  · rw [emptyTake_recorder] at hm
    rw [emptyTake_take_ne (hnotNamed hm)]
    exact h.recording hm
  · rw [emptyTake_recorder] at hm
    have hmn := hnotNamed (Recorder.names_of_armed hm)
    rw [emptyTake_take_ne hmn, emptyTake_chain_ne h.blocksSound hmn]
    exact h.armed hm
  · rw [emptyTake_store] at hss
    rw [emptyTake_take_ne (hplayed ss hss)]
    exact h.played hss

/-! ### Records (R134, R135) -/

/-- Records that fit keep the takes sound where the recorder is not ARMED on their take. -/
theorem appendRecords_takesSound {rs : List TakeRec} (h : TakesSound s) (hstate : (s.take n).state ≠ .empty)
    (harmed : s.tks.recorder ≠ .armed n) (hroom : rs.length ≤ takeRoom s n) : TakesSound (appendRecords n rs s) := by
  have hgrown := appendRecords_entryGrown n rs s
  have happended := appendRecords_appended h.blocksSound hstate hroom
  have hstates (m : TakeNo) : ((appendRecords n rs s).take m).state = (s.take m).state := by
    by_cases hm : m = n
    · rw [hm, hgrown.state]
    · rw [hgrown.others m hm]
  refine h.of_entry hgrown.others (fun ho => .inl ?_) (fun m hm => ?_) (fun m hm => ?_) (fun ss hss => ?_) happended.sound
  · rwa [TakeEntry.open_, hstates] at ho
  · rw [hgrown.recorder] at hm
    rw [hstates]
    exact h.recording hm
  · rw [hgrown.recorder] at hm
    have hmn : m ≠ n := fun e => harmed (e ▸ hm)
    rw [hgrown.others m hmn, (happended.others m hmn).1]
    exact h.armed hm
  · rw [hgrown.store] at hss
    rw [hstates]
    exact h.played hss

/-- A take that cannot grow is closed, the recorder IDLE (R135). -/
theorem truncateTake_takesKept : TakesKept s (truncateTake n s) := fun h => by
  have hclosed : TakesSound (onTake n (fun e => { e with state := .closed, truncated := true }) (recorderIdled s)) :=
    (recorderIdled_takesKept h).onTake rfl rfl (by simp) (fun ho => absurd ho (TakeEntry.not_open_of_closed rfl)) nofun
      fun _ => rfl
  exact hclosed.of_tks rfl (.of_eq rfl)

theorem writeRecord_takesSound {time value : Nat} {kind : TakeKind} {key : Key} (h : TakesSound s)
    (hrec : s.tks.recorder = .recording n r) : TakesSound (writeRecord n time kind key value s) := by
  have hstate := h.recording (Recorder.names_of_recording hrec)
  unfold writeRecord
  dsimp only
  split
  · rename_i hfits
    exact appendRecords_takesSound h (by simp [hstate]) (by simp [hrec]) hfits.1
  · exact truncateTake_takesKept h

/-- What a recorder holds behind a recorded event (R132, R133). -/
def RecInfo.recorded (r : RecInfo) (time : Clock) (kind : TakeKind) (key : Key) : RecInfo :=
  if kind = .strike then { r.forward time with struck := (r.forward time).struck.add key } else r.forward time

theorem recordLive_of_none {e : Event} (h : recordOf r.struck e = none) : recordLive n r e s = s := by
  simp only [recordLive, h]

theorem recordLive_of_some {e : Event} {kind : TakeKind} {key : Key} {value : Nat}
    (h : recordOf r.struck e = some (kind, key, value)) : recordLive n r e s =
      writeRecord n ((r.forward e.time).position / 1000) kind key value (recorderRuns n (r.recorded e.time kind key) s) := by
  simp only [recordLive, h]
  rfl

/-- A recorder that is RECORDING keeps the takes sound (R132 to R135). -/
theorem recordLive_takesSound {e : Event} (h : TakesSound s) (hrec : s.tks.recorder = .recording n r) :
    TakesSound (recordLive n r e s) := by
  rcases hw : recordOf r.struck e with _ | ⟨kind, key, value⟩
  · rwa [recordLive_of_none hw]
  · rw [recordLive_of_some hw]
    exact writeRecord_takesSound (recorderRuns_takesSound h (h.recording (Recorder.names_of_recording hrec))) rfl

/-- The pedal snapshot that starts a take (R131). -/
def snapshotRecords (s : State) : List TakeRec :=
  [{ kind := .damper, key := 0, value := s.pdu.damper.lift, delta := 0 },
    { kind := .sostenuto, key := 0, value := if s.pdu.sostOn then 1 else 0, delta := 0 },
    { kind := .soft, key := 0, value := s.pdu.soft.lift, delta := 0 }]

/-- What a recorder holds when it starts (R131). -/
def RecInfo.started (start : Clock) : RecInfo := { start := start, position := 0, mark := start, struck := KeySet.empty }

theorem startTake_eq (n : TakeNo) (start : Clock) :
    startTake n start s = appendRecords n (snapshotRecords s) (recorderRuns n (.started start) s) := rfl

theorem startTake_recorder (n : TakeNo) (start : Clock) :
    (startTake n start s).tks.recorder = .recording n (.started start) := by
  rw [startTake_eq, (appendRecords_entryGrown _ _ _).recorder]
  rfl

/-- A take that holds no record and owns a block has room for its snapshot. -/
theorem takeRoom_of_block (hcount : (s.take n).count = 0) (hchain : takeChain s n ≠ []) : 256 ≤ takeRoom s n := by
  have hlength := List.length_pos_iff.mpr hchain
  rw [takeRoom, hcount]
  omega

theorem startTake_takesSound {start : Clock} (h : TakesSound s) (hstate : (s.take n).state = .recording)
    (hcount : (s.take n).count = 0) (hchain : takeChain s n ≠ []) : TakesSound (startTake n start s) := by
  have hroom := takeRoom_of_block hcount hchain
  rw [startTake_eq]
  exact appendRecords_takesSound (recorderRuns_takesSound h hstate) (by rw [recorderRuns_take, hstate]; decide) nofun
    (le_trans (show 3 ≤ 256 by decide) hroom)

/-- Whatever the recorder is handed, the takes stay sound (R129 to R135). -/
theorem recorderEvent_takesKept (e : Event) : TakesKept s (recorderEvent e s) := fun h => by
  unfold recorderEvent
  split
  · split
    · exact h
    · rename_i n hn
      split
      · obtain ⟨hcount, hchain⟩ := h.armed hn
        have hstarted : TakesSound (startTake n e.time s) :=
          startTake_takesSound h (h.recording (Recorder.names_of_armed hn)) hcount hchain
        dsimp only
        split
        · rename_i hrec
          exact (recordLive_takesSound hstarted hrec).of_tks rfl (.of_eq rfl)
        · exact hstarted
      · exact h
    · rename_i n r hn
      exact recordLive_takesSound h hn
  · exact h

/-! ### A recording begun (R130) -/

theorem takeBusy_eq_false : takeBusy s = false ↔ ∀ m, ¬(s.take m).open_ := by
  simp [takeBusy, TakeEntry.open_, not_or]

/-- An EMPTY take with the state a request gives it, before it owns anything (R130, R137). -/
def takeOpened (n : TakeNo) (state : TakeState) (tag : Nat) (s : State) : State :=
  onTake n (fun e => { e with state := state, kept := false, truncated := false, tag := tag }) s

/-- A take opened while none is being written. -/
theorem takeOpened_takesSound {state : TakeState} {tag : Nat} (h : TakesSound s) (hn : (s.take n).state = .empty)
    (hidle : ∀ m, ¬(s.take m).open_) (hstate : state ≠ .empty) : TakesSound (takeOpened n state tag s) :=
  h.onTake rfl rfl hstate (fun _ => .inr hidle) (fun hm => absurd hm (h.recorder_idle hidle n)) fun hc =>
    absurd (hn.symm.trans hc) (by decide)

/-- An opened recording with its first block (R130). -/
def recordingOpened (n : TakeNo) (tag : Nat) (s : State) : State := allocateBlock n (takeOpened n .recording tag s)

theorem recordingOpened_takesSound {tag : Nat} (h : TakesSound s) (hn : (s.take n).state = .empty)
    (hidle : ∀ m, ¬(s.take m).open_) (hfree : lowestFree s = some b) :
    TakesSound (recordingOpened n tag s) ∧ ((recordingOpened n tag s).take n).state = .recording
      ∧ ((recordingOpened n tag s).take n).count = 0 ∧ takeChain (recordingOpened n tag s) n ≠ [] := by
  have hopened : TakesSound (takeOpened n .recording tag s) := takeOpened_takesSound h hn hidle (by decide)
  have hentry : (takeOpened n .recording tag s).take n = { state := .recording, tag := tag } := by
    rw [takeOpened, State.take_onTake_same, h.blocksSound.empty hn]
  have hstates (m : TakeNo) : ((recordingOpened n tag s).take m).state = ((takeOpened n .recording tag s).take m).state := by
    by_cases hm : m = n
    · rw [hm, recordingOpened, allocateBlock_take_same]
    · rw [recordingOpened, allocateBlock_take_ne hm]
  have hnone : takeChain (takeOpened n .recording tag s) n = [] := takeChain_eq_nil_iff.mpr (by rw [hentry])
  have hchain : takeChain (recordingOpened n tag s) n = [b] := by
    rw [recordingOpened, allocateBlock_chain hopened.blocksSound hfree, hnone, List.nil_append]
  have hrecorder (m : TakeNo) : (recordingOpened n tag s).tks.recorder.names ≠ some m := by
    rw [recordingOpened, allocateBlock_recorder]
    exact h.recorder_idle hidle m
  have hstate : ((recordingOpened n tag s).take n).state = .recording := by rw [hstates, hentry]
  refine ⟨hopened.of_entry (n := n) (fun m hm => allocateBlock_take_ne hm) (fun _ => .inl (.inl (by rw [hentry])))
    (fun m hm => absurd hm (hrecorder m)) (fun m hm => absurd (Recorder.names_of_armed hm) (hrecorder m)) (fun ss hss => ?_)
    (allocateBlock_sound hopened.blocksSound hfree (by simp [hentry]) (by simp [hnone])), hstate, ?_, by simp [hchain]⟩
  · rw [recordingOpened, allocateBlock_store] at hss
    rw [hstates]
    exact hopened.played hss
  · rw [recordingOpened, allocateBlock_count, hentry]

theorem beginRecording_eq (immediate : Bool) (tag : Nat) : beginRecording n immediate tag s = takeStateRaised
    (if immediate then startTake n s.clock (recordingOpened n tag s)
      else onTks (fun k => { k with recorder := .armed n }) (recordingOpened n tag s)) := rfl

/-- TAKE RECORD keeps the takes sound (R130). -/
theorem beginRecording_takesSound {immediate : Bool} {tag : Nat} (h : TakesSound s) (hn : (s.take n).state = .empty)
    (hidle : ∀ m, ¬(s.take m).open_) (hfree : lowestFree s = some b) : TakesSound (beginRecording n immediate tag s) := by
  obtain ⟨hopened, hstate, hcount, hchain⟩ := recordingOpened_takesSound (tag := tag) h hn hidle hfree
  have hstarted : TakesSound (if immediate then startTake n s.clock (recordingOpened n tag s)
      else onTks (fun k => { k with recorder := .armed n }) (recordingOpened n tag s)) := by
    cases immediate with
    | true => exact startTake_takesSound hopened hstate hcount hchain
    | false =>
      exact hopened.onRecorder (fun _ hm => Option.some.inj hm ▸ hstate) fun _ hm => Recorder.armed.inj hm ▸ ⟨hcount, hchain⟩
  rw [beginRecording_eq]
  exact hstarted.of_tks rfl (.of_eq rfl)

/-! ### The ends of recordings and loadings (R136, R138, R143) -/

theorem endRecording_cases : endRecording n s = closeTake n s ∨ endRecording n s = emptyTake n s := ite_eq_or_eq _ _ _

theorem endLoading_cases : endLoading n s = closeTake n s ∨ endLoading n s = emptyTake n s := ite_eq_or_eq _ _ _

/-- A take being written that the recorder does not name is closed or emptied. -/
theorem ended_takesSound (h : TakesSound s) (hn : (s.take n).open_) (hnamed : s.tks.recorder.names ≠ some n)
    (ht : t = closeTake n s ∨ t = emptyTake n s) : TakesSound t := by
  have hnotClosed : (s.take n).state ≠ .closed := fun hc => TakeEntry.not_open_of_closed hc hn
  rcases ht with rfl | rfl
  · exact closeTake_takesSound h hnamed
  · exact emptyTake_takesSound h hnamed fun ss hss => h.not_played hnotClosed hss

theorem stopRecording_takesSound (h : TakesSound s) (hn : s.tks.recorder.names = some n) :
    TakesSound (stopRecording n s).1 := by
  have hended : TakesSound (endRecording n (recorderIdled s)) :=
    ended_takesSound (recorderIdled_takesKept h) (.inl (h.recording hn)) nofun endRecording_cases
  exact hended.of_tks rfl (.of_eq rfl)

theorem endLoading_takesSound (h : TakesSound s) (hn : (s.take n).state = .loading) : TakesSound (endLoading n s) :=
  ended_takesSound h (.inr hn) (fun hm => absurd (hn.symm.trans (h.recording hm)) (by decide)) endLoading_cases

/-- The recorder plays no part in emptying a take. -/
theorem recorderIdled_emptyTake : recorderIdled (emptyTake n s) = emptyTake n (recorderIdled s) := by
  have hchain : takeChain (recorderIdled s) n = takeChain s n := rfl
  simp only [emptyTake, hchain]
  simp only [recorderIdled, onTake, onTks]

/-- Unfinished takes settled at a system reset leave the takes sound (R143). -/
theorem settleTakes_takesKept : TakesKept s (settleTakes s) := fun h => by
  have hidle := recorderIdled_takesKept h
  have hsettled : settleTakes s = recorderIdled (takesSettled s) := settleTakes_eq
  rw [hsettled]
  rcases takesSettled_one fun m n hm hn => h.open_unique hm hn with he | ⟨m, hm, he⟩ <;> rw [he]
  · exact hidle
  · refine ended_takesSound hidle (n := m) hm nofun ?_
    rcases settleTake_unfinished hm with hs | hs <;> rw [hs]
    · exact .inl rfl
    · exact .inr recorderIdled_emptyTake

end Sys2Proof.Machine
end

section
namespace Sys2Proof.Machine

/-! ## What holds across everything but the take store's own requests

A relation that says nothing of the blocks apart from the take store and the take that the player names is closed under
most of the part: the other blocks reach the take store by the events handed to the recorder only. -/

/-- A relation that holds where the take store is as it was and the player's take is the one it was or a CLOSED one, and
across each event handed to the recorder. -/
structure TakeClosed (R : State → State → Prop) : Prop where
  trans : ∀ {a b c}, R a b → R b c → R a c
  blocks : ∀ {a b : State}, b.tks = a.tks → SessionKept a b → R a b
  recorded : ∀ e s, R s (recorderEvent e s)

theorem PlayOnly.tks {s t : State} (h : PlayOnly s t) : t.tks = s.tks := by
  obtain ⟨_, _, _, _, _, rfl⟩ := h
  rfl

namespace TakeClosed

variable {s t : State} {R : State → State → Prop} (c : TakeClosed R)

include c

/-- Take store and player are as they were. -/
protected theorem same {a b : State} (htks : b.tks = a.tks := by rfl) (hply : b.ply = a.ply := by rfl) : R a b :=
  c.blocks htks (.of_eq (congrArg Ply.session hply))

protected theorem refl (s : State) : R s s := c.same

/-- A change that leaves take store and player, and what follows it. -/
protected theorem after {a b t : State} (h : R b t) (htks : b.tks = a.tks := by rfl) (hply : b.ply = a.ply := by rfl) :
    R a t := c.trans (c.same htks hply) h

/-- A command that may do nothing. -/
protected theorem ite {p : Prop} [Decidable p] {s t : State} (h : R s t) : R s (if p then t else s) := by
  split
  · exact h
  · exact c.refl s

protected theorem rail {s t : State} (h : RailOnly s t) : R s t := by
  obtain ⟨_, _, _, _, rfl⟩ := h
  exact c.same

protected theorem voice {s t : State} (h : VoiceOnly s t) : R s t := by
  obtain ⟨_, _, _, rfl⟩ := h
  exact c.same

protected theorem report {s t : State} (h : ReportOnly s t) : R s t := c.rail h.rail

protected theorem orders {s t : State} (h : OrdersOnly s t) : R s t := c.voice h.voice

protected theorem raised (e : EventClass) (s : State) : R s (raiseAll e s) := c.same

protected theorem key (k : Key) (f : KeyRec → KeyRec) (s : State) : R s (onKey k f s) := c.same

/-- The player's part changes, its take being the one it was. -/
protected theorem play {s t : State} (h : PlayOnly s t) (hsession : SessionKept s t) : R s t := c.blocks h.tks hsession

/-! ### Events (R22, R49, R149) -/

protected theorem pedalEvent (e : Event) (s : State) : R s (pedalEvent e s) :=
  c.trans (c.after (b := appendEvent e s) (c.voice (voiceEvent_only e))) (c.recorded e _)

protected theorem playbackEvent (k : EventKind) (key : Option Nat) (v : Nat) (guide : Bool) (s : State) :
    R s (playbackEvent k key v guide s) := c.pedalEvent _ _

protected theorem playMark (m : Mark) (n : TakeNo) (s : State) : R s (playMark m n s) := c.pedalEvent _ _

/-! ### The player (08) -/

/-- A change of the player that leaves the session. -/
protected theorem ply {f : Ply → Ply} (s : State) (h : ∀ p, (f p).session = p.session := by exact fun _ => rfl) :
    R s (onPly f s) := c.blocks rfl (.of_eq (h s.ply))

/-- A change of the session that leaves its take. -/
protected theorem session {f : Session → Session} (s : State) (h : ∀ ss, (f ss).take = ss.take := by exact fun _ => rfl) :
    R s (onSession f s) := by
  refine c.blocks rfl fun ss hss => .inr ?_
  obtain ⟨ss', hss', rfl⟩ := Option.map_eq_some_iff.mp (show s.ply.session.map f = some ss from hss)
  exact ⟨ss', hss', (h ss').symm⟩

/-- A session set anew on the take it is on. -/
protected theorem sessionSet {f : Ply → Ply} {s : State} {ss : Session} (hss : s.ply.session = some ss)
    (h : (f s.ply).session.map Session.take = some ss.take) : R s (onPly f s) := by
  refine c.blocks rfl fun ss' hss' => .inr ⟨ss, hss, ?_⟩
  rw [show (f s.ply).session = some ss' from hss'] at h
  exact (Option.some.inj h).symm

protected theorem setPlayKeys (S : KeySet) (s : State) : R s (setPlayKeys S s) :=
  c.trans (c.ply s) (c.orders (setPlayKeys_orders S))

protected theorem setPlaySost (on : Bool) (S : KeySet) (s : State) : R s (setPlaySost on S s) :=
  c.trans (c.ply s) (c.orders (setPlaySost_orders on S))

protected theorem setPlayDamper (x : Nat) (s : State) : R s (setPlayDamper x s) :=
  c.trans (c.ply s) (c.orders (setPlayDamper_orders x))

protected theorem setPlaySoft (x : Nat) (s : State) : R s (setPlaySoft x s) :=
  c.trans (c.ply s) (c.orders (setPlaySoft_orders x))

/-- The playback damper, sostenuto and soft values set anew (R147, R154). -/
protected theorem setPlayPedals (soft damper : Nat) (on : Bool) (s : State) :
    R s (setPlaySoft soft (setPlaySost on KeySet.empty (setPlayDamper damper s))) :=
  c.trans (c.trans (c.setPlayDamper _ _) (c.setPlaySost _ _ _)) (c.setPlaySoft _ _)

protected theorem playRecord (r : TakeRec) (s : State) : R s (playRecord r s) := by
  have hevent {k key v guide} {v' : State} (h : R s v') : R s (playbackEvent k key v guide v') :=
    c.trans h (c.playbackEvent _ _ _ _ _)
  unfold playRecord
  dsimp only
  split
  · split
    · exact hevent (c.refl s)
    · exact hevent (c.setPlayKeys _ _)
  · split_ifs
    · exact c.setPlayKeys _ _
    · exact hevent (c.setPlayKeys _ _)
    · exact hevent (c.setPlayKeys _ _)
  · exact hevent (c.setPlayDamper _ _)
  · exact hevent (c.setPlaySoft _ _)
  · split_ifs
    · exact hevent (c.refl s)
    · exact hevent (c.setPlaySost _ _ _)
    · exact hevent (c.setPlaySost _ _ _)
    · exact hevent (c.refl s)
  · exact c.refl s

protected theorem advanceCursor (s : State) : R s (advanceCursor s) := by
  have hmoved := c.session (f := fun ss => { ss with cursor := ss.cursor + 1 }) s
  unfold advanceCursor
  dsimp only
  split
  · split
    · exact c.trans hmoved (c.ply _)
    · exact hmoved
  · exact hmoved

protected theorem collectChord (n : Nat) (ahead : List (TakeRec × Nat)) (s : State) : R s (collectChord n ahead s) := by
  unfold collectChord
  dsimp only
  split
  · exact c.refl s
  · rename_i hss
    exact c.trans (c.trans (c.sessionSet hss rfl) (c.playMark _ _ _)) (c.raised _ _)

protected theorem playFrom (ahead : List (TakeRec × Nat)) (s : State) : R s (playFrom ahead s) := by
  induction ahead generalizing s with
  | nil => exact c.refl s
  | cons x rest ih =>
    unfold playFrom
    split
    · exact c.refl s
    · split_ifs
      · exact c.collectChord _ _ _
      · exact c.trans (c.trans (c.playRecord _ _) (c.advanceCursor _)) (ih _)
      · exact c.refl s

protected theorem playDue (s : State) : R s (playDue s) := by
  unfold playDue
  split
  · exact c.playFrom _ _
  · exact c.refl s

/-- The player is left with no take. -/
protected theorem endPlayback (m : Mark) (s : State) : R s (endPlayback m s) := by
  have hnone : (endPlayback m s).ply.session = none := by
    unfold endPlayback
    split
    · assumption
    · rfl
  exact c.play (endPlayback_only m) fun _ hss => nomatch hnone.symm.trans hss

protected theorem endIfPast (s : State) : R s (endIfPast s) := by
  unfold endIfPast
  split
  · exact c.ite (c.endPlayback _ _)
  · exact c.refl s

protected theorem playDueThenEnd (s : State) : R s (playDueThenEnd s) := c.trans (c.playDue _) (c.endIfPast _)

protected theorem endWait (m : Mark) (n : TakeNo) (s : State) : R s (endWait m n s) :=
  c.trans (c.trans (c.trans (c.playMark m n s) (c.session _)) (c.raised _ _)) (c.playDueThenEnd _)

protected theorem playerEvent (e : Event) (s : State) : R s (playerEvent e s) := by
  unfold playerEvent
  split
  · split
    · dsimp only
      split_ifs
      · exact c.trans (c.ply s) (c.endWait _ _ _)
      · exact c.ply s
      · exact c.refl s
    · exact c.refl s
  · exact c.refl s

protected theorem trackerEvent (e : Event) (s : State) : R s (trackerEvent e s) :=
  c.trans (c.pedalEvent e s) (c.playerEvent e _)

protected theorem loopJump (lp : Loop) (s : State) : R s (loopJump lp s) := by
  have hwaited (w : Bool) (v : State) : R v (if w then playStateRaised v else v) := c.ite c.same
  unfold loopJump
  dsimp only
  split
  · exact c.refl s
  · rename_i ss hss
    have hcleared := setPlayDamper_orders 0 (s := setPlaySost s.ply.sostOn KeySet.empty (setPlayKeys KeySet.empty s))
    have hss' : (setPlayDamper 0 (setPlaySost s.ply.sostOn KeySet.empty (setPlayKeys KeySet.empty s))).ply.session = some ss := by
      rw [hcleared, onPly_ply, setPlaySost_orders, onPly_ply, setPlayKeys_orders]
      exact hss
    have hvalues := c.trans (c.trans (c.setPlayKeys KeySet.empty s) (c.setPlaySost s.ply.sostOn KeySet.empty _))
      (c.setPlayDamper 0 _)
    exact c.trans (c.trans (c.trans (c.trans (c.trans hvalues (c.sessionSet hss' rfl)) (c.setPlayPedals _ _ _ _))
      (c.playMark _ _ _)) (hwaited _ _)) (c.ite (c.playDue _))

/-- A CLOSED take is set up to be played. -/
protected theorem setUpTake {n : TakeNo} (start : Nat) {s : State} (hn : (s.take n).state = .closed) :
    R s (setUpTake n start s) := by
  refine c.play (setUpTake_only n start) fun ss hss => .inl ?_
  have htake : ss.take = n := by
    unfold setUpTake at hss
    dsimp only at hss
    rw [playStateRaised, raiseAll_ply, (playMark_playKept _ _).2] at hss
    exact (congrArg Session.take (Option.some.inj hss)).symm
  rw [htake, hn]

protected theorem startPlayback {n : TakeNo} (tempo : Option Nat) (start : Nat) {s : State} (hn : (s.take n).state = .closed) :
    R s (startPlayback n tempo start s) := by
  have hstop : R s (if s.ply.session.isSome then stopPlayback s else s) := c.ite (c.endPlayback _ _)
  have hclosed : ((if s.ply.session.isSome then stopPlayback s else s).take n).state = .closed := by
    split
    · rw [State.take, stopPlayback, (endPlayback_only .stop).tks]
      exact hn
    · exact hn
  have hplay {v : State} (hv : (v.take n).state = .closed) : R v (playDueThenEnd (setUpTake n start v)) :=
    c.trans (c.setUpTake start hv) (c.playDueThenEnd _)
  unfold startPlayback
  dsimp only
  cases tempo with
  | none => exact c.trans hstop (hplay hclosed)
  | some x => exact c.trans (c.trans hstop (c.ply _)) (hplay hclosed)

protected theorem setLoop (ss : Session) (start stop : Nat) (s : State) : R s (setLoop ss start stop s) := by
  unfold setLoop
  dsimp only
  split
  · exact c.trans (c.ply s) (c.loopJump _ _)
  · exact c.ply s

protected theorem clearExpected (ss : Session) (s : State) : R s (clearExpected ss s) := by
  unfold clearExpected
  dsimp only
  split
  · exact c.trans (c.ply s) (c.endWait _ _ _)
  · exact c.trans (c.trans (c.ply s) (c.playMark _ _ _)) (c.session _)
  · exact c.trans (c.ply s) (c.playMark _ _ _)

protected theorem setGuide (mode : GuideMode) (low high : Key) (window : Nat) (s : State) :
    R s (setGuide mode low high window s) := by
  unfold setGuide
  dsimp only
  split
  · split
    · exact c.trans (c.ply s) (c.clearExpected _ _)
    · exact c.trans (c.ply s) (c.ply _)
  · exact c.trans (c.ply s) (c.ply _)

protected theorem finishStep (s : State) : R s (finishStep s) := by
  unfold finishStep
  dsimp only
  split
  · split
    · exact c.trans (c.playDue _) (c.loopJump _ _)
    · exact c.trans (c.playDue _) (c.endIfPast _)
  · exact c.playDue _

/-! ### Keys (02) -/

protected theorem setKeyLift (k : Key) (x : Nat) (s : State) : R s (setKeyLift k x s) := by
  unfold setKeyLift
  split
  · exact c.refl s
  · exact c.after (c.orders (recomputeWhere_orders _))

protected theorem keySampleNormal (k : Key) (time : Clock) (d : Nat) (s : State) : R s (keySampleNormal k time d s) := by
  have hstate (x : Nat) (f g : KeyRec → KeyRec) : R s (onKey k g (setKeyLift k x (onKey k f s))) :=
    c.trans (c.trans (c.key _ _ _) (c.setKeyLift _ _ _)) (c.key _ _ _)
  unfold keySampleNormal
  dsimp only
  split
  · split
    · exact c.trans (hstate _ _ _) (c.trans (c.key _ _ _) (c.trackerEvent _ _))
    · exact hstate _ _ _
  · exact hstate _ _ _

protected theorem keyDepthSample (k : Key) (time : Clock) (first : Bool) (d : Nat) (s : State) :
    R s (keyDepthSample k time first d s) := by
  have hfresh : R s (deriveKey k d s) := c.after (c.setKeyLift _ _ _)
  unfold keyDepthSample
  dsimp only
  split_ifs
  · exact c.same
  · exact hfresh
  · exact hfresh
  · exact c.keySampleNormal _ _ _ _

protected theorem hammerSample (k : Key) (time : Clock) (first : Bool) (height : Nat) (s : State) :
    R s (hammerSample k time first height s) := by
  have hmissed (b : Bool) (f : KeyRec → KeyRec) : R s (if b then
      { onKey k f s with faults := { (onKey k f s).faults with missed := satInc (onKey k f s).faults.missed } }
      else onKey k f s) := by
    cases b <;> exact c.same
  unfold hammerSample hammerSampleNormal
  dsimp only
  split
  · exact c.same
  · split
    · exact c.trans (hmissed _ _) (c.trans (c.key _ _ _) (c.trackerEvent _ _))
    · exact hmissed _ _

protected theorem keyChannelFailed (hammer : Bool) (k : Key) (time : Clock) (s : State) :
    R s (keyChannelFailed hammer k time s) := by
  have hreleased (e : Event) (v : State) : R v (if (v.key k).sounding then
      onKey k (fun r => { r with sounding := false }) (trackerEvent e v) else v) :=
    c.ite (c.trans (c.trackerEvent e v) (c.key _ _ _))
  have hup (f : KeyRec → KeyRec) (v : State) : R v (setKeyLift k 0 (onKey k f v)) := c.after (c.setKeyLift _ _ _)
  have hhammer (v : State) : R v (if hammer then onKey k (fun r => { r with hammerTime := none }) v else v) := c.ite c.same
  unfold keyChannelFailed
  dsimp only
  exact c.trans (c.trans (c.trans (c.trans (c.trans (c.trans (c.key _ _ _) (c.rail quietMove_only)) (hreleased _ _)) (hup _ _))
    (hhammer _)) (c.trackerEvent _ _)) (c.raised _ _)

protected theorem keyChannelRecovered (hammer : Bool) (k : Key) (time : Clock) (s : State) :
    R s (keyChannelRecovered hammer k time s) := by
  have hback (f : KeyRec → KeyRec) : R s (quietMove (onKey k f s)) := c.after (c.rail quietMove_only)
  have hevent (failed : Bool) (e : Event) (v : State) : R v (if failed then v else trackerEvent e v) := by
    cases failed
    · exact c.trackerEvent e v
    · exact c.refl v
  exact c.trans (hback _) (hevent _ _ _)

/-! ### Pedals (03) -/

protected theorem setPedalLift (p : Pedal) (x : Nat) (s : State) : R s (setPedalLift p x s) := by
  obtain ⟨_, _, _, h⟩ := setPedalLift_eq (s := s) p x
  rw [h]
  exact c.same

protected theorem reportPedal (p : Pedal) (x : Nat) (time : Clock) (s : State) : R s (reportPedal p x time s) :=
  c.after (c.pedalEvent _ _)

protected theorem setSostSet (S : KeySet) (s : State) : R s (setSostSet S s) := by
  obtain ⟨_, _, _, h⟩ := setSostSet_eq (s := s) S
  rw [h]
  exact c.same

protected theorem sostenutoOff (time : Clock) (s : State) : R s (sostenutoOff time s) :=
  c.trans (c.after (c.setSostSet _ _)) (c.pedalEvent _ _)

protected theorem sostenutoTest (time : Clock) (d : Nat) (s : State) : R s (sostenutoTest time d s) := by
  have hon : R s (sostenutoOn time s) := c.trans (c.after (c.setSostSet _ _)) (c.pedalEvent _ _)
  unfold sostenutoTest
  dsimp only
  split_ifs
  · exact c.sostenutoOff _ _
  · exact c.refl s
  · exact hon
  · exact c.refl s

protected theorem pedalSample (p : Pedal) (time : Clock) (first : Bool) (d : Nat) (s : State) :
    R s (pedalSample p time first d s) := by
  have hdepth : R s (setPedalDepth p d s) := c.same
  by_cases hp : p = .sostenuto
  · subst hp
    cases first
    · exact c.trans hdepth (c.sostenutoTest _ _ _)
    · exact hdepth
  · have hlift (x : Nat) := c.trans hdepth (c.setPedalLift p x _)
    rw [pedalSample_of_ne hp]
    dsimp only
    split_ifs
    · exact c.trans (hlift _) c.same
    · exact c.trans (hlift _) (c.reportPedal _ _ _ _)
    · exact hlift _

protected theorem pedalChannelFailed (p : Pedal) (time : Clock) (s : State) : R s (pedalChannelFailed p time s) := by
  have hfailed : R s (onPdu (fun u => u.modify p fun r => { r with failed := true }) s) := c.same
  unfold pedalChannelFailed
  dsimp only
  refine c.trans ?_ (c.report ((reportFault_only _).trans (raiseAll_only _).report))
  split
  · exact c.trans hfailed (c.ite (c.sostenutoOff _ _))
  · exact c.trans (c.trans hfailed (c.setPedalLift _ _ _)) (c.ite (c.reportPedal _ _ _ _))

/-! ### Conversions and walks (01) -/

protected theorem convertKey (k : Key) (time : Clock) (raw : Nat) (s : State) : R s (convertKey k time raw s) :=
  c.after
    (convert_rel c.refl c.trans (failed := fun v => keyChannelFailed false k time (reportFault .sensorFail v))
      (fun _ => c.after (c.keyChannelFailed _ _ _ _)) (c.keyChannelRecovered _ _ _)
      (c.keyDepthSample _ _ _ _) _ _ _
      (onSfe (fun f => { f with keyCh := f.keyCh.set k (channelTest s.sfe.keyCh[k] raw).record }) s))

protected theorem convertHammer (k : Key) (time : Clock) (raw : Nat) (s : State) : R s (convertHammer k time raw s) :=
  c.after
    (convert_rel c.refl c.trans (failed := fun v => keyChannelFailed true k time (reportFault .sensorFail v))
      (fun _ => c.after (c.keyChannelFailed _ _ _ _)) (c.keyChannelRecovered _ _ _)
      (fun _ => c.trans (c.hammerSample _ _ _ _ _) (c.rail quietMove_only)) _ _ _
      (onSfe (fun f => { f with hammerCh := f.hammerCh.set k (channelTest s.sfe.hammerCh[k] raw).record }) s))

protected theorem convertPedal (p : Pedal) (time : Clock) (raw : Nat) (s : State) : R s (convertPedal p time raw s) :=
  c.after
    (convert_rel c.refl c.trans (failed := fun v => pedalChannelFailed p time (reportFault .sensorFail v))
      (fun _ => c.after (c.pedalChannelFailed _ _ _)) (recovered := pedalChannelRecovered p)
      (fun _ => c.same) (c.pedalSample _ _ _ _) _ _ _
      (onSfe (fun f => { f with pedalCh := f.pedalCh.set p.index (channelTest s.sfe.pedalCh[p.index] raw).record }) s))

protected theorem convertResult (g : Group) (time : Clock) (s : State) (r : AinResult) :
    R s (convertResult g time s r) := by
  unfold convertResult
  cases g with
  | k n => exact c.convertKey _ _ _ _
  | h n => exact c.convertHammer _ _ _ _
  | p =>
    cases groupPedal r.ain with
    | none => exact c.refl s
    | some p => exact c.convertPedal _ _ _ _

protected theorem startFrame (s : State) : R s (startFrame s) := by
  rw [startFrame_eq]
  exact c.same

protected theorem nextEntry (pos : WalkPos) (s : State) : R s (nextEntry pos s) := by
  have hend (looped : Bool) : R s (endWalk looped s) := by
    obtain ⟨_, _, _, _, _, he⟩ := endWalk_frame (s := s) looped
    rw [he]
    exact c.same
  unfold nextEntry
  dsimp only
  split_ifs
  · exact hend false
  · exact hend true
  · rw [beginEntry_eq]
    exact c.same

/-! ### Lines and start-up (09, R189) -/

protected theorem linkReset (l : Link) (s : State) : R s (linkReset l s) := by
  have hdemand : R (portReset l s) (linkReset l s) := by
    rw [linkReset_demandThen]
    exact c.trans (c.rail (setDemand_only _)) c.same
  exact c.after hdemand

protected theorem discardFrame (l : Link) (s : State) : R s (discardFrame l s) := c.same

protected theorem takeByte (l : Link) (b : Byte) (stopLow : Bool) (s : State) : R s (takeByte l b stopLow s) := by
  have hcomplete (payload : List Byte) : R s (completeFrame l payload s) := by
    unfold completeFrame
    split
    · exact c.linkReset l s
    · exact c.same
  unfold takeByte
  split
  · exact c.ite c.same
  · split
    · exact c.same
    · exact c.discardFrame l s
  · split_ifs
    · exact c.discardFrame l s
    · exact c.same
    · exact c.same
  · split
    · exact hcomplete _
    · exact c.discardFrame l s

protected theorem loadRegions (s : State) : R s (loadRegions s) :=
  c.after (b := onCst Cst.load { s with phase := .loading })
    (c.report ((reportInvalid_only _).trans (reportInvalid_only _)))

protected theorem startUp (s : State) : R s (startUp s) := by
  unfold startUp
  split
  · exact c.same
  · exact c.loadRegions _

end TakeClosed

end Sys2Proof.Machine
end

section
namespace Sys2Proof.Machine

/-! ## What holds across every step: the take store's own commands beside the rest -/

/-- A relation that is closed under the rest of the part, and holds across each operation by which a command acts on the
take store, where the command's tests let it through. -/
structure StoreClosed (R : State → State → Prop) : Prop extends TakeClosed R where
  begun : ∀ {n b s} immediate tag, (s.take n).state = .empty → (∀ m, ¬(s.take m).open_) → lowestFree s = some b →
    R s (beginRecording n immediate tag s)
  stopped : ∀ {n s}, s.tks.recorder.names = some n → R s (stopRecording n s).1
  forwarded : ∀ {n r s} r', s.tks.recorder = .recording n r → R s (recorderRuns n r' s)
  opened : ∀ {n s} tag, (s.take n).state = .empty → (∀ m, ¬(s.take m).open_) → R s (takeOpened n .loading tag s)
  loaded : ∀ {n rs s}, (s.take n).state = .loading → rs.length ≤ takeRoom s n → R s (appendRecords n rs s)
  loadEnded : ∀ {n s}, (s.take n).state = .loading → R s (endLoading n s)
  keepSet : ∀ {n s} keep, (s.take n).state ≠ .empty → R s (onTake n (fun e => { e with kept := keep }) s)
  erased : ∀ {n s}, ¬(s.take n).open_ → playerNames s n = false → R s (emptyTake n s)
  settled : ∀ s, R s (settleTakes s)
  cold : ∀ {s t : State}, t.tks = Tks.initial → t.ply.session = none → R s t

/-- A relation to the state a command runs to is one to the only state it leaves. -/
theorem rel_of_next {R : State → State → Prop} {o : Host.Outcome State Fault Refusal} {s t u : State} (hu : o = .next u)
    (ht : o = .next t) (h : R s u) : R s t := by
  rw [hu] at ht
  cases ht
  exact h

theorem secondDue_recording {s : State} {n : TakeNo} {r : RecInfo} (h : secondDue s = some (n, r)) :
    s.tks.recorder = .recording n r := by
  unfold secondDue at h
  split at h
  · split at h
    · cases h
      assumption
    · cases h
  · cases h

theorem stepDue_session {s : State} {time : Clock} (h : stepDue s = some time) : ∃ ss, s.ply.session = some ss := by
  unfold stepDue at h
  split at h
  · exact ⟨_, by assumption⟩
  · cases h

namespace StoreClosed

variable {s t : State} {R : State → State → Prop} (c : StoreClosed R)

include c

/-- A request whose effect the relation holds across (R164). -/
protected theorem serve {effect : List Byte → State → State × Reply} (h : EffectRel R effect) (l : Link) (k : Byte)
    (s : State) :
    R s (serve l k effect s) := serve_rel c.refl c.trans (fun hl => c.report hl.report) h l k s

protected theorem needs {n : Nat} {args : List Byte} {s : State} {go : State × Reply} (h : R s go.1) :
    R s (needs n args s go).1 := by
  unfold needs
  split
  · exact c.refl s
  · exact h

protected theorem playerNeeds {n : Nat} {args : List Byte} {s : State} {go : State × Reply} (h : R s go.1) :
    R s (playerNeeds n args s go).1 := by
  unfold playerNeeds
  split
  · exact c.refl s
  · exact h

/-! ### Takes (R130, R136 to R142) -/

protected theorem takeRecordEffect : EffectRel R takeRecordEffect := fun args s => by
  refine c.needs ?_
  split
  · exact c.refl s
  · split_ifs with _ hempty hbusy
    · exact c.refl s
    · exact c.refl s
    · exact c.refl s
    · split
      · exact c.refl s
      · rename_i hfree
        exact c.begun _ _ (not_not.mp hempty) (takeBusy_eq_false.mp (Bool.eq_false_iff.mpr hbusy)) hfree

protected theorem takeStopEffect : EffectRel R takeStopEffect := fun args s => by
  unfold takeStopEffect
  split
  · exact c.refl s
  · rename_i hn
    exact c.stopped (Recorder.names_of_armed hn)
  · rename_i hn
    exact c.stopped (Recorder.names_of_recording hn)

protected theorem takeLoadEffect : EffectRel R takeLoadEffect := fun args s => by
  refine c.needs ?_
  split
  · exact c.refl s
  · split_ifs with hempty hbusy
    · exact c.refl s
    · exact c.refl s
    · exact c.trans (c.opened (word16At args 1) (not_not.mp hempty) (takeBusy_eq_false.mp (Bool.eq_false_iff.mpr hbusy)))
        (c.raised _ _)

protected theorem writeTakeRecordsEffect : EffectRel R writeTakeRecordsEffect := fun args s => by
  refine c.needs ?_
  split
  · exact c.refl s
  · split
    · exact c.refl s
    · rename_i hloading
      split
      · exact c.refl s
      · split_ifs with _ hroom
        · exact c.refl s
        · exact c.refl s
        · exact c.loaded (not_not.mp hloading) (Nat.not_lt.mp hroom)

protected theorem loadEndEffect : EffectRel R loadEndEffect := fun args s => by
  refine c.needs ?_
  split
  · exact c.refl s
  · split
    · exact c.refl s
    · rename_i hloading
      exact c.trans (c.loadEnded (not_not.mp hloading)) (c.raised _ _)

protected theorem keepEffect (l : Link) (keep : Bool) : EffectRel R (keepEffect l keep) := fun args s => by
  unfold keepEffect
  split
  · refine c.needs ?_
    split
    · exact c.refl s
    · split_ifs with hempty
      · exact c.refl s
      · exact c.refl s
      · exact c.trans (c.keepSet keep hempty) (c.raised _ _)
  · exact c.refl s

protected theorem takeEraseEffect : EffectRel R takeEraseEffect := fun args s => by
  refine c.needs ?_
  split
  · exact c.refl s
  · split_ifs with hopen hplayed
    · exact c.refl s
    · exact c.refl s
    · exact c.refl s
    · exact c.refl s
    · exact c.trans (c.erased hopen (Bool.eq_false_iff.mpr hplayed)) (c.raised _ _)

protected theorem readTakeDirectoryEffect (l : Link) : EffectRel R (readTakeDirectoryEffect l) := fun args s => by
  refine c.needs ?_
  dsimp only
  split <;> exact c.refl s

protected theorem readTakeRecordsEffect (l : Link) : EffectRel R (readTakeRecordsEffect l) := fun args s => by
  refine c.needs ?_
  split
  · exact c.refl s
  · split <;> exact c.refl s

/-! ### The player (R147, R148, R151 to R155) -/

protected theorem takePlayEffect : EffectRel R takePlayEffect := fun args s => by
  refine c.playerNeeds ?_
  split
  · exact c.refl s
  · split
    · exact c.refl s
    · rename_i hclosed
      dsimp only
      generalize (if bitOf args 1 1 then word32At args 3 else 0) = start
      split
      · exact c.refl s
      · exact c.startPlayback _ _ (not_not.mp hclosed)

protected theorem stopEffect : EffectRel R stopEffect := fun args s => by
  unfold stopEffect
  split
  · exact c.endPlayback _ _
  · exact c.refl s

protected theorem pauseEffect : EffectRel R pauseEffect := fun args s => by
  unfold pauseEffect
  split
  · exact c.refl s
  · rename_i hss
    split
    · exact c.trans (c.trans (c.sessionSet hss rfl) (c.playMark _ _ _)) (c.raised _ _)
    · exact c.refl s

protected theorem resumeEffect : EffectRel R resumeEffect := fun args s => by
  unfold resumeEffect
  split
  · exact c.refl s
  · rename_i hss
    split
    · exact c.trans (c.trans (c.sessionSet hss rfl) (c.playMark _ _ _)) (c.raised _ _)
    · exact c.refl s

protected theorem setTempoEffect : EffectRel R setTempoEffect := fun args s => by
  have htempo : R s (onPly (fun p => { p with tempo := clamp 25 200 (byteAt args 0) }) s) := c.ply s
  exact c.playerNeeds htempo

protected theorem setLoopEffect : EffectRel R setLoopEffect := fun args s => by
  refine c.playerNeeds ?_
  split
  · exact c.refl s
  · dsimp only
    split
    · exact c.setLoop _ _ _ _
    · exact c.refl s

protected theorem clearLoopEffect : EffectRel R clearLoopEffect := fun _ s => by
  have hcleared : R s (onPly (fun p => { p with loop := none }) s) := c.ply s
  exact hcleared

protected theorem setGuideEffect : EffectRel R setGuideEffect := fun args s => by
  refine c.playerNeeds ?_
  split
  · split
    · exact c.refl s
    · exact c.setGuide _ _ _ _ _
  · exact c.refl s

/-! ### Links, journal, notices -/

protected theorem helloEffect (l : Link) : EffectRel R (helloEffect l) := fun _ s => c.refl s

protected theorem setLinkEffect (l : Link) : EffectRel R (setLinkEffect l) := fun args s => by
  refine c.needs ?_
  split
  · dsimp only
    split <;> exact c.same
  · exact c.refl s

protected theorem claimRoleEffect (l : Link) : EffectRel R (claimRoleEffect l) := fun args s => by
  unfold claimRoleEffect
  split
  · exact c.refl s
  · split
    · split_ifs
      · exact c.refl s
      · exact c.refl s
      · exact c.after (c.voice ((softClaimed_only .live).trans (softClaimed_only .playback)))
    · split_ifs <;> exact c.same
    · exact c.refl s

protected theorem readKeysEffect (l : Link) : EffectRel R (readKeysEffect l) := fun args s => by
  refine c.needs ?_
  dsimp only
  split <;> exact c.refl s

protected theorem setWindowEffect (l : Link) : EffectRel R (setWindowEffect l) := fun args s => by
  refine c.needs ?_
  split <;> exact c.same

protected theorem readWindowEffect (l : Link) : EffectRel R (readWindowEffect l) := fun args s => by
  refine c.needs ?_
  dsimp only
  split <;> exact c.refl s

protected theorem depthStreamEffect (l : Link) : EffectRel R (depthStreamEffect l) := fun args s => by
  refine c.needs ?_
  dsimp only
  split <;> exact c.same

protected theorem setScanListEffect : EffectRel R setScanListEffect := fun args s => by
  refine c.needs ?_
  dsimp only
  split
  · exact c.refl s
  · split <;> exact c.same

protected theorem systemResetEffect (l : Link) : EffectRel R (systemResetEffect l) := fun args s => by
  unfold systemResetEffect done
  split
  · exact c.ite c.same
  · exact c.refl s

protected theorem openJournalEffect (l : Link) : EffectRel R (openJournalEffect l) := fun args s => by
  refine c.needs ?_
  dsimp only
  split <;> exact c.same

protected theorem readJournalEffect (l : Link) : EffectRel R (readJournalEffect l) := fun args s => by
  refine c.needs ?_
  split <;> exact c.same

protected theorem closeJournalEffect (l : Link) : EffectRel R (closeJournalEffect l) := fun args s => by
  unfold closeJournalEffect
  split <;> exact c.same

protected theorem noticeSetEffect (l : Link) : EffectRel R (noticeSetEffect l) := fun args s => by
  refine c.needs ?_
  split
  · exact c.refl s
  · split <;> exact c.same

protected theorem noticeMaskEffect (l : Link) : EffectRel R (noticeMaskEffect l) := fun args s => by
  refine c.needs ?_
  dsimp only
  split <;> exact c.same

protected theorem readFaultsEffect : EffectRel R readFaultsEffect := fun args s => by
  refine c.needs ?_
  split <;> exact c.refl s

protected theorem clearFaultsEffect : EffectRel R clearFaultsEffect := fun _ _ => c.needs c.same

/-! ### Voices, rail, calibration store -/

protected theorem setLayersEffect : EffectRel R setLayersEffect := fun args s => by
  refine c.needs ?_
  split <;> exact c.same

protected theorem readVoicesEffect (l : Link) : EffectRel R (readVoicesEffect l) := fun args s => by
  refine c.needs ?_
  dsimp only
  split <;> exact c.refl s

protected theorem voiceEndedEffect (l : Link) : EffectRel R (voiceEndedEffect l) := fun args s => by
  unfold voiceEndedEffect
  split
  · split
    · exact c.refl s
    · exact c.voice ((foldl_endPair_voice _ (s, 0, 0)).trans (staleReported_only _).voice)
  · exact c.refl s

protected theorem railDemandEffect (l : Link) : EffectRel R (railDemandEffect l) := fun args s => by
  refine c.needs ?_
  split
  · exact c.refl s
  · exact c.rail (setDemand_only _)

protected theorem railRecoverEffect : EffectRel R railRecoverEffect := fun args s => by
  have hmoved (f : Rlc → Rlc) : RailOnly s (quietMove (railEnter .unknown (onRlc f s))) :=
    ((onRlc_only f).trans (railEnter_only _)).trans quietMove_only
  unfold railRecoverEffect
  split
  · exact c.rail (hmoved _)
  · exact c.refl s

protected theorem readRailEffect : EffectRel R readRailEffect := fun _ s => c.refl s

protected theorem installCst (new : Cst) (s : State) : R s (installCst new s) := by
  have hreset (v : State) : R v (resetHammers (perKeyChanged s.cst new) v) := by
    unfold resetHammers
    exact c.same
  have hquiet : R s (quietMove (resetHammers (perKeyChanged s.cst new) (onCst (fun _ => new) s))) :=
    c.trans (c.after (b := onCst (fun _ => new) s) (hreset _)) (c.rail quietMove_only)
  unfold installCst
  dsimp only
  split
  · exact hquiet
  · exact c.trans hquiet (c.rail deriveLever_only)

protected theorem calReadEffect (l : Link) : EffectRel R (calReadEffect l) := fun args s => by
  refine c.needs ?_
  split
  · exact c.refl s
  · dsimp only
    split <;> exact c.refl s

protected theorem calWriteEffect (l : Link) : EffectRel R (calWriteEffect l) := fun args s => by
  unfold calWriteEffect
  split
  · exact c.refl s
  · split
    · exact c.refl s
    · split_ifs
      · exact c.refl s
      · exact c.refl s
      · exact c.refl s
      · unfold calStore done
        dsimp only
        split
        · exact c.refl s
        · exact c.installCst _ _

protected theorem calCommitEffect (l : Link) : EffectRel R (calCommitEffect l) := fun args s => by
  unfold calCommitEffect
  split
  · exact c.refl s
  · refine c.needs ?_
    split
    · exact c.refl s
    · split <;> exact c.same

protected theorem calDefaultsEffect (l : Link) : EffectRel R (calDefaultsEffect l) := fun args s => by
  unfold calDefaultsEffect
  split
  · exact c.refl s
  · refine c.needs ?_
    split
    · exact c.refl s
    · split_ifs
      · exact c.refl s
      · exact c.refl s
      · exact c.installCst _ _

/-! ### Every command -/

/-- A system reset settles the unfinished takes and leaves the player with none (R143, R160). -/
protected theorem systemReset (s : State) : R s (systemReset s) := by
  obtain ⟨-, hply, -⟩ := systemReset_blocks (s := s)
  exact c.trans (c.settled s) (c.blocks systemReset_tks fun _ hss => nomatch hss.symm.trans (congrArg Ply.session hply))

/-- A request whose effect the relation holds across. -/
protected theorem of_serve {effect : List Byte → State → State × Reply} {l : Link} {k : Byte} (h : EffectRel R effect)
    (ht : Host.Outcome.next (Sys2Proof.Machine.serve l k effect s) = (.next t : Host.Outcome State Fault Refusal)) : R s t :=
  rel_of_next rfl ht (c.serve h l k s)

/-- The relation holds across every command. -/
protected theorem exec {i : Instr} (h : exec i s = .next t) : R s t := by
  cases i with
  | powerOnReset => exact rel_of_next rfl h (c.trans (c.cold (t := coldBlocks (cutCommits s)) rfl rfl) (c.startUp _))
  | resetnLow =>
    refine rel_of_next rfl h ?_
    dsimp only
    split_ifs <;> exact c.same
  | systemResetEffect => exact rel_of_next rfl h (c.ite (c.systemReset s))
  | receiveByte l b stopLow =>
    have hgap : R s (if gapDue l s then discardFrame l s else s) := c.ite (c.discardFrame l s)
    exact rel_of_next rfl h (c.ite (c.trans hgap (c.takeByte l b stopLow _)))
  | interByteGapTimeout l => exact rel_of_next rfl h (c.ite (c.discardFrame l s))
  | lineBreak l =>
    refine rel_of_next rfl h ?_
    dsimp only
    split_ifs
    · exact c.refl s
    · exact c.after (c.linkReset l _)
    · exact c.same
  | transmitFrameStart l =>
    refine rel_of_next rfl h (c.ite ?_)
    split <;> exact c.same
  | pendingNoticeQueued l =>
    refine rel_of_next rfl h ?_
    split <;> exact c.same
  | voiceOrderDrain =>
    refine rel_of_next rfl h ?_
    split
    · exact c.after (c.voice refillStale_only)
    · exact c.refl s
  | unknownRequest l =>
    refine rel_of_next rfl h ?_
    split
    · exact c.ite c.same
    · exact c.refl s
  | hello l => exact c.of_serve (c.helloEffect l) h
  | setLink l => exact c.of_serve (c.setLinkEffect l) h
  | claimRole l => exact c.of_serve (c.claimRoleEffect l) h
  | readKeys l => exact c.of_serve (c.readKeysEffect l) h
  | setWindow l => exact c.of_serve (c.setWindowEffect l) h
  | readWindow l => exact c.of_serve (c.readWindowEffect l) h
  | depthStream l => exact c.of_serve (c.depthStreamEffect l) h
  | setScanList l => exact c.of_serve c.setScanListEffect h
  | openJournal l => exact c.of_serve (c.openJournalEffect l) h
  | readJournal l => exact c.of_serve (c.readJournalEffect l) h
  | closeJournal l => exact c.of_serve (c.closeJournalEffect l) h
  | setLayers l => exact c.of_serve c.setLayersEffect h
  | readVoices l => exact c.of_serve (c.readVoicesEffect l) h
  | voiceEnded l => exact c.of_serve (c.voiceEndedEffect l) h
  | railDemand l => exact c.of_serve (c.railDemandEffect l) h
  | railRecover l => exact c.of_serve c.railRecoverEffect h
  | readRail l => exact c.of_serve c.readRailEffect h
  | takeRecord l => exact c.of_serve c.takeRecordEffect h
  | takeStop l => exact c.of_serve c.takeStopEffect h
  | takeLoad l => exact c.of_serve c.takeLoadEffect h
  | writeTakeRecords l => exact c.of_serve c.writeTakeRecordsEffect h
  | loadEnd l => exact c.of_serve c.loadEndEffect h
  | takeKeep l => exact c.of_serve (c.keepEffect l true) h
  | takeUnkeep l => exact c.of_serve (c.keepEffect l false) h
  | takeErase l => exact c.of_serve c.takeEraseEffect h
  | readTakeDirectory l => exact c.of_serve (c.readTakeDirectoryEffect l) h
  | readTakeRecords l => exact c.of_serve (c.readTakeRecordsEffect l) h
  | takePlay l => exact c.of_serve c.takePlayEffect h
  | stop l => exact c.of_serve c.stopEffect h
  | pause l => exact c.of_serve c.pauseEffect h
  | resume l => exact c.of_serve c.resumeEffect h
  | setTempo l => exact c.of_serve c.setTempoEffect h
  | setLoop l => exact c.of_serve c.setLoopEffect h
  | clearLoop l => exact c.of_serve c.clearLoopEffect h
  | setGuide l => exact c.of_serve c.setGuideEffect h
  | calRead l => exact c.of_serve (c.calReadEffect l) h
  | calWrite l => exact c.of_serve (c.calWriteEffect l) h
  | calCommit l => exact c.of_serve (c.calCommitEffect l) h
  | calDefaults l => exact c.of_serve (c.calDefaultsEffect l) h
  | commitComplete r equal =>
    refine rel_of_next rfl h (c.ite ?_)
    cases equal <;> exact c.same
  | noticeSet l => exact c.of_serve (c.noticeSetEffect l) h
  | noticeMask l => exact c.of_serve (c.noticeMaskEffect l) h
  | readFaults l => exact c.of_serve c.readFaultsEffect h
  | clearFaults l => exact c.of_serve c.clearFaultsEffect h
  | systemReset l => exact c.of_serve (c.systemResetEffect l) h
  | frameStart => exact rel_of_next rfl h (c.ite (c.startFrame _))
  | settleEnd =>
    refine rel_of_next rfl h ?_
    split <;> exact c.same
  | conversionEnd results =>
    refine rel_of_next rfl h ?_
    split
    · exact c.trans (foldl_rel c.refl c.trans (c.convertResult _ _) results s) (c.nextEntry _ _)
    · exact c.refl s
  | recorderSecondStep =>
    refine rel_of_next rfl h ?_
    split
    · rename_i hdue
      exact c.forwarded _ (secondDue_recording hdue)
    · exact c.refl s
  | millisecondStep =>
    refine rel_of_next rfl h ?_
    split
    · rename_i n hdue
      obtain ⟨ss, hss⟩ := stepDue_session hdue
      exact c.trans (c.sessionSet hss (by simp [advancePlayer, hss])) (c.finishStep _)
    · exact c.refl s
  | silentInputChange low =>
    refine rel_of_next rfl h ?_
    split <;> exact c.same
  | leverDebounceExpiry => exact rel_of_next rfl h (c.ite (c.after (c.rail deriveLever_only)))
  | railHomingStart => exact rel_of_next rfl h (c.ite (c.rail startHoming_only))
  | railQuietMoveStart =>
    refine rel_of_next rfl h ?_
    split
    · exact c.rail (startMove_only _ _)
    · exact c.refl s
  | railCurrentChange current => exact rel_of_next rfl h c.same
  | inrushBlankingEnd => exact rel_of_next rfl h (c.ite c.same)
  | stall =>
    refine rel_of_next rfl h ?_
    split
    · exact c.rail (stallLeg_only _)
    · exact c.refl s
  | maximumTravelTimeout => exact rel_of_next rfl h (c.ite (c.rail (railFault_only _)))
  | backoffTimeEnd =>
    refine rel_of_next rfl h ?_
    split
    · exact c.rail (retreatEnd_only _ _)
    · exact c.refl s
  | retryDelayEnd =>
    refine rel_of_next rfl h ?_
    split
    · split
      · exact c.rail (startMove_only _ _)
      · exact c.rail (enterWaiting_only _ _)
    · exact c.refl s
  | railHeld =>
    refine rel_of_next rfl h ?_
    split <;> exact c.same
  | resetnHigh => exact rel_of_next rfl h (c.after (b := { s with resetnLow := false }) (c.ite (c.loadRegions _)))
  | lineReturnsHigh l => exact rel_of_next rfl h (c.ite c.same)
  | powerLoss =>
    refine rel_of_next rfl h ?_
    split
    · exact c.refl s
    · exact c.cold rfl rfl
  | regionsLoaded => exact rel_of_next rfl h (c.ite (c.after (b := takeUp s) (c.startFrame _)))

/-- The relation holds across every step. -/
protected theorem step (h : step s = .next t) : R s t := by
  have hidle (h : idle s = .next t) : R s t := by
    unfold idle at h
    split at h
    · split at h
      · exact c.exec h
      · cases h
        split
        · exact c.refl s
        · rw [tick_eq]
          exact c.same
    · cases h
      exact c.refl s
  unfold Sys2Proof.Machine.step at h
  split at h
  · exact hidle h
  · exact c.after (b := { s with pending := _ }) (c.exec h)

end StoreClosed

end Sys2Proof.Machine
end

section
namespace Sys2Proof.Machine

variable {s t u : State} {n : TakeNo}

/-! ## Every step keeps the takes sound (R124 to R126, R129, R130) -/

/-- No take the player names is erased (R140). -/
theorem playerNames_eq_false : playerNames s n = false ↔ ∀ ss, s.ply.session = some ss → ss.take ≠ n := by
  unfold playerNames
  cases s.ply.session <;> simp

theorem takesKept_storeClosed : StoreClosed TakesKept where
  trans h g := g ∘ h
  blocks htks hsession h := h.of_tks htks hsession
  recorded e _ := recorderEvent_takesKept e
  begun _ _ hn hidle hfree h := beginRecording_takesSound h hn hidle hfree
  stopped hn h := stopRecording_takesSound h hn
  forwarded _ hr h := recorderRuns_takesSound h (h.recording (Recorder.names_of_recording hr))
  opened _ hn hidle h := takeOpened_takesSound h hn hidle (by decide)
  loaded hn hroom h := appendRecords_takesSound h (by simp [hn])
    (fun hr => absurd (hn.symm.trans (h.recording (Recorder.names_of_armed hr))) (by decide)) hroom
  loadEnded hn h := endLoading_takesSound h hn
  keepSet _ hn h := h.onTake rfl rfl hn .inl h.recording id
  erased hn hplayed h := emptyTake_takesSound h (fun hm => hn (.inl (h.recording hm))) (playerNames_eq_false.mp hplayed)
  settled _ := settleTakes_takesKept
  cold htks hply _ := takesSound_of_initial htks hply

/-- Settles O11: each operation on the take store keeps the takes sound, and nothing else reaches them. -/
theorem takesStaySound : Obligations.TakesStaySound := fun _ _ hs h => takesKept_storeClosed.step h hs

/-! ## Every step keeps the take memory in its canonical form (R124; log 22) -/

/-- The take memory has its canonical form after, if it had before. -/
def MemoryKept (s t : State) : Prop := TakeMemorySound s → TakeMemorySound t

theorem MemoryKept.of_eq (h : t.tks.mem = s.tks.mem) : MemoryKept s t := fun hs => by
  rw [TakeMemorySound, h]
  exact hs

theorem MemoryKept.trans (h : MemoryKept s t) (g : MemoryKept t u) : MemoryKept s u := g ∘ h

theorem recorderRuns_memoryKept (r : RecInfo) : MemoryKept s (recorderRuns n r s) := .of_eq rfl

theorem raiseAll_memoryKept (c : EventClass) : MemoryKept s (raiseAll c s) := .of_eq rfl

theorem appendRecords_memoryKept (rs : List TakeRec) : MemoryKept s (appendRecords n rs s) := appendRecords_wf n rs s

theorem writeRecord_memoryKept (time : Nat) (kind : TakeKind) (key : Key) (value : Nat) :
    MemoryKept s (writeRecord n time kind key value s) := by
  unfold writeRecord
  dsimp only
  split
  · exact appendRecords_memoryKept _
  · exact .of_eq rfl

theorem recordLive_memoryKept (r : RecInfo) (e : Event) : MemoryKept s (recordLive n r e s) := by
  rcases hw : recordOf r.struck e with _ | ⟨kind, key, value⟩
  · rw [recordLive_of_none hw]
    exact .of_eq rfl
  · rw [recordLive_of_some hw]
    exact (recorderRuns_memoryKept _).trans (writeRecord_memoryKept _ kind key value)

theorem startTake_memoryKept (start : Clock) : MemoryKept s (startTake n start s) := by
  rw [startTake_eq]
  exact (recorderRuns_memoryKept _).trans (appendRecords_memoryKept _)

theorem recorderEvent_memoryKept (e : Event) : MemoryKept s (recorderEvent e s) := by
  unfold recorderEvent
  split
  · split
    · exact .of_eq rfl
    · split
      · dsimp only
        split
        · exact ((startTake_memoryKept _).trans (recordLive_memoryKept _ _)).trans (raiseAll_memoryKept _)
        · exact startTake_memoryKept _
      · exact .of_eq rfl
    · exact recordLive_memoryKept _ _
  · exact .of_eq rfl

theorem beginRecording_memoryKept (immediate : Bool) (tag : Nat) : MemoryKept s (beginRecording n immediate tag s) := by
  have hopened : MemoryKept s (recordingOpened n tag s) := .of_eq (allocateBlock_mem n _)
  have harmed (v : State) : MemoryKept v (onTks (fun k => { k with recorder := .armed n }) v) := .of_eq rfl
  rw [beginRecording_eq]
  cases immediate with
  | true => exact (hopened.trans (startTake_memoryKept _)).trans (raiseAll_memoryKept _)
  | false => exact (hopened.trans (harmed _)).trans (raiseAll_memoryKept _)

/-- A take closed or emptied leaves its contents (R140). -/
theorem ended_memoryKept (ht : t = closeTake n s ∨ t = emptyTake n s) : MemoryKept s t := by
  rcases ht with rfl | rfl
  · exact .of_eq rfl
  · exact .of_eq (emptyTake_mem n s)

theorem memoryKept_storeClosed : StoreClosed MemoryKept where
  trans := .trans
  blocks htks _ := .of_eq (congrArg Tks.mem htks)
  recorded e _ := recorderEvent_memoryKept e
  begun immediate tag _ _ _ := beginRecording_memoryKept immediate tag
  stopped {_ s} _ := ((MemoryKept.of_eq (t := recorderIdled s) rfl).trans (ended_memoryKept endRecording_cases)).trans
    (raiseAll_memoryKept _)
  forwarded _ _ := .of_eq rfl
  opened _ _ _ := .of_eq rfl
  loaded _ _ := appendRecords_memoryKept _
  loadEnded _ := ended_memoryKept endLoading_cases
  keepSet _ _ := .of_eq rfl
  erased _ _ := .of_eq (emptyTake_mem _ _)
  settled _ := .of_eq settleTakes_mem
  cold htks _ _ := by
    rw [TakeMemorySound, htks]
    rfl

/-- Settles O12: each operation on the take store keeps the canonical form, and nothing else reaches the take memory. -/
theorem takeMemoryStaysSound : Obligations.TakeMemoryStaysSound := fun _ _ hs h => memoryKept_storeClosed.step h hs

end Sys2Proof.Machine
end

section
namespace Sys2Proof.Machine

variable {s t : State} {n m : TakeNo} {b : Block} {l : Link} {args : List Byte}

/-! ## TAKE RECORD (R130, R131) -/

theorem exec_takeRecord (h : headRequest l s = some (kTakeRecord, args)) : exec (.takeRecord l) s =
    .next (putReply l kTakeRecord (takeRecordEffect args (popRequest l s)).2 (takeRecordEffect args (popRequest l s)).1) :=
  congrArg Host.Outcome.next (serve_taken _ h)

theorem takeArg_of_byteAt {i : Nat} (h : byteAt args i = n.val) : takeArg args i = some n := by
  rw [takeArg, h, finOf_val]

/-- An EMPTY take is recorded while none is being written and a block is FREE. -/
theorem takeRecordEffect_begins (hlen : 4 ≤ args.length) (hn : byteAt args 0 = n.val) (hmode : byteAt args 1 ≤ 1)
    (hempty : (s.take n).state = .empty) (hidle : ∀ m, ¬(s.take m).open_) (hfree : lowestFree s = some b) :
    takeRecordEffect args s =
      done (beginRecording n (byteAt args 1 == 1) (word16At args 2) s) [byteOf n.val, byteOf b.val] := by
  simp only [takeRecordEffect, needs_enough _ hlen, takeArg_of_byteAt hn, if_neg (Nat.not_lt.mpr hmode), hempty, ne_eq,
    not_true_eq_false, if_false, takeBusy_eq_false.mpr hidle, Bool.false_eq_true, hfree]

theorem vmodify_vmodify {α : Type} {k : Nat} (v : Vector α k) (i : Fin k) (f g : α → α) :
    vmodify (vmodify v i f) i g = v.set i (g (f v[i])) := by
  simp [vmodify]

/-- The block table and the directory behind the opening of a recording. -/
theorem recordingOpened_eq {tag : Nat} (hn : s.take n = {}) (hfree : lowestFree s = some b) : recordingOpened n tag s =
    onTks (fun k =>
      { k with
        blocks := k.blocks.set b .last
        dir := k.dir.set n { state := .recording, tag := tag, firstBlock := some b } }) s := by
  have hfree' : lowestFree (takeOpened n .recording tag s) = some b := hfree
  have hnone : takeChain (takeOpened n .recording tag s) n = [] :=
    takeChain_eq_nil_iff.mpr (by rw [takeOpened, State.take_onTake_same, hn])
  have hentry : s.tks.dir[n] = {} := hn
  rw [recordingOpened, allocateBlock_first hfree' hnone]
  simp only [takeOpened, onTake, onTks, vmodify_vmodify, hentry]

theorem recordingOpened_store {tag : Nat} : StoreOnly s (recordingOpened n tag s) :=
  (onTake_store n _).trans allocateBlock_store

theorem State.take_onDir {x : TakeEntry} {f : Tks → Vector BlockEntry 64} :
    (onTks (fun k => { k with blocks := f k, dir := k.dir.set n x }) s).take n = x := by
  simp [State.take]

/-! ### Records appended in the blocks that a chain has -/

/-- While its chain has places a take grows record by record, the block table being as it was (R124, R134). -/
theorem appendRecords_inChain {rs : List TakeRec} (hnodup : (takeChain s n).Nodup)
    (hroom : (s.take n).count + rs.length ≤ 256 * (takeChain s n).length) :
    (appendRecords n rs s).tks.blocks = s.tks.blocks
      ∧ (appendRecords n rs s).take n = rs.foldl (fun e r => e.counting r) (s.take n)
      ∧ takeRecords (appendRecords n rs s) n = takeRecords s n ++ rs := by
  induction rs generalizing s with
  | nil => exact ⟨rfl, rfl, (List.append_nil _).symm⟩
  | cons r rs ih =>
    rw [List.length_cons] at hroom
    have hplace : (s.take n).count < 256 * (takeChain s n).length := by omega
    obtain ⟨a, ha⟩ := recordAddr_isSome hplace
    have hchain := recordWritten_chain (n := n) (a := a) (r := r) (s := s) n
    have hwritten := recordWritten_take (n := n) (a := a) (r := r) (s := s)
    have hstep : appendRecords n (r :: rs) s = appendRecords n rs (recordWritten n a r s) := by
      rw [appendRecords, List.foldl_cons, appendRecord_of_room ha hplace, appendRecords]
    have hcount : ((recordWritten n a r s).take n).count = (s.take n).count + 1 := by rw [hwritten]; rfl
    obtain ⟨hblocks, htake, hrecords⟩ := ih (s := recordWritten n a r s) (by rwa [hchain]) (by rw [hchain, hcount]; omega)
    rw [hstep]
    refine ⟨hblocks, ?_, ?_⟩
    · rw [htake, hwritten, List.foldl_cons]
    · rw [hrecords, recordWritten_records hnodup ha, List.append_assoc, List.singleton_append]

/-- IMMEDIATE mode: the take starts with its snapshot in its first block. -/
theorem startTake_opened {tag : Nat} {start : Clock} (hn : s.take n = {}) (hfree : lowestFree s = some b) :
    let t := startTake n start (recordingOpened n tag s)
    t = { s with tks := t.tks } ∧ t.tks.recorder = .recording n (.started start)
      ∧ t.take n = { state := .recording, tag := tag, firstBlock := some b, count := 3 }
      ∧ t.tks.blocks = s.tks.blocks.set b .last ∧ takeRecords t n = snapshotRecords s := by
  intro t
  have hopened := recordingOpened_eq (tag := tag) hn hfree
  have hentry : (recorderRuns n (.started start) (recordingOpened n tag s)).take n =
      { state := .recording, tag := tag, firstBlock := some b } := by
    rw [recorderRuns_take, hopened]
    exact State.take_onDir
  have hblocks : (recorderRuns n (.started start) (recordingOpened n tag s)).tks.blocks = s.tks.blocks.set b .last := by
    rw [hopened]
    rfl
  have hchain : takeChain (recorderRuns n (.started start) (recordingOpened n tag s)) n = [b] :=
    takeChain_single (by rw [hentry]) (by rw [hblocks, getElem_set_fin, if_pos rfl])
  have hsnapshot : snapshotRecords (recordingOpened n tag s) = snapshotRecords s := by
    rw [hopened]
    rfl
  have ht : t = appendRecords n (snapshotRecords s) (recorderRuns n (.started start) (recordingOpened n tag s)) := by
    rw [← hsnapshot]
    rfl
  obtain ⟨hblocks', htake, hrecords⟩ := appendRecords_inChain (rs := snapshotRecords s)
    (s := recorderRuns n (.started start) (recordingOpened n tag s)) (n := n) (by simp [hchain])
    (by simp [hchain, hentry, snapshotRecords])
  refine ⟨?_, startTake_recorder _ _, ?_, ?_, ?_⟩
  · have hgrown := (appendRecords_entryGrown n (snapshotRecords s)
      (recorderRuns n (.started start) (recordingOpened n tag s))).store
    rw [ht]
    exact (recordingOpened_store.trans (onTks_store _)).trans hgrown
  · rw [ht, htake, hentry]
    rfl
  · rw [ht, hblocks', hblocks]
  · have hnone : takeRecords (recorderRuns n (.started start) (recordingOpened n tag s)) n = [] := by
      rw [takeRecords, hentry]
      rfl
    rw [ht, hrecords, hnone, List.nil_append]

theorem secondDue_of {r : RecInfo} (hrun : s.phase = .running) (hrec : s.tks.recorder = .recording n r)
    (hdue : elapsed s.clock (r.mark + 1000000) < 2147483648) : secondDue s = some (n, r) := by
  simp only [secondDue, hrun, hrec, reached, hdue, decide_true, if_true]

/-- Settles O36: the request by its mode, the second by the mark it lies behind. -/
theorem takeRecordStartsRecording : Obligations.TakeRecordStartsRecording := by
  refine ⟨fun l args n b s h hlen hn hempty hidle hfree => ?record, fun n r s hrun hrec hdue => ?second⟩
  case record =>
    have hbegins (hmode : byteAt args 1 ≤ 1) := takeRecordEffect_begins (s := popRequest l s) hlen hn hmode
      (show (s.take n).state = .empty by rw [hempty]) (fun m => not_or.mpr (hidle m)) hfree
    have hempty' : (popRequest l s).take n = {} := hempty
    have hfree' : lowestFree (popRequest l s) = some b := hfree
    refine ⟨fun hmode => ?armed, fun hmode => ?immediate⟩
    case armed =>
      rw [exec_takeRecord h, hbegins (by omega), hmode, beginRecording_eq, recordingOpened_eq hempty' hfree']
      rfl
    case immediate =>
      rw [exec_takeRecord h, hbegins (by omega), hmode, beginRecording_eq]
      exact ⟨_, rfl, startTake_opened hempty' hfree'⟩
  case second =>
    have hsecond := secondDue_of hrun hrec hdue
    show execRecorderSecondStep s = _
    rw [execRecorderSecondStep, hsecond]

end Sys2Proof.Machine
end

section
namespace Sys2Proof.Machine

variable {s t : State} {n m : TakeNo} {b : Block} {l : Link} {args : List Byte}

/-! ## TAKE STOP and LOAD END (R136, R138) -/

theorem exec_takeStop (h : headRequest l s = some (kTakeStop, args)) : exec (.takeStop l) s =
    .next (putReply l kTakeStop (takeStopEffect args (popRequest l s)).2 (takeStopEffect args (popRequest l s)).1) :=
  congrArg Host.Outcome.next (serve_taken _ h)

theorem exec_loadEnd (h : headRequest l s = some (kLoadEnd, args)) : exec (.loadEnd l) s =
    .next (putReply l kLoadEnd (loadEndEffect args (popRequest l s)).2 (loadEndEffect args (popRequest l s)).1) :=
  congrArg Host.Outcome.next (serve_taken _ h)

/-- The take that the recorder names is stopped. -/
theorem takeStopEffect_stops (h : s.tks.recorder.names = some n) : takeStopEffect args s = stopRecording n s := by
  unfold takeStopEffect
  split <;> rename_i hr <;> rw [hr] at h
  · cases h
  · rw [Option.some.inj h]
  · rw [Option.some.inj h]

theorem stopRecording_eq : stopRecording n s =
    done (takeStateRaised (endRecording n (recorderIdled s)))
      [byteOf n.val, byteOf ((endRecording n (recorderIdled s)).take n).state.code] := rfl

theorem closeTake_state : ((closeTake n s).take n).state = .closed := by rw [closeTake, State.take_onTake_same]

/-- A recording that holds more than its snapshot is closed. -/
theorem stopRecording_closes (h : 3 < (s.take n).count) :
    stopRecording n s = done (takeStateRaised (closeTake n (recorderIdled s))) [byteOf n.val, 3] := by
  have hclosed : endRecording n (recorderIdled s) = closeTake n (recorderIdled s) := if_pos h
  rw [stopRecording_eq, hclosed, closeTake_state]
  rfl

/-- A recording that holds no more than its snapshot is emptied. -/
theorem stopRecording_empties (h : (s.take n).count ≤ 3) :
    stopRecording n s = done (takeStateRaised (emptyTake n (recorderIdled s))) [byteOf n.val, 0] := by
  have hemptied : endRecording n (recorderIdled s) = emptyTake n (recorderIdled s) := if_neg (Nat.not_lt.mpr h)
  rw [stopRecording_eq, hemptied, emptyTake_take_same]
  rfl

/-- A take of one block is emptied. -/
theorem emptyTake_single (h : takeChain s n = [b]) :
    emptyTake n s = onTks (fun k => { k with blocks := k.blocks.set b .free, dir := k.dir.set n {} }) s := by
  have hblocks : Vector.ofFn (fun c => if [b].contains c then BlockEntry.free else s.tks.blocks[c]) =
      s.tks.blocks.set b .free := by
    ext i hi
    have hset := getElem_set_fin s.tks.blocks b ⟨i, hi⟩ .free
    simpa [Fin.ext_iff] using hset.symm
  simp only [emptyTake, h, onTake, onTks, hblocks, vmodify]

/-- A take that owns nothing is emptied. -/
theorem emptyTake_of_nil (h : takeChain s n = []) : emptyTake n s = onTake n (fun _ => {}) s := by
  have hblocks : Vector.ofFn (fun c => if ([] : List Block).contains c then BlockEntry.free else s.tks.blocks[c]) =
      s.tks.blocks := by
    ext i hi
    simp
  simp only [emptyTake, h, onTake, onTks, hblocks]

/-- The loading of a LOADING take ends. -/
theorem loadEndEffect_ends (hlen : 1 ≤ args.length) (hn : byteAt args 0 = n.val) (hloading : (s.take n).state = .loading) :
    loadEndEffect args s = done (takeStateRaised (endLoading n s)) [byteOf ((endLoading n s).take n).state.code] := by
  simp only [loadEndEffect, needs_enough _ hlen, takeArg_of_byteAt hn, hloading, ne_eq, not_true_eq_false, if_false]
  rfl

/-- Settles O37: each end by what the take holds. -/
theorem stopAndLoadEndClose : Obligations.StopAndLoadEndClose := by
  refine fun l args n s => ⟨fun h hn hcount => ?stopClosed, fun b h hn hcount hfirst hlast => ?stopEmptied,
    fun h hlen hn hloading hcount => ?loadClosed, fun h hlen hn hloading hcount hfirst => ?loadEmptied⟩
  case stopClosed =>
    rw [exec_takeStop h, takeStopEffect_stops (s := popRequest l s) hn, stopRecording_closes (s := popRequest l s) hcount]
    rfl
  case stopEmptied =>
    have hchain : takeChain (recorderIdled (popRequest l s)) n = [b] := takeChain_single hfirst hlast
    rw [exec_takeStop h, takeStopEffect_stops (s := popRequest l s) hn, stopRecording_empties (s := popRequest l s) hcount,
      emptyTake_single hchain]
    rfl
  case loadClosed =>
    have hclosed : endLoading n (popRequest l s) = closeTake n (popRequest l s) := if_pos hcount
    rw [exec_loadEnd h, loadEndEffect_ends (s := popRequest l s) hlen hn hloading, hclosed, closeTake_state]
    rfl
  case loadEmptied =>
    have hemptied : endLoading n (popRequest l s) = emptyTake n (popRequest l s) :=
      if_neg (by rw [show ((popRequest l s).take n).count = 0 from hcount]; decide)
    have hnone : takeChain (popRequest l s) n = [] := takeChain_eq_nil_iff.mpr hfirst
    rw [exec_loadEnd h, loadEndEffect_ends (s := popRequest l s) hlen hn hloading, hemptied,
      emptyTake_take_same, emptyTake_of_nil hnone]
    rfl

/-! ## TAKE KEEP, TAKE UNKEEP and TAKE ERASE (R139, R140) -/

theorem exec_takeKeep (h : headRequest l s = some (kTakeKeep, args)) : exec (.takeKeep l) s =
    .next (putReply l kTakeKeep (keepEffect l true args (popRequest l s)).2 (keepEffect l true args (popRequest l s)).1) :=
  congrArg Host.Outcome.next (serve_taken _ h)

theorem exec_takeUnkeep (h : headRequest l s = some (kTakeUnkeep, args)) : exec (.takeUnkeep l) s =
    .next (putReply l kTakeUnkeep (keepEffect l false args (popRequest l s)).2 (keepEffect l false args (popRequest l s)).1) :=
  congrArg Host.Outcome.next (serve_taken _ h)

theorem exec_takeErase (h : headRequest l s = some (kTakeErase, args)) : exec (.takeErase l) s =
    .next (putReply l kTakeErase (takeEraseEffect args (popRequest l s)).2 (takeEraseEffect args (popRequest l s)).1) :=
  congrArg Host.Outcome.next (serve_taken _ h)

/-- The kept flag set or cleared by the PANEL link; TAKE_STATE when it changes (R139). -/
theorem keepEffect_panel {keep : Bool} (hpanel : s.roles.panel = some l) (hlen : 1 ≤ args.length) (hn : byteAt args 0 = n.val)
    (hstate : (s.take n).state ≠ .empty) : keepEffect l keep args s =
      if (s.take n).kept = keep then done s else done (takeStateRaised (onTake n (fun e => { e with kept := keep }) s)) := by
  have hholds : holdsPanel s l = true := by simp [holdsPanel, hpanel]
  simp only [keepEffect, hholds, if_true, needs_enough _ hlen, takeArg_of_byteAt hn, if_neg hstate]

/-- What TAKE ERASE does to a take that is neither being written nor played, by the order of its tests (R140). -/
theorem takeEraseEffect_eq (hlen : 1 ≤ args.length) (hn : byteAt args 0 = n.val) (hopen : ¬(s.take n).open_)
    (hplayed : ∀ ss, s.ply.session = some ss → ss.take ≠ n) : takeEraseEffect args s =
      if (s.take n).kept then refuse .guarded s
      else if (s.take n).state = .empty then done s
      else done (takeStateRaised (emptyTake n s)) := by
  have hopen' : ¬((s.take n).state = .recording ∨ (s.take n).state = .loading) := hopen
  simp only [takeEraseEffect, needs_enough _ hlen, takeArg_of_byteAt hn, if_neg hopen', playerNames_eq_false.mpr hplayed,
    Bool.false_eq_true, if_false]

/-- Settles O39: the flag by what it was, the erasure by its tests. -/
theorem keepAndErase : Obligations.KeepAndErase := by
  intro l args n s hlen hn
  have hkeep (keep : Bool) (hpanel : s.roles.panel = some l) (hstate : (s.take n).state ≠ .empty) :=
    keepEffect_panel (s := popRequest l s) (keep := keep) hpanel hlen hn hstate
  have herase (hopen : ¬(s.take n).open_) (hplayed : ∀ ss, s.ply.session = some ss → ss.take ≠ n) :=
    takeEraseEffect_eq (s := popRequest l s) hlen hn hopen hplayed
  have hflag : ((popRequest l s).take n).kept = (s.take n).kept := rfl
  have hentry : (popRequest l s).take n = s.take n := rfl
  refine ⟨fun h hpanel hstate hk => ?set, fun h hpanel hstate hk => ?already, fun h hpanel hstate hk => ?cleared,
    fun h hclosed hk hplayed => ?erased, fun h hclosed hk hplayed => ?guarded, fun h hempty hplayed => ?nothing⟩
  case set =>
    rw [exec_takeKeep h, hkeep true hpanel hstate, hflag, hk, if_neg (by decide)]
    rfl
  case already =>
    rw [exec_takeKeep h, hkeep true hpanel hstate, hflag, hk, if_pos rfl]
    rfl
  case cleared =>
    rw [exec_takeUnkeep h, hkeep false hpanel hstate, hflag, hk, if_neg (by decide)]
    rfl
  case erased =>
    have hstate : ((popRequest l s).take n).state ≠ .empty := by simp [hentry, hclosed]
    rw [exec_takeErase h, herase (TakeEntry.not_open_of_closed hclosed) hplayed, hflag, hk, if_neg (by decide), if_neg hstate]
    refine ⟨_, rfl, emptyTake_store n, emptyTake_take_same n, fun u hu => emptyTake_take_ne hu, emptyTake_mem n _,
      emptyTake_recorder, fun b => emptyTake_blocks_eq b⟩
  case guarded =>
    rw [exec_takeErase h, herase (TakeEntry.not_open_of_closed hclosed) hplayed, hflag, hk, if_pos rfl]
    rfl
  case nothing =>
    rw [exec_takeErase h, herase (by simp [hempty, TakeEntry.open_]) hplayed, hentry, hempty, if_neg (by decide), if_pos rfl]
    rfl

end Sys2Proof.Machine
end

section
namespace Sys2Proof.Machine

variable {s t : State} {n m : TakeNo} {l : Link} {args : List Byte} {rs : List TakeRec}

/-! ## TAKE LOAD and WRITE TAKE RECORDS (R137) -/

theorem exec_takeLoad (h : headRequest l s = some (kTakeLoad, args)) : exec (.takeLoad l) s =
    .next (putReply l kTakeLoad (takeLoadEffect args (popRequest l s)).2 (takeLoadEffect args (popRequest l s)).1) :=
  congrArg Host.Outcome.next (serve_taken _ h)

theorem exec_writeTakeRecords (h : headRequest l s = some (kWriteTakeRecords, args)) : exec (.writeTakeRecords l) s =
    .next (putReply l kWriteTakeRecords (writeTakeRecordsEffect args (popRequest l s)).2
      (writeTakeRecordsEffect args (popRequest l s)).1) :=
  congrArg Host.Outcome.next (serve_taken _ h)

/-- An EMPTY take is opened for loading while none is being written. -/
theorem takeLoadEffect_opens (hlen : 3 ≤ args.length) (hn : byteAt args 0 = n.val) (hempty : (s.take n).state = .empty)
    (hidle : ∀ m, ¬(s.take m).open_) :
    takeLoadEffect args s = done (takeStateRaised (takeOpened n .loading (word16At args 1) s)) := by
  simp only [takeLoadEffect, needs_enough _ hlen, takeArg_of_byteAt hn, hempty, ne_eq, not_true_eq_false, if_false,
    takeBusy_eq_false.mpr hidle, Bool.false_eq_true]
  rfl

/-- A batch that fits is appended to a LOADING take. -/
theorem writeTakeRecordsEffect_appends (hlen : 1 ≤ args.length) (hn : byteAt args 0 = n.val)
    (hloading : (s.take n).state = .loading) (hrs : takeRecsAt args 1 ((args.length - 1) / 4) = some rs)
    (htime : (s.take n).duration + (rs.map TakeRec.ms).sum ≤ 4294967295) (hroom : rs.length ≤ takeRoom s n) :
    writeTakeRecordsEffect args s =
      done (appendRecords n rs s) (le16 ((s.take n).count + rs.length)) := by
  have htime' : ¬Config.maxDuration < (s.take n).duration + batchMs rs := Nat.not_lt.mpr htime
  simp only [writeTakeRecordsEffect, needs_enough _ hlen, takeArg_of_byteAt hn, hloading, ne_eq, not_true_eq_false, if_false,
    hrs, if_neg htime', if_neg (Nat.not_lt.mpr hroom), (appendRecords_entryGrown n rs s).count]

/-- Each appended record stands at its place behind those held (R124). -/
theorem Appended.recordAt (hs : BlocksSound s) (h : Appended n rs s t) {i : Nat} {r : TakeRec} (hi : rs[i]? = some r) :
    ∃ a, recordAddr t n ((s.take n).count + i) = some a ∧ t.tks.mem.read a = some r := by
  have hlt : i < rs.length := (List.getElem?_eq_some_iff.mp hi).choose
  have hheld := h.sound.records_length n
  have hcount := h.count hs
  have hread : Sys2Proof.Machine.recordAt t n ((s.take n).count + i) = some r := by
    rw [← takeRecords_getElem? hheld (by omega), h.records, ← hs.records_length n,
      List.getElem?_append_right (Nat.le_add_right _ _), Nat.add_sub_cancel_left, hi]
  exact Option.bind_eq_some_iff.mp hread

/-- Settles O38: the batch by what appended records make of the entry and, in a sound store, of its chain and records. -/
theorem loadingAppendsBatches : Obligations.LoadingAppendsBatches := by
  refine fun l args n s => ⟨fun h hlen hn hempty hidle => ?opened, fun rs h hlen hn hloading hrs htime hroom => ?appended⟩
  case opened =>
    rw [exec_takeLoad h, takeLoadEffect_opens (s := popRequest l s) hlen hn hempty fun m => not_or.mpr (hidle m)]
    rfl
  case appended =>
    have hgrown := appendRecords_entryGrown n rs (popRequest l s)
    have happended (hs : TakesSound s) : Appended n rs (popRequest l s) (appendRecords n rs (popRequest l s)) :=
      appendRecords_appended (hs.of_tks rfl (.of_eq rfl)).blocksSound
        (by simp [show ((popRequest l s).take n).state = _ from hloading]) hroom
    rw [exec_writeTakeRecords h, writeTakeRecordsEffect_appends (s := popRequest l s) hlen hn hloading hrs htime hroom]
    refine ⟨_, rfl, hgrown.store, hgrown.count, hgrown.duration, hgrown.strikes, hgrown.state.trans hloading, hgrown.recorder,
      hgrown.others, fun hs => (happended hs).places, fun hs => ⟨(happended hs).records, (happended hs).chain,
        fun u hu => ?_, ?_⟩⟩
    · obtain ⟨hchain, hrecords⟩ := (happended hs).others u hu
      exact ⟨hrecords, hchain⟩
    · exact fun i r hi => Appended.recordAt (s := popRequest l s) (hs.of_tks rfl (.of_eq rfl)).blocksSound (happended hs) hi

/-! ## The records of a gap (R128) -/

/-- A PAUSE whose fields fit. -/
def TakeRec.isPause (p : TakeRec) : Prop := p.kind = .pause ∧ p.key = 0 ∧ p.value ≤ 1023 ∧ p.delta ≤ 2047

theorem longPause_isPause : longPause.isPause := by simp [TakeRec.isPause, longPause]

/-- What is left of a gap behind its longest PAUSEs (R128). -/
def gapRest (gap : Nat) : Nat := gap - (gap - 1) / 2097151 * 2097151

/-- What is left is a PAUSE at most. -/
theorem gapRest_le (gap : Nat) : gapRest gap ≤ 2097151 := by
  unfold gapRest
  omega

theorem gapRest_add (gap : Nat) : (gap - 1) / 2097151 * 2097151 + gapRest gap = gap := by
  unfold gapRest
  omega

/-- A gap that fits into one PAUSE has no longest one. -/
theorem gapRest_of_le {gap : Nat} (h : gap ≤ 2097151) : (gap - 1) / 2097151 = 0 ∧ gapRest gap = gap := by
  unfold gapRest
  omega

/-- The PAUSE that takes up what a delta cannot. -/
def restPauses (rest : Nat) : List TakeRec :=
  if rest ≤ 2047 then [] else [{ kind := .pause, key := 0, value := rest / 2048, delta := rest % 2048 }]

/-- The delta of the event's own record. -/
def restDelta (rest : Nat) : Nat := if rest ≤ 2047 then rest else 0

theorem recordsForGap_eq (gap : Nat) (kind : TakeKind) (key : Key) (value : Nat) : recordsForGap gap kind key value =
    (List.replicate ((gap - 1) / 2097151) longPause ++ restPauses (gapRest gap))
      ++ [{ kind := kind, key := key, value := value, delta := restDelta (gapRest gap) }] := by
  unfold recordsForGap
  dsimp only
  rw [← gapRest, restPauses, restDelta]
  split_ifs
  · rw [List.append_nil]
  · rw [List.append_assoc]
    rfl

theorem restDelta_le (rest : Nat) : restDelta rest ≤ 2047 := by
  unfold restDelta
  split
  · assumption
  · exact Nat.zero_le _

theorem restPauses_isPause {rest : Nat} (hrest : rest ≤ 2097151) {p : TakeRec} (hp : p ∈ restPauses rest) : p.isPause := by
  unfold restPauses at hp
  split at hp
  · cases hp
  · obtain ⟨hvalue, hdelta⟩ : rest / 2048 ≤ 1023 ∧ rest % 2048 ≤ 2047 := by omega
    rw [List.mem_singleton.mp hp]
    exact ⟨rfl, rfl, hvalue, hdelta⟩

/-- Pause and delta together stand for the rest. -/
theorem restPauses_sum (rest : Nat) : ((restPauses rest).map TakeRec.ms).sum + restDelta rest = rest := by
  unfold restPauses restDelta
  split
  · exact Nat.zero_add _
  · have hparts : rest / 2048 * 2048 + rest % 2048 = rest := by omega
    simpa [TakeRec.ms] using hparts

theorem gapPauses_isPause {gap : Nat} {p : TakeRec}
    (hp : p ∈ List.replicate ((gap - 1) / 2097151) longPause ++ restPauses (gapRest gap)) : p.isPause := by
  rcases List.mem_append.mp hp with hp | hp
  · exact List.eq_of_mem_replicate hp ▸ longPause_isPause
  · exact restPauses_isPause (gapRest_le gap) hp

theorem longPause_ms : longPause.ms = 2097151 := by simp [longPause, TakeRec.ms]

theorem longPauses_sum (n : Nat) : ((List.replicate n longPause).map TakeRec.ms).sum = n * 2097151 := by
  rw [List.map_replicate, List.sum_replicate, longPause_ms, smul_eq_mul]

/-- A record other than a PAUSE stands for its delta. -/
theorem TakeRec.ms_of_ne_pause {r : TakeRec} (h : r.kind ≠ .pause) : r.ms = r.delta := if_neg h

/-- The records of a gap stand for the gap. -/
theorem recordsForGap_sum {kind : TakeKind} (hkind : kind ≠ .pause) (gap : Nat) (key : Key) (value : Nat) :
    ((recordsForGap gap kind key value).map TakeRec.ms).sum = gap := by
  rw [recordsForGap_eq, List.map_append, List.sum_append, List.map_append, List.sum_append, longPauses_sum,
    List.map_singleton, List.sum_singleton, TakeRec.ms_of_ne_pause hkind, Nat.add_assoc, restPauses_sum, gapRest_add]

/-- A gap that fits into a delta has no pauses. -/
theorem recordsForGap_of_le {gap : Nat} (h : gap ≤ 2047) (kind : TakeKind) (key : Key) (value : Nat) :
    recordsForGap gap kind key value = [{ kind := kind, key := key, value := value, delta := gap }] := by
  obtain ⟨hnone, hrest⟩ := gapRest_of_le (gap := gap) (by omega)
  rw [recordsForGap_eq, hnone, hrest, restPauses, restDelta, if_pos h, if_pos h]
  rfl

/-! ## The recorder (R129 to R135) -/

theorem recorderEvent_recording {e : Event} {r : RecInfo} (hrec : s.tks.recorder = .recording n r) :
    recorderEvent e s = if e.source = .live then recordLive n r e s else s := by
  simp only [recorderEvent, hrec]

theorem recordOf_key {struck : KeySet} {e : Event} {k : Key} (hk : e.key = some k.val) :
    (e.kind = .strike ∨ e.kind = .restrike → recordOf struck e = some (.strike, k, e.value))
      ∧ (e.kind = .release → recordOf struck e = if struck.has k then some (.release, k, e.value) else none) := by
  have hfin : e.key.bind (finOf 88) = some k := by rw [hk, Option.bind_some, finOf_val]
  refine ⟨?_, fun h => ?_⟩
  · rintro (h | h) <;> simp only [recordOf, h, hfin, Option.map_some]
  · simp only [recordOf, h, hfin, Option.bind_some]

/-- The recorder's part is set and a record that fits is appended (R132 to R134). -/
theorem recordLive_appends {e : Event} {r : RecInfo} {kind : TakeKind} {key : Key} {value : Nat}
    (hw : recordOf r.struck e = some (kind, key, value))
    (hroom : (recordsForGap ((r.forward e.time).position / 1000 - (s.take n).duration) kind key value).length ≤ takeRoom s n)
    (htime : (r.forward e.time).position / 1000 ≤ 4294967295) : recordLive n r e s =
      appendRecords n (recordsForGap ((r.forward e.time).position / 1000 - (s.take n).duration) kind key value)
        (recorderRuns n (r.recorded e.time kind key) s) := by
  rw [recordLive_of_some hw]
  exact if_pos ⟨hroom, htime⟩

/-- What does not fit is not written, and the take is closed truncated (R134, R135). -/
theorem recordLive_truncates {e : Event} {r : RecInfo} {kind : TakeKind} {key : Key} {value : Nat}
    (hw : recordOf r.struck e = some (kind, key, value))
    (hfull : takeRoom s n < (recordsForGap ((r.forward e.time).position / 1000 - (s.take n).duration) kind key value).length
      ∨ 4294967295 < (r.forward e.time).position / 1000) : recordLive n r e s =
      raiseAll .takeState (reportFault .takeFull (onTks (fun k =>
        { k with recorder := .idle, dir := k.dir.set n { s.take n with state := .closed, truncated := true } }) s)) := by
  rw [recordLive_of_some hw]
  refine (if_neg fun hfits => ?_).trans rfl
  obtain ⟨hroom, htime⟩ := hfits
  rcases hfull with hfull | hfull
  · exact absurd hroom (Nat.not_le.mpr hfull)
  · exact absurd htime (Nat.not_le.mpr hfull)

/-- ARMED, the recorder starts its take at a live strike and takes the strike up (R131). -/
theorem recorderEvent_armed {e : Event} (hrec : s.tks.recorder = .armed n) (hlive : e.source = .live)
    (hkind : e.kind = .strike ∨ e.kind = .restrike) :
    recorderEvent e s = raiseAll .takeState (recordLive n (.started e.time) e (startTake n e.time s)) := by
  simp only [recorderEvent, if_pos hlive, hrec, if_pos hkind, startTake_recorder]

/-- No time passes from a start to the strike that makes it. -/
theorem RecInfo.forward_started (start : Clock) : (RecInfo.started start).forward start = .started start := by
  simp [RecInfo.forward, RecInfo.started, reached, elapsed]

/-- The recorder's fields play no part in the block table. -/
theorem recorderRuns_blocksSound {r : RecInfo} (h : BlocksSound s) : BlocksSound (recorderRuns n r s) :=
  h.congr rfl rfl (fun _ => rfl) (fun _ => rfl) fun _ => h.empty

theorem Appended.of_recorderRuns {r : RecInfo} (h : Appended n rs (recorderRuns n r s) t) : Appended n rs s t :=
  ⟨h.sound, h.chain, h.records, h.others, h.places, h.room, h.state⟩

/-- The snapshot behind the records of an ARMED take (R131). -/
theorem startTake_appended {start : Clock} (hs : TakesSound s) (hrec : s.tks.recorder = .armed n) :
    Appended n (snapshotRecords s) s (startTake n start s) := by
  obtain ⟨hcount, hchain⟩ := hs.armed hrec
  have hstate := hs.recording (Recorder.names_of_armed hrec)
  have hroom := takeRoom_of_block hcount hchain
  have h : Appended n (snapshotRecords s) (recorderRuns n (.started start) s) (startTake n start s) :=
    appendRecords_appended (recorderRuns_blocksSound hs.blocksSound) (by rw [recorderRuns_take, hstate]; decide)
      (le_trans (show 3 ≤ 256 by decide) hroom)
  exact h.of_recorderRuns

theorem snapshotRecords_length : (snapshotRecords s).length = 3 := rfl

/-- A start's position is its first moment. -/
theorem RecInfo.started_gap (start : Clock) (d : Nat) : ((RecInfo.started start).forward start).position / 1000 - d = 0 := by
  rw [RecInfo.forward_started, RecInfo.started, Nat.zero_div, Nat.zero_sub]

/-- A take's first strike is its record behind those held, with no time since the start. -/
theorem recordLive_started {e : Event} {k : Key} (hs : BlocksSound s) (hstate : (s.take n).state ≠ .empty)
    (hroom : 1 ≤ takeRoom s n) (hkind : e.kind = .strike ∨ e.kind = .restrike) (hk : e.key = some k.val) :
    (recordLive n (.started e.time) e s).tks.recorder = .recording n ((RecInfo.started e.time).recorded e.time .strike k)
      ∧ takeRecords (recordLive n (.started e.time) e s) n =
        takeRecords s n ++ [{ kind := .strike, key := k, value := e.value, delta := 0 }] := by
  have hgap : recordsForGap (((RecInfo.started e.time).forward e.time).position / 1000 - (s.take n).duration) .strike k e.value =
      [{ kind := .strike, key := k, value := e.value, delta := 0 }] := by
    rw [RecInfo.started_gap, recordsForGap_of_le (Nat.zero_le _)]
  have htime : ((RecInfo.started e.time).forward e.time).position / 1000 ≤ 4294967295 := by
    rw [RecInfo.forward_started, RecInfo.started, Nat.zero_div]
    exact Nat.zero_le _
  rw [recordLive_appends ((recordOf_key hk).1 hkind) (by rwa [hgap]) htime, hgap]
  exact ⟨(appendRecords_entryGrown _ _ _).recorder,
    (appendRecords_appended (rs := [_]) (recorderRuns_blocksSound hs) (by rwa [recorderRuns_take]) hroom).records⟩

/-- At an ARMED recorder's strike the take holds the pedal snapshot and the strike (R131). -/
theorem recorderEvent_starts {e : Event} {k : Key} (hs : TakesSound s) (hrec : s.tks.recorder = .armed n)
    (hlive : e.source = .live) (hkind : e.kind = .strike ∨ e.kind = .restrike) (hk : e.key = some k.val) :
    (recorderEvent e s).tks.recorder = .recording n ((RecInfo.started e.time).recorded e.time .strike k)
      ∧ takeRecords (recorderEvent e s) n =
        snapshotRecords s ++ [{ kind := .strike, key := k, value := e.value, delta := 0 }] := by
  obtain ⟨hcount, hchain⟩ := hs.armed hrec
  have hstarted := startTake_appended (start := e.time) hs hrec
  have hrecords : takeRecords s n = [] := List.eq_nil_of_length_eq_zero ((hs.blocksSound.records_length n).trans hcount)
  have hroom : 256 ≤ takeRoom (startTake n e.time s) n + 3 := by
    rw [← snapshotRecords_length (s := s), hstarted.room]
    exact takeRoom_of_block hcount hchain
  have hstate : ((startTake n e.time s).take n).state ≠ .empty := by
    rw [hstarted.state, hs.recording (Recorder.names_of_armed hrec)]
    decide
  have hsnapshot : takeRecords (startTake n e.time s) n = snapshotRecords s := by
    rw [hstarted.records, hrecords, List.nil_append]
  have hstrike := recordLive_started hstarted.sound hstate (by omega) hkind hk
  rw [hsnapshot] at hstrike
  rw [recorderEvent_armed hrec hlive hkind]
  exact hstrike

theorem RecInfo.forward_eq (r : RecInfo) (time : Clock) : r.forward time =
    if elapsed time r.mark < 2147483648 then { r with position := r.position + elapsed time r.mark, mark := time } else r := by
  simp only [RecInfo.forward, reached, decide_eq_true_eq]

/-- ARMED, nothing but a strike starts the take (R131). -/
theorem recorderEvent_armed_other {e : Event} (hrec : s.tks.recorder = .armed n)
    (hkind : ¬(e.kind = .strike ∨ e.kind = .restrike)) :
    recorderEvent e s = s := by
  simp only [recorderEvent, hrec, if_neg hkind, ite_self]

/-- Settles O40: the records of a gap by their sum, what each event writes by its kind, and the recorder by what appended
records make of its take. -/
theorem pauseRecordsCoverGap : Obligations.PauseRecordsCoverGap := by
  refine ⟨fun gap kind key value hkind => ⟨recordsForGap_sum hkind gap key value, ?gap⟩, fun struck e k _ => ?event,
    fun e n r s hrec => ?recording, fun e n s hrec => ?armed⟩
  case gap =>
    refine ⟨_, _, recordsForGap_eq gap kind key value, restDelta_le _, fun h => ?_, fun hlong h => ?_,
      fun p hp => gapPauses_isPause hp⟩
    · obtain ⟨hnone, hrest⟩ := gapRest_of_le (gap := gap) (by omega)
      rw [hnone, hrest, restPauses, restDelta, if_pos h, if_pos h]
      exact ⟨rfl, rfl⟩
    · rw [(gapRest_of_le h).2, restDelta, if_neg (Nat.not_le.mpr hlong)]
  case event =>
    refine ⟨fun hk => (recordOf_key hk).1, fun hk => (recordOf_key hk).2, fun h => ?_, fun h => ?_, fun h => ?_, ?_⟩
    · simp only [recordOf, h]
    · simp only [recordOf, h]
    · simp only [recordOf, h]
    · rintro (h | h | h | h) <;> simp only [recordOf, h]
  case recording =>
    refine ⟨fun h => ?none, fun kind key value hlive hw => ?some⟩
    case none =>
      rcases h with h | h
      · exact recorderEvent_playback e h
      · rw [recorderEvent_recording hrec, recordLive_of_none h, ite_self]
    case some =>
      rw [← RecInfo.forward_eq, recorderEvent_recording hrec, if_pos hlive]
      refine ⟨fun hroom htime => ?appended, recordLive_truncates hw⟩
      rw [recordLive_appends hw hroom htime]
      have hgrown := appendRecords_entryGrown n
        (recordsForGap ((r.forward e.time).position / 1000 - (s.take n).duration) kind key value)
        (recorderRuns n (r.recorded e.time kind key) s)
      refine ⟨hgrown.recorder, hgrown.store, hgrown.count, hgrown.duration, hgrown.strikes, hgrown.others, fun hs => ?_⟩
      have happended := appendRecords_appended
        (recorderRuns_blocksSound (n := n) (r := r.recorded e.time kind key) hs.blocksSound)
        (by rw [recorderRuns_take, hs.recording (Recorder.names_of_recording hrec)]; decide) hroom
      exact ⟨happended.records, fun u hu => (happended.others u hu).2⟩
  case armed =>
    refine ⟨fun k hs hlive hkind hk => ?_, fun h => ?_⟩
    · obtain ⟨hrecorder, hrecords⟩ := recorderEvent_starts hs hrec hlive hkind hk
      exact ⟨hrecorder.trans (by rw [RecInfo.recorded, RecInfo.forward_started]; rfl), hrecords⟩
    · rcases h with h | ⟨hstrike, hrestrike⟩
      · exact recorderEvent_playback e h
      · exact recorderEvent_armed_other hrec (not_or.mpr ⟨hstrike, hrestrike⟩)

end Sys2Proof.Machine
end

section
namespace Sys2Proof.Machine

variable {s : State}

/-! ## A commit cut off by power loss (R188, R190) -/

theorem RegionState.cutOff_of_none {α : Type} {r : RegionState α} (h : r.commit = none) (k : Nat) : r.cutOff k = r := by
  simp only [RegionState.cutOff, h]

theorem RegionState.cutOff_commit {α : Type} (r : RegionState α) (k : Nat) : (r.cutOff k).commit = none := by
  unfold RegionState.cutOff
  split
  · rfl
  · assumption

theorem cutCommits_factory (h : s.cst.factory.commit = none) : (cutCommits s).cst.factory = s.cst.factory :=
  RegionState.cutOff_of_none h _

theorem cutCommits_user (h : s.cst.user.commit = none) : (cutCommits s).cst.user = s.cst.user :=
  RegionState.cutOff_of_none h _

/-! ## A region that loads (R189) -/

theorem RegionState.load_of_passes {α : Type} {r : RegionState α} (h : r.stored.passes = true) (d : α) :
    (r.load d).working = r.stored.contents ∧ (r.load d).modified = false := by
  simp only [RegionState.load, h, if_true, Bool.not_true, and_self]

theorem RegionState.load_of_fails {α : Type} {r : RegionState α} (h : r.stored.passes = false) (d : α) :
    (r.load d).working = d ∧ (r.load d).modified = true := by
  simp only [RegionState.load, h, Bool.false_eq_true, if_false, Bool.not_false, and_self]

/-! ## What the loading reports (R189) -/

/-- CAL_INVALID as the device's first fault stays it. -/
def CalInvalidFirst (s : State) : Prop := s.faults.flags.getLsbD 9 = true ∧ s.faults.first = some .calInvalid

theorem reportInvalid_first (h : s.faults.first = none) : CalInvalidFirst (reportInvalid false s) :=
  ⟨reportFault_own_flag .calInvalid, congrArg (·.or (some FaultKind.calInvalid)) h⟩

theorem reportInvalid_keeps_first (h : CalInvalidFirst s) (passes : Bool) : CalInvalidFirst (reportInvalid passes s) := by
  obtain ⟨hflag, hfirst⟩ := h
  cases passes with
  | true => exact ⟨hflag, hfirst⟩
  | false => exact ⟨reportFault_own_flag .calInvalid, congrArg (·.or (some FaultKind.calInvalid)) hfirst⟩

/-- Beside what it reports, the loading sets the phase and the two regions. -/
theorem loadRegions_only : ReportOnly (onCst Cst.load { s with phase := .loading }) (loadRegions s) :=
  (reportInvalid_only _).trans (reportInvalid_only _)

theorem loadRegions_blocks : (loadRegions s).phase = .loading ∧ (loadRegions s).resetnLow = s.resetnLow
    ∧ (loadRegions s).cst = s.cst.load := by
  obtain ⟨_, _, h⟩ := loadRegions_only (s := s)
  rw [h]
  exact ⟨rfl, rfl, rfl⟩

/-- Images that pass are loaded with nothing to report. -/
theorem loadRegions_of_passes (hfactory : s.cst.factory.stored.passes = true) (huser : s.cst.user.stored.passes = true) :
    loadRegions s = onCst Cst.load { s with phase := .loading } := by
  simp only [loadRegions, hfactory, huser]
  rfl

theorem loadRegions_of_factory_fails (hfactory : s.cst.factory.stored.passes = false) (h : s.faults.first = none) :
    CalInvalidFirst (loadRegions s) := by
  have hfirst := reportInvalid_first (s := onCst Cst.load { s with phase := .loading }) h
  rw [loadRegions, hfactory]
  exact reportInvalid_keeps_first hfirst _

/-! ## The commands (R189, R190) -/

theorem exec_powerOnReset (h : s.resetnLow = false) : exec .powerOnReset s = .next (loadRegions (coldBlocks (cutCommits s))) :=
  congrArg Host.Outcome.next (if_neg (by simp [show (coldBlocks (cutCommits s)).resetnLow = _ from h]))

/-- With RESETn low a power-on reset waits (R190). -/
theorem exec_powerOnReset_held (h : s.resetnLow = true) :
    exec .powerOnReset s = .next { coldBlocks (cutCommits s) with phase := .heldInReset } :=
  congrArg Host.Outcome.next (if_pos h)

theorem exec_regionsLoaded (h : s.phase = .loading) : exec .regionsLoaded s = .next (startFrame (takeUp s)) :=
  congrArg Host.Outcome.next (if_pos h)

/-- RESETn going low is a reset cause on a part at work (R190). -/
theorem exec_resetnLow (hhigh : s.resetnLow = false) (hrunning : s.phase = .running) (hnone : s.sysReset = .none) :
    exec .resetnLow s = .next (resetArrives { s with resetnLow := true }) := by
  have hacts : resetCauseActs { s with resetnLow := true } = true := by simp [resetCauseActs, hrunning, hnone]
  simp only [exec, execResetnLow, hhigh, Bool.false_eq_true, if_false, hacts, if_true]

theorem exec_resetnHigh (h : s.phase ≠ .heldInReset) : exec .resetnHigh s = .next { s with resetnLow := false } :=
  congrArg Host.Outcome.next (if_neg h)

/-- A start-up that waits for the pin goes on (R190). -/
theorem exec_resetnHigh_held (h : s.phase = .heldInReset) :
    exec .resetnHigh s = .next (loadRegions { s with resetnLow := false }) :=
  congrArg Host.Outcome.next (if_pos h)

theorem exec_powerLoss (h : s.phase ≠ .off) : exec .powerLoss s = .next { coldBlocks (cutCommits s) with phase := .off } :=
  congrArg Host.Outcome.next (if_neg h)

/-- Settles O58: start-up by whether the images pass, the other commands by their phase. -/
theorem resetCommandsAct : Obligations.ResetCommandsAct := by
  refine fun s => ⟨fun hpin hcf hcu hf hu => ?passes, fun hpin hcf hf => ?fails, fun hpin => ?waits, fun hloading => ?loaded,
    fun hpin hrunning hnone => exec_resetnLow hpin hrunning hnone, exec_resetnHigh, fun hheld => ?goesOn, fun hon => ?off⟩
  case passes =>
    have hcold : (coldBlocks (cutCommits s)).cst.factory = s.cst.factory := cutCommits_factory hcf
    have hcold' : (coldBlocks (cutCommits s)).cst.user = s.cst.user := cutCommits_user hcu
    refine ⟨_, exec_powerOnReset hpin, ?_⟩
    rw [loadRegions_of_passes (by rwa [hcold]) (by rwa [hcold'])]
    obtain ⟨hfw, hfm⟩ := RegionState.load_of_passes hf defaultFactory
    obtain ⟨huw, hum⟩ := RegionState.load_of_passes hu defaultUser
    refine ⟨rfl, rfl, rfl, rfl, rfl, rfl, rfl, rfl, rfl, rfl, ?_⟩
    simp only [onCst, Cst.load, hcold, hcold', hfw, hfm, huw, hum, hf, if_true, Bool.not_true, true_and]
    rfl
  case fails =>
    have hcold : (coldBlocks (cutCommits s)).cst.factory = s.cst.factory := cutCommits_factory hcf
    obtain ⟨hflag, hfirst⟩ := loadRegions_of_factory_fails (s := coldBlocks (cutCommits s)) (by rwa [hcold]) rfl
    obtain ⟨hphase, -, hcst⟩ := loadRegions_blocks (s := coldBlocks (cutCommits s))
    obtain ⟨hfw, hfm⟩ := RegionState.load_of_fails hf defaultFactory
    refine ⟨_, exec_powerOnReset hpin, hphase, ?_, ?_, ?_, ?_, hflag, hfirst⟩
    all_goals simp only [hcst, Cst.load, hcold, hfw, hfm, hf, Bool.false_eq_true, if_false, Bool.not_false]
  case waits => exact ⟨_, exec_powerOnReset_held hpin, rfl, rfl⟩
  case loaded =>
    refine ⟨_, exec_regionsLoaded hloading, ?_⟩
    rw [startFrame_eq]
    exact ⟨rfl, rfl, rfl, rfl, rfl, rfl⟩
  case goesOn =>
    obtain ⟨hphase, hpin, -⟩ := loadRegions_blocks (s := { s with resetnLow := false })
    exact ⟨_, exec_resetnHigh_held hheld, hpin, hphase⟩
  case off => exact ⟨_, exec_powerLoss hon, rfl, rfl, RegionState.cutOff_commit _ _, RegionState.cutOff_commit _ _⟩

end Sys2Proof.Machine
end

section
namespace Sys2Proof.Machine

variable {s t : State} {P : Ply} {A : Ajn} {ss : Session}

/-! ## What the player's operations leave (R144, R145, R149)

An operation of the player is given by the player and the journal it leaves: beside them it reaches voices, links and
the fault record. -/

/-- Player and journal are `P` and `A` after; at most the voice assigner, links and the fault record differ beside them. -/
def PlayLeft (P : Ply) (A : Ajn) (s t : State) : Prop := VoiceOnly { s with ply := P, ajn := A } t

/-- An event as the player makes it (R149). -/
def playedEvent (now : Clock) (kind : EventKind) (key : Option Nat) (value : Nat) (guide : Bool) : Event :=
  { time := now, kind := kind, source := .playback, key := key, value := value, flags := { guide := guide } }

/-- A mark of take `n` as the player makes it (R145). -/
def markEvent (now : Clock) (m : Mark) (n : TakeNo) : Event := playedEvent now .playMark (some n.val) m.code false

theorem PlayLeft.start : PlayLeft s.ply s.ajn s s := VoiceOnly.refl

theorem PlayLeft.ply (h : PlayLeft P A s t) : t.ply = P := by
  obtain ⟨_, _, _, rfl⟩ := h
  rfl

theorem PlayLeft.ajn (h : PlayLeft P A s t) : t.ajn = A := by
  obtain ⟨_, _, _, rfl⟩ := h
  rfl

theorem PlayLeft.clock (h : PlayLeft P A s t) : t.clock = s.clock := by
  obtain ⟨_, _, _, rfl⟩ := h
  rfl

theorem PlayLeft.blocks (h : PlayLeft P A s t) : t.tks = s.tks ∧ t.keys = s.keys ∧ t.pdu = s.pdu ∧ t.rlc = s.rlc := by
  obtain ⟨_, _, _, rfl⟩ := h
  exact ⟨rfl, rfl, rfl, rfl⟩

theorem PlayLeft.timedRecords (h : PlayLeft P A s t) (n : TakeNo) : timedRecords t n = timedRecords s n := by
  obtain ⟨_, _, _, rfl⟩ := h
  rfl

theorem PlayLeft.take (h : PlayLeft P A s t) (n : TakeNo) : t.take n = s.take n := by
  obtain ⟨_, _, _, rfl⟩ := h
  rfl

/-- What follows reaches voices, links and the fault record alone. -/
theorem PlayLeft.voice {u : State} (h : PlayLeft P A s t) (g : VoiceOnly t u) : PlayLeft P A s u := VoiceOnly.trans h g

theorem PlayLeft.orders {u : State} (h : PlayLeft P A s t) (g : OrdersOnly t u) : PlayLeft P A s u := h.voice g.voice

theorem PlayLeft.onPly (h : PlayLeft P A s t) (f : Ply → Ply) : PlayLeft (f P) A s (onPly f t) := by
  obtain ⟨_, _, _, rfl⟩ := h
  exact ⟨_, _, _, rfl⟩

theorem PlayLeft.onSession (h : PlayLeft P A s t) (f : Session → Session) :
    PlayLeft { P with session := P.session.map f } A s (onSession f t) := h.onPly _

theorem PlayLeft.appendEvent (h : PlayLeft P A s t) (e : Event) : PlayLeft P (A.push e) s (appendEvent e t) := by
  obtain ⟨_, _, _, rfl⟩ := h
  exact ⟨_, _, _, rfl⟩

theorem PlayLeft.playStateRaised (h : PlayLeft P A s t) : PlayLeft P A s (playStateRaised t) :=
  h.voice (raiseAll_only _).report.voice

/-! ### The values the voice assigner reads (R144) -/

/-- The player with the playback key set `S`. -/
def Ply.withKeys (S : KeySet) (p : Ply) : Ply := { p with keys := S }

/-- The player with the playback sostenuto state and set. -/
def Ply.withSost (on : Bool) (S : KeySet) (p : Ply) : Ply := { p with sostOn := on, sostSet := S }

/-- The player with the playback damper lift `x`. -/
def Ply.withDamper (x : Nat) (p : Ply) : Ply := { p with damper := x }

/-- The player with the playback soft lift `x`. -/
def Ply.withSoft (x : Nat) (p : Ply) : Ply := { p with soft := x }

theorem PlayLeft.setPlayKeys (h : PlayLeft P A s t) (S : KeySet) : PlayLeft (P.withKeys S) A s (setPlayKeys S t) :=
  (h.onPly _).orders (setPlayKeys_orders S)

theorem PlayLeft.setPlaySost (h : PlayLeft P A s t) (on : Bool) (S : KeySet) :
    PlayLeft (P.withSost on S) A s (setPlaySost on S t) := (h.onPly _).orders (setPlaySost_orders on S)

theorem PlayLeft.setPlayDamper (h : PlayLeft P A s t) (x : Nat) : PlayLeft (P.withDamper x) A s (setPlayDamper x t) :=
  (h.onPly _).orders (setPlayDamper_orders x)

theorem PlayLeft.setPlaySoft (h : PlayLeft P A s t) (x : Nat) : PlayLeft (P.withSoft x) A s (setPlaySoft x t) :=
  (h.onPly _).orders (setPlaySoft_orders x)

/-- The voices hear of a value only when it changes (R89). -/
theorem setPlaySost_same {on : Bool} {S : KeySet} (h : S = s.ply.sostSet) :
    setPlaySost on S s = onPly (fun p => { p with sostOn := on, sostSet := S }) s := if_pos h

theorem setPlayDamper_same {x : Nat} (h : x = s.ply.damper) : setPlayDamper x s = onPly (fun p => { p with damper := x }) s :=
  if_pos h

theorem setPlaySoft_same {x : Nat} (h : x = s.ply.soft) : setPlaySoft x s = onPly (fun p => { p with soft := x }) s := if_pos h

/-! ### Events and marks (R145, R149) -/

theorem PlayLeft.playbackEvent (h : PlayLeft P A s t) (kind : EventKind) (key : Option Nat) (value : Nat) (guide : Bool) :
    PlayLeft P (A.push (playedEvent s.clock kind key value guide)) s (playbackEvent kind key value guide t) := by
  have happended := (h.appendEvent (playedEvent t.clock kind key value guide)).voice
    (voiceEvent_only (playedEvent t.clock kind key value guide))
  rw [← h.clock, Sys2Proof.Machine.playbackEvent, recorderEvent_playback _ rfl]
  exact happended

theorem PlayLeft.playMark (h : PlayLeft P A s t) (m : Mark) (n : TakeNo) :
    PlayLeft P (A.push (markEvent s.clock m n)) s (playMark m n t) := h.playbackEvent _ _ _ _

/-- An event of the player that the voice assigner takes no voice for (R80, R149). -/
theorem playbackEvent_vas {kind : EventKind} {guide : Bool} (h : ¬(kind = .strike ∨ kind = .restrike) ∨ guide = true)
    (key : Option Nat) (value : Nat) : (playbackEvent kind key value guide s).vas = s.vas := by
  rw [playbackEvent, recorderEvent_playback _ rfl, voiceEvent, if_neg]
  · rfl
  · rintro ⟨hkind, hguide⟩
    exact h.elim (· hkind) fun hg => absurd (hg.symm.trans hguide) (by decide)

@[simp] theorem playMark_vas (m : Mark) (n : TakeNo) : (playMark m n s).vas = s.vas := playbackEvent_vas (.inl (by decide)) _ _

@[simp] theorem playStateRaised_vas : (playStateRaised s).vas = s.vas := rfl

/-! ### The end of playback (R151) -/

/-- The player IDLE, with its tempo, accumulator and guide settings kept (R151). -/
def Ply.ended (p : Ply) : Ply :=
  { p with
    session := none, loop := none, expected := KeySet.empty, limit := none, keys := KeySet.empty, damper := 0, sostOn := false
    sostSet := KeySet.empty, soft := 0 }

theorem endPlayback_left (hss : s.ply.session = some ss) (m : Mark) :
    PlayLeft s.ply.ended (s.ajn.push (markEvent s.clock m ss.take)) s (endPlayback m s) := by
  have hvalues := (((PlayLeft.start (s := s).setPlayKeys KeySet.empty).setPlaySost false KeySet.empty).setPlayDamper 0).setPlaySoft 0
  simp only [endPlayback, hss]
  exact (((hvalues.onPly _).playMark m ss.take).onPly _).playStateRaised

theorem endPlayback_idle (h : s.ply.session = none) (m : Mark) : endPlayback m s = s := by
  simp only [endPlayback, h]

/-! ### The loop jump (R154) -/

/-- What a loop jump makes of the player's state (R154). -/
def PlayMode.jumped (now : Clock) : PlayMode → PlayMode
  | .waiting => .playing (now + 1000)
  | .paused _ => .paused false
  | .playing n => .playing n

/-- The player at the start of a loop of its take, as the jump sets it up (R154). -/
def Ply.jumped (p : Ply) (lp : Loop) (ss : Session) (cursor : Nat) (now : Clock) : Ply :=
  { p with
    keys := KeySet.empty, sostSet := KeySet.empty, sostOn := lp.sostOn, damper := lp.damper, soft := lp.soft
    expected := KeySet.empty, limit := none
    session := some { ss with cursor := cursor, position := lp.start, mode := ss.mode.jumped now } }

/-- A loop jump sets the player up, and plays what is due from there on a PLAYING player (R154). -/
theorem loopJump_left (hss : s.ply.session = some ss) (lp : Loop) :
    ∃ u, loopJump lp s = (if u.ply.isPlaying then playDue u else u)
      ∧ PlayLeft (s.ply.jumped lp ss (indexAt (timedRecords s ss.take) lp.start) s.clock)
          (s.ajn.push (markEvent s.clock .loop ss.take)) s u := by
  have hlet := ((PlayLeft.start (s := s).setPlayKeys KeySet.empty).setPlaySost s.ply.sostOn KeySet.empty).setPlayDamper 0
  have hwaited {P : Ply} {A : Ajn} {v : State} (h : PlayLeft P A s v) (w : Bool) :
      PlayLeft P A s (if w then playStateRaised v else v) := by
    cases w
    · exact h
    · exact h.playStateRaised
  simp only [loopJump, hss]
  exact ⟨_, rfl, hwaited (((((hlet.onPly _).setPlayDamper lp.damper).setPlaySost lp.sostOn KeySet.empty).setPlaySoft
    lp.soft).playMark .loop ss.take) _⟩

/-! ### Collections (R157) -/

/-- The last time at which a strike joins a chord collected at `T` (R157). -/
def Ply.chordBound (p : Ply) (T : Nat) : Nat :=
  match p.loop with
  | some lp => min (T + p.chordWindow) lp.stop
  | none => T + p.chordWindow

/-- The expected set with the guide strikes of the records looked at (R157). -/
def Ply.chord (p : Ply) (looked : List (TakeRec × Nat)) : KeySet :=
  looked.foldl (fun S x => if x.1.kind = .strike ∧ p.guideRecord x.1 = true then S.add x.1.key else S) p.expected

theorem KeySet.has_add (S : KeySet) (j k : Key) : (S.add j).has k = true ↔ S.has k = true ∨ j = k := by
  simp only [KeySet.add, KeySet.has, Fin.getElem_fin, Vector.getElem_set, Fin.val_inj]
  split <;> simp_all

@[simp] theorem KeySet.has_empty (k : Key) : KeySet.empty.has k = false := by
  simp [KeySet.empty, KeySet.has]

theorem KeySet.ne_empty {S : KeySet} {k : Key} (h : S.has k = true) : S ≠ KeySet.empty := by
  rintro rfl
  simp at h

/-- A chord holds what was expected and the guide strikes of the records looked at. -/
theorem Ply.chord_has (p : Ply) (looked : List (TakeRec × Nat)) (k : Key) : (p.chord looked).has k = true ↔
    p.expected.has k = true ∨ ∃ q ∈ looked, q.1.kind = .strike ∧ p.guideRecord q.1 = true ∧ q.1.key = k := by
  unfold Ply.chord
  generalize p.expected = S
  induction looked generalizing S with
  | nil => simp
  | cons q rest ih =>
    rw [List.foldl_cons, ih]
    split
    · simp only [KeySet.has_add, List.exists_mem_cons_iff]
      tauto
    · simp only [List.exists_mem_cons_iff]
      tauto

/-- A collection leaves the player WAITING for the chord (R157). -/
def Ply.collecting (p : Ply) (ss : Session) (T : Nat) (looked : List (TakeRec × Nat)) : Ply :=
  { p with
    expected := p.chord looked, limit := some (ss.cursor + looked.length)
    session := some { ss with position := T, mode := .waiting } }

theorem collectChord_left (hss : s.ply.session = some ss) (T : Nat) (ahead : List (TakeRec × Nat)) :
    PlayLeft (s.ply.collecting ss T (ahead.takeWhile fun x => x.2 ≤ s.ply.chordBound T))
      (s.ajn.push (markEvent s.clock .wait ss.take)) s (collectChord T ahead s) := by
  simp only [collectChord, hss]
  exact ((PlayLeft.start.onPly _).playMark .wait ss.take).playStateRaised

theorem collectChord_vas (T : Nat) (ahead : List (TakeRec × Nat)) : (collectChord T ahead s).vas = s.vas := by
  unfold collectChord
  dsimp only
  split
  · rfl
  · rw [playStateRaised_vas, playMark_vas, onPly_vas]

/-! ### Records played (R149, R150, R156 to R159) -/

/-- A record played changes the values the voice assigner reads, and of the player nothing else. -/
theorem playRecord_left (r : TakeRec) : ∃ P A, PlayLeft P A s (playRecord r s) ∧ P.expected = s.ply.expected
    ∧ P.session = s.ply.session := by
  have h := PlayLeft.start (s := s)
  unfold playRecord
  dsimp only
  split
  · split
    · exact ⟨_, _, h.playbackEvent _ _ _ _, rfl, rfl⟩
    · exact ⟨_, _, (h.setPlayKeys _).playbackEvent _ _ _ _, rfl, rfl⟩
  · split_ifs
    · exact ⟨_, _, h.setPlayKeys _, rfl, rfl⟩
    · exact ⟨_, _, (h.setPlayKeys _).playbackEvent _ _ _ _, rfl, rfl⟩
    · exact ⟨_, _, (h.setPlayKeys _).playbackEvent _ _ _ _, rfl, rfl⟩
  · exact ⟨_, _, (h.setPlayDamper _).playbackEvent _ _ _ _, rfl, rfl⟩
  · exact ⟨_, _, (h.setPlaySoft _).playbackEvent _ _ _ _, rfl, rfl⟩
  · split_ifs
    · exact ⟨_, _, h.playbackEvent _ _ _ _, rfl, rfl⟩
    · exact ⟨_, _, (h.setPlaySost _ _).playbackEvent _ _ _ _, rfl, rfl⟩
    · exact ⟨_, _, (h.setPlaySost _ _).playbackEvent _ _ _ _, rfl, rfl⟩
    · exact ⟨_, _, h.playbackEvent _ _ _ _, rfl, rfl⟩
  · exact ⟨_, _, h, rfl, rfl⟩

/-! ### Ends of waits (R155, R158) -/

/-- A wait of the player ends in PLAYING, and what is due then is played. -/
theorem endWait_left (hss : s.ply.session = some ss) (m : Mark) (n : TakeNo) :
    ∃ u, endWait m n s = playDueThenEnd u
      ∧ PlayLeft { s.ply with session := some { ss with mode := .playing (s.clock + 1000) } }
          (s.ajn.push (markEvent s.clock m n)) s u
      ∧ u.vas = s.vas := by
  have hmark := PlayLeft.start (s := s).playMark m n
  have hentered := (hmark.onSession fun ss => { ss with mode := .playing ((playMark m n s).clock + 1000) }).playStateRaised
  rw [hss, hmark.clock] at hentered
  refine ⟨_, rfl, ?_, ?_⟩
  · rw [enterPlaying, hmark.clock]
    exact hentered
  · exact playMark_vas m n

/-! ### The player set up on a take (R147) -/

/-- The player PLAYING take `n` from `start`, with the pedals of the records before (R147). -/
def Ply.setUp (p : Ply) (n : TakeNo) (cursor start : Nat) (pedals : Nat × Bool × Nat) (now : Clock) : Ply :=
  { p with
    acc := 0, loop := none, expected := KeySet.empty, limit := none
    damper := pedals.1, sostOn := pedals.2.1, sostSet := KeySet.empty, soft := pedals.2.2
    session := some { take := n, cursor := cursor, position := start, mode := .playing (now + 1000) } }

/-- The pedals of the records of take `n` before `start` (R147, R153). -/
def pedalsBefore (s : State) (n : TakeNo) (start : Nat) : Nat × Bool × Nat :=
  reconstruct (0, false, 0) (((timedRecords s n).take (indexAt (timedRecords s n) start)).map (·.1))

theorem setUpTake_left (h : PlayLeft P A s t) (n : TakeNo) (start : Nat) :
    PlayLeft (P.setUp n (indexAt (timedRecords s n) start) start (pedalsBefore s n start) s.clock)
      (A.push (markEvent s.clock .start n)) s (setUpTake n start t) := by
  unfold setUpTake
  dsimp only
  rw [h.clock, h.timedRecords]
  exact ((((((h.onPly _).setPlayDamper _).setPlaySost _ _).setPlaySoft _).onPly _).playMark .start n).playStateRaised

end Sys2Proof.Machine
end

section
namespace Sys2Proof.Machine

variable {s t : State}

/-! ## What reaches the player

A relation between states that says nothing of the blocks apart from the player is closed under most of the part: the
other blocks reach the player by the events handed to it and by resets only. -/

/-! ### Pedals leave the player (R49) -/

theorem pedalSample_ply (p : Pedal) (time : Clock) (first : Bool) (d : Nat) : (pedalSample p time first d s).ply = s.ply := by
  by_cases hp : p = .sostenuto
  · subst hp
    unfold pedalSample sostenutoTest
    dsimp only
    split_ifs
    · rfl
    · obtain ⟨_, _, _, _, h⟩ := sostenutoOff_eq (s := setPedalDepth .sostenuto d s) time
      rw [h]
      rfl
    · rfl
    · obtain ⟨_, _, _, _, h⟩ := sostenutoOn_eq (s := setPedalDepth .sostenuto d s) time
      rw [h]
      rfl
    · rfl
  · cases first with
    | true =>
      obtain ⟨_, _, _, h⟩ := pedalSample_first (s := s) hp time d
      rw [h]
    | false =>
      obtain ⟨-, -, -, -, hply⟩ := pedalSample_reports (s := s) hp time d
      exact hply

theorem convertPedal_ply (p : Pedal) (time : Clock) (raw : Nat) : (convertPedal p time raw s).ply = s.ply :=
  convert_rel (R := fun s t => t.ply = s.ply) (fun _ => rfl) (fun h g => g.trans h)
    (failed := fun u => pedalChannelFailed p time (reportFault .sensorFail u))
    (fun u => by
      obtain ⟨-, hply, -⟩ := pedalChannelFailed_frame (s := reportFault .sensorFail u) p time
      exact hply)
    (recovered := pedalChannelRecovered p) (fun _ => rfl) (fun _ => pedalSample_ply p time _ _) _ _ _
    (onSfe (fun f => { f with pedalCh := f.pedalCh.set p.index (channelTest s.sfe.pedalCh[p.index] raw).record }) s)

/-- A relation that holds where the player is as it was, across each operation by which the other blocks reach it, and
across its own commands. -/
structure PlayerClosed (R : State → State → Prop) : Prop where
  trans : ∀ {a b c}, R a b → R b c → R a c
  blocks : ∀ {a b : State}, b.ply = a.ply → R a b
  cold : ∀ {a b : State}, b.ply = {} → R a b
  handed : ∀ e s, R s (playerEvent e s)
  takePlay : EffectRel R takePlayEffect
  stop : EffectRel R stopEffect
  pause : EffectRel R pauseEffect
  resume : EffectRel R resumeEffect
  setTempo : EffectRel R setTempoEffect
  setLoop : EffectRel R setLoopEffect
  clearLoop : EffectRel R clearLoopEffect
  setGuide : EffectRel R setGuideEffect
  stepped : ∀ {n s}, stepDue s = some n → R s (finishStep (onPly (advancePlayer n) s))

namespace PlayerClosed

variable {R : State → State → Prop} (c : PlayerClosed R)

include c

protected theorem refl (s : State) : R s s := c.blocks rfl

protected theorem kept (h : PlayKept s t) : R s t := c.blocks h.2

/-- A command that may do nothing. -/
protected theorem ite {p : Prop} [Decidable p] (h : R s t) : R s (if p then t else s) := by
  split
  · exact h
  · exact c.refl s

/-- The player is handed an event last (R22, log 49). -/
protected theorem trackerEvent (e : Event) (s : State) : R s (trackerEvent e s) :=
  c.trans (c.kept (pedalEvent_playKept e)) (c.handed e _)

/-! ### The results of a conversion -/

protected theorem hammerSample (k : Key) (time : Clock) (first : Bool) (height : Nat) (s : State) :
    R s (hammerSample k time first height s) := by
  have hmissed (b : Bool) (v : State) :
      R v (if b then { v with faults := { v.faults with missed := satInc v.faults.missed } } else v) := by
    cases b <;> exact c.blocks rfl
  have hkey (f : KeyRec → KeyRec) (v : State) : R v (onKey k f v) := c.blocks rfl
  unfold hammerSample hammerSampleNormal
  dsimp only
  split
  · exact hkey _ _
  · split
    · exact c.trans (c.trans (hkey _ _) (hmissed _ _)) (c.trans (hkey _ _) (c.trackerEvent _ _))
    · exact c.trans (hkey _ _) (hmissed _ _)

protected theorem convertHammer (k : Key) (time : Clock) (raw : Nat) (s : State) : R s (convertHammer k time raw s) := by
  refine c.trans (b := onSfe (fun f => { f with hammerCh := f.hammerCh.set k (channelTest s.sfe.hammerCh[k] raw).record }) s)
    (c.blocks rfl) ?_
  refine convert_rel c.refl c.trans (failed := fun v => keyChannelFailed true k time (reportFault .sensorFail v))
    (fun v => c.blocks ?_) (fun v => c.blocks ?_)
    (fun _ => c.trans (c.hammerSample _ _ _ _ _) (c.kept quietMove_only.playKept)) _ _ _ _
  · obtain ⟨hply, -⟩ := keyChannelFailed_frame (s := reportFault .sensorFail v) true k time
    exact hply
  · obtain ⟨-, hply, -⟩ := keyChannelRecovered_frame (s := v) true k time
    exact hply

protected theorem convertResult (g : Group) (time : Clock) (s : State) (r : AinResult) :
    R s (convertResult g time s r) := by
  unfold convertResult
  cases g with
  | k n => exact c.kept (convertKey_playKept _ time r.raw)
  | h n => exact c.convertHammer _ _ _ _
  | p =>
    cases groupPedal r.ain with
    | none => exact c.refl s
    | some p => exact c.blocks (convertPedal_ply p time r.raw)

/-! ### Every command -/

protected theorem systemReset (s : State) : R s (systemReset s) := by
  obtain ⟨-, hply, -⟩ := systemReset_blocks (s := s)
  exact c.cold hply

/-- A request whose effect the relation holds across (R164). -/
protected theorem of_serve {effect : List Byte → State → State × Reply} {l : Link} {k : Byte} (h : EffectRel R effect)
    (ht : Host.Outcome.next (serve l k effect s) = (.next t : Host.Outcome State Fault Refusal)) : R s t :=
  rel_of_next rfl ht (serve_rel c.refl c.trans (fun hl => c.kept hl.playKept) h l k s)

/-- A request that leaves the player. -/
protected theorem of_keeps {effect : List Byte → State → State × Reply} {l : Link} {k : Byte} (h : KeepsPlay effect)
    (ht : Host.Outcome.next (serve l k effect s) = (.next t : Host.Outcome State Fault Refusal)) : R s t :=
  c.of_serve (fun args v => c.kept (h args v)) ht

/-- The relation holds across every command. -/
protected theorem exec {i : Instr} (h : exec i s = .next t) : R s t := by
  cases i with
  | powerOnReset =>
    exact rel_of_next rfl h (c.trans (c.cold (b := coldBlocks (cutCommits s)) rfl) (c.kept startUp_playKept))
  | resetnLow =>
    refine rel_of_next rfl h ?_
    dsimp only
    split_ifs <;> exact c.blocks rfl
  | systemResetEffect => exact rel_of_next rfl h (c.ite (c.systemReset s))
  | receiveByte l b stopLow =>
    exact rel_of_next rfl h (c.ite (c.trans (c.ite (c.kept (discardFrame_playKept l))) (c.kept (takeByte_playKept l b stopLow))))
  | interByteGapTimeout l => exact rel_of_next rfl h (c.ite (c.kept (discardFrame_playKept l)))
  | lineBreak l =>
    refine rel_of_next rfl h ?_
    dsimp only
    split_ifs
    · exact c.refl s
    · exact c.kept ((onLink_only l _).playKept.trans (linkReset_playKept l))
    · exact c.blocks rfl
  | transmitFrameStart l =>
    refine rel_of_next rfl h (c.ite ?_)
    split <;> exact c.blocks rfl
  | pendingNoticeQueued l =>
    refine rel_of_next rfl h ?_
    split <;> exact c.blocks rfl
  | voiceOrderDrain =>
    refine rel_of_next rfl h ?_
    split
    · exact c.kept (drainOrders_playKept _)
    · exact c.refl s
  | unknownRequest l =>
    refine rel_of_next rfl h ?_
    split
    · exact c.ite (c.blocks rfl)
    · exact c.refl s
  | hello l => exact c.of_keeps (helloEffect_keepsPlay l) h
  | setLink l => exact c.of_keeps (setLinkEffect_keepsPlay l) h
  | claimRole l => exact c.of_keeps (claimRoleEffect_keepsPlay l) h
  | readKeys l => exact c.of_keeps (readKeysEffect_keepsPlay l) h
  | setWindow l => exact c.of_keeps (setWindowEffect_keepsPlay l) h
  | readWindow l => exact c.of_keeps (readWindowEffect_keepsPlay l) h
  | depthStream l => exact c.of_keeps (depthStreamEffect_keepsPlay l) h
  | setScanList l => exact c.of_keeps setScanListEffect_keepsPlay h
  | openJournal l => exact c.of_keeps (openJournalEffect_keepsPlay l) h
  | readJournal l => exact c.of_keeps (readJournalEffect_keepsPlay l) h
  | closeJournal l => exact c.of_keeps (closeJournalEffect_keepsPlay l) h
  | setLayers l => exact c.of_keeps setLayersEffect_keepsPlay h
  | readVoices l => exact c.of_keeps (readVoicesEffect_keepsPlay l) h
  | voiceEnded l => exact c.of_keeps (voiceEndedEffect_keepsPlay l) h
  | railDemand l => exact c.of_keeps (railDemandEffect_keepsPlay l) h
  | railRecover l => exact c.of_keeps railRecoverEffect_keepsPlay h
  | readRail l => exact c.of_keeps readRailEffect_keepsPlay h
  | takeRecord l => exact c.of_keeps takeRecordEffect_keepsPlay h
  | takeStop l => exact c.of_keeps takeStopEffect_keepsPlay h
  | takeLoad l => exact c.of_keeps takeLoadEffect_keepsPlay h
  | writeTakeRecords l => exact c.of_keeps writeTakeRecordsEffect_keepsPlay h
  | loadEnd l => exact c.of_keeps loadEndEffect_keepsPlay h
  | takeKeep l => exact c.of_keeps (keepEffect_keepsPlay l true) h
  | takeUnkeep l => exact c.of_keeps (keepEffect_keepsPlay l false) h
  | takeErase l => exact c.of_keeps takeEraseEffect_keepsPlay h
  | readTakeDirectory l => exact c.of_keeps (readTakeDirectoryEffect_keepsPlay l) h
  | readTakeRecords l => exact c.of_keeps (readTakeRecordsEffect_keepsPlay l) h
  | takePlay l => exact c.of_serve c.takePlay h
  | stop l => exact c.of_serve c.stop h
  | pause l => exact c.of_serve c.pause h
  | resume l => exact c.of_serve c.resume h
  | setTempo l => exact c.of_serve c.setTempo h
  | setLoop l => exact c.of_serve c.setLoop h
  | clearLoop l => exact c.of_serve c.clearLoop h
  | setGuide l => exact c.of_serve c.setGuide h
  | calRead l => exact c.of_keeps (calReadEffect_keepsPlay l) h
  | calWrite l => exact c.of_keeps (calWriteEffect_keepsPlay l) h
  | calCommit l => exact c.of_keeps (calCommitEffect_keepsPlay l) h
  | calDefaults l => exact c.of_keeps (calDefaultsEffect_keepsPlay l) h
  | commitComplete r equal =>
    refine rel_of_next rfl h (c.ite ?_)
    cases equal <;> exact c.blocks rfl
  | noticeSet l => exact c.of_keeps (noticeSetEffect_keepsPlay l) h
  | noticeMask l => exact c.of_keeps (noticeMaskEffect_keepsPlay l) h
  | readFaults l => exact c.of_keeps readFaultsEffect_keepsPlay h
  | clearFaults l => exact c.of_keeps clearFaultsEffect_keepsPlay h
  | systemReset l => exact c.of_keeps (systemResetEffect_keepsPlay l) h
  | frameStart => exact rel_of_next rfl h (c.ite (c.kept startFrame_playKept))
  | settleEnd =>
    refine rel_of_next rfl h ?_
    split <;> exact c.blocks rfl
  | conversionEnd results =>
    refine rel_of_next rfl h ?_
    split
    · exact c.trans (foldl_rel c.refl c.trans (c.convertResult _ _) results s) (c.kept (nextEntry_playKept _))
    · exact c.refl s
  | recorderSecondStep =>
    refine rel_of_next rfl h ?_
    split <;> exact c.blocks rfl
  | millisecondStep =>
    refine rel_of_next rfl h ?_
    split
    · rename_i hdue
      exact c.stepped hdue
    · exact c.refl s
  | silentInputChange low =>
    refine rel_of_next rfl h ?_
    split <;> exact c.blocks rfl
  | leverDebounceExpiry => exact rel_of_next rfl h (c.ite (c.kept deriveLever_only.playKept))
  | railHomingStart => exact rel_of_next rfl h (c.ite (c.kept startHoming_only.playKept))
  | railQuietMoveStart =>
    refine rel_of_next rfl h ?_
    split
    · exact c.kept (startMove_only _ _).playKept
    · exact c.refl s
  | railCurrentChange current => exact rel_of_next rfl h (c.blocks rfl)
  | inrushBlankingEnd => exact rel_of_next rfl h (c.ite (c.blocks rfl))
  | stall =>
    refine rel_of_next rfl h ?_
    split
    · exact c.kept (stallLeg_only _).playKept
    · exact c.refl s
  | maximumTravelTimeout => exact rel_of_next rfl h (c.ite (c.kept (railFault_only _).playKept))
  | backoffTimeEnd =>
    refine rel_of_next rfl h ?_
    split
    · exact c.kept (retreatEnd_only _ _).playKept
    · exact c.refl s
  | retryDelayEnd =>
    refine rel_of_next rfl h ?_
    split
    · split
      · exact c.kept (startMove_only _ _).playKept
      · exact c.kept (enterWaiting_only _ _).playKept
    · exact c.refl s
  | railHeld =>
    refine rel_of_next rfl h ?_
    split <;> exact c.blocks rfl
  | resetnHigh =>
    exact rel_of_next rfl h (c.kept
      (PlayKept.trans (t := { s with resetnLow := false }) ⟨rfl, rfl⟩ (ite_playKept loadRegions_playKept)))
  | lineReturnsHigh l => exact rel_of_next rfl h (c.ite (c.blocks rfl))
  | powerLoss =>
    refine rel_of_next rfl h ?_
    split
    · exact c.refl s
    · exact c.cold rfl
  | regionsLoaded =>
    exact rel_of_next rfl h (c.kept (ite_playKept (PlayKept.trans (t := takeUp s) ⟨rfl, rfl⟩ startFrame_playKept)))

/-- The relation holds across every step. -/
protected theorem step (h : step s = .next t) : R s t := by
  have hidle (h : idle s = .next t) : R s t := by
    unfold idle at h
    split at h
    · split at h
      · exact c.exec h
      · cases h
        split
        · exact c.refl s
        · exact c.kept tick_playKept
    · cases h
      exact c.refl s
  unfold Sys2Proof.Machine.step at h
  split at h
  · exact hidle h
  · rename_i rest _
    exact c.trans (c.blocks (b := { s with pending := rest }) rfl) (c.exec h)

end PlayerClosed

end Sys2Proof.Machine
end

section
namespace Sys2Proof.Machine

variable {s t u : State} {ss : Session}

/-! ## The expected set and the wait (R144, R154 to R158)

Each operation of the player either leaves the expected set and the state alone, or sets both: a collection and a PAUSE
give a state that waits with the set as it stands, and what ends a wait empties the set first. -/

/-- The expected set matches the wait after, if it did before. -/
def WaitKept (s t : State) : Prop := ExpectedWhileWaiting s → ExpectedWhileWaiting t

theorem WaitKept.refl : WaitKept s s := id
theorem WaitKept.trans (h : WaitKept s t) (g : WaitKept t u) : WaitKept s u := g ∘ h

/-- A state that waits, or is PAUSED from a wait (R144). -/
def PlayMode.Waits (m : PlayMode) : Prop := m = .waiting ∨ m = .paused true

theorem Ply.waitsOrPausedWait_iff (p : Ply) : p.waitsOrPausedWait ↔ ∃ ss, p.session = some ss ∧ ss.mode.Waits := by
  unfold Ply.waitsOrPausedWait PlayMode.Waits
  cases p.session with
  | none => simp
  | some ss => cases hm : ss.mode <;> simp [hm]

theorem expectedWhileWaiting_iff : ExpectedWhileWaiting s ↔
    (s.ply.expected ≠ KeySet.empty ↔ ∃ ss, s.ply.session = some ss ∧ ss.mode.Waits) := by
  rw [ExpectedWhileWaiting, Ply.waitsOrPausedWait_iff]

theorem ExpectedWhileWaiting.of_empty (he : t.ply.expected = KeySet.empty)
    (hm : ∀ ss, t.ply.session = some ss → ¬ss.mode.Waits) : ExpectedWhileWaiting t :=
  expectedWhileWaiting_iff.mpr ⟨fun h => absurd he h, fun ⟨ss, hss, hw⟩ => absurd hw (hm ss hss)⟩

theorem ExpectedWhileWaiting.of_waits (he : t.ply.expected ≠ KeySet.empty) (hss : t.ply.session = some ss)
    (hw : ss.mode.Waits) : ExpectedWhileWaiting t :=
  expectedWhileWaiting_iff.mpr ⟨fun _ => ⟨ss, hss, hw⟩, fun _ => he⟩

/-- In a state that does not wait nothing is expected. -/
theorem ExpectedWhileWaiting.empty (h : ExpectedWhileWaiting s) (hss : s.ply.session = some ss) (hm : ¬ss.mode.Waits) :
    s.ply.expected = KeySet.empty := by
  by_contra he
  obtain ⟨ss', hss', hw⟩ := (expectedWhileWaiting_iff.mp h).mp he
  obtain rfl : ss = ss' := Option.some.inj (hss.symm.trans hss')
  exact hm hw

/-- In a state that waits something is expected. -/
theorem ExpectedWhileWaiting.nonempty (h : ExpectedWhileWaiting s) (hss : s.ply.session = some ss) (hw : ss.mode.Waits) :
    s.ply.expected ≠ KeySet.empty := (expectedWhileWaiting_iff.mp h).mpr ⟨ss, hss, hw⟩

/-- Expected set and state are as they were. -/
theorem WaitKept.of_same (he : t.ply.expected = s.ply.expected)
    (hm : t.ply.session.map Session.mode = s.ply.session.map Session.mode) : WaitKept s t := fun h => by
  have hmode (p : Ply) : (∃ ss, p.session = some ss ∧ ss.mode.Waits) ↔ ∃ m, p.session.map Session.mode = some m ∧ m.Waits := by
    cases p.session <;> simp
  rw [expectedWhileWaiting_iff, hmode] at h ⊢
  rwa [he, hm]

theorem WaitKept.of_ply (h : t.ply = s.ply) : WaitKept s t := .of_same (congrArg Ply.expected h) (by rw [h])

/-- A change of the player that leaves expected set and session. -/
theorem onPly_waitKept {f : Ply → Ply} (h : ∀ p, (f p).expected = p.expected ∧ (f p).session = p.session) :
    WaitKept s (onPly f s) := .of_same (h s.ply).1 (congrArg (Option.map Session.mode) (h s.ply).2)

/-! ### Records played and collections (R149, R157, R159) -/

theorem playRecord_waitKept (r : TakeRec) : WaitKept s (playRecord r s) := by
  obtain ⟨P, A, hleft, he, hss⟩ := playRecord_left (s := s) r
  exact .of_same (by rw [hleft.ply, he]) (by rw [hleft.ply, hss])

theorem onSession_mode {f : Session → Session} (h : ∀ ss, (f ss).mode = ss.mode) :
    (onSession f s).ply.session.map Session.mode = s.ply.session.map Session.mode := by
  rw [onSession, onPly_ply, Option.map_map]
  exact congrArg (s.ply.session.map ·) (funext h)

theorem advanceCursor_waitKept : WaitKept s (advanceCursor s) := by
  have hmoved : WaitKept s (onSession (fun ss => { ss with cursor := ss.cursor + 1 }) s) :=
    .of_same rfl (onSession_mode fun _ => rfl)
  unfold advanceCursor
  dsimp only
  split
  · split
    · exact hmoved.trans (onPly_waitKept fun _ => ⟨rfl, rfl⟩)
    · exact hmoved
  · exact hmoved

theorem collects_iff {p : Ply} {cursor : Nat} {r : TakeRec} : collects p cursor r = true ↔
    p.guide = .wait ∧ r.kind = .strike ∧ p.guideRecord r = true ∧ ∀ c, p.limit = some c → c ≤ cursor := by
  unfold collects
  cases p.limit <;> simp [and_assoc]

theorem mayPlay_iff {p : Ply} {position x : Nat} : p.mayPlay position x = true ↔
    x ≤ position ∧ ∀ lp, p.loop = some lp → x ≤ lp.stop := by
  unfold Ply.mayPlay
  cases p.loop <;> simp

/-- A record that may be played lies within the chord collected at it. -/
theorem le_chordBound {p : Ply} {position x : Nat} (h : p.mayPlay position x = true) : x ≤ p.chordBound x := by
  obtain ⟨-, hloop⟩ := mayPlay_iff.mp h
  unfold Ply.chordBound
  split
  · rename_i lp hlp
    exact le_min (Nat.le_add_right _ _) (hloop lp hlp)
  · exact Nat.le_add_right _ _

/-- A collection expects at least the strike that starts it, and WAITS. -/
theorem collectChord_expectedWhileWaiting {r : TakeRec} {x : Nat} {rest : List (TakeRec × Nat)}
    (hss : s.ply.session = some ss) (hmay : s.ply.mayPlay ss.position x = true) (hc : collects s.ply ss.cursor r = true) :
    ExpectedWhileWaiting (collectChord x ((r, x) :: rest) s) := by
  obtain ⟨-, hstrike, hguide, -⟩ := collects_iff.mp hc
  have hleft := collectChord_left hss x ((r, x) :: rest)
  have hhas : (collectChord x ((r, x) :: rest) s).ply.expected.has r.key = true := by
    rw [hleft.ply]
    refine (Ply.chord_has _ _ _).mpr (.inr ⟨(r, x), ?_, hstrike, hguide, rfl⟩)
    simp only [List.takeWhile_cons, le_chordBound hmay, decide_true, if_true, List.mem_cons_self]
  exact .of_waits (KeySet.ne_empty hhas) (congrArg Ply.session hleft.ply) (.inl rfl)

theorem playFrom_waitKept (ahead : List (TakeRec × Nat)) : WaitKept s (playFrom ahead s) := by
  induction ahead generalizing s with
  | nil => exact .refl
  | cons x rest ih =>
    unfold playFrom
    split
    · exact .refl
    · rename_i hss
      split_ifs with hmay hc
      · exact fun _ => collectChord_expectedWhileWaiting hss hmay hc
      · exact ((playRecord_waitKept _).trans advanceCursor_waitKept).trans ih
      · exact .refl

theorem playDue_waitKept : WaitKept s (playDue s) := by
  unfold playDue
  split
  · exact playFrom_waitKept _
  · exact .refl

/-! ### The end of playback, loops and waits (R151, R154, R158) -/

theorem endPlayback_waitKept (m : Mark) : WaitKept s (endPlayback m s) := by
  cases hss : s.ply.session with
  | none =>
    rw [endPlayback_idle hss]
    exact .refl
  | some ss =>
    have hply := (endPlayback_left hss m).ply
    exact fun _ => .of_empty (by rw [hply, Ply.ended]) fun _ h => nomatch (congrArg Ply.session hply).symm.trans h

theorem endIfPast_waitKept : WaitKept s (endIfPast s) := by
  unfold endIfPast
  split
  · split
    · exact endPlayback_waitKept _
    · exact .refl
  · exact .refl

theorem playDueThenEnd_waitKept : WaitKept s (playDueThenEnd s) := playDue_waitKept.trans endIfPast_waitKept

/-- The jump empties the set and leaves no wait, neither now nor behind a PAUSE. -/
theorem loopJump_waitKept (lp : Loop) : WaitKept s (loopJump lp s) := by
  cases hss : s.ply.session with
  | none =>
    simp only [loopJump, hss]
    exact .refl
  | some ss =>
    obtain ⟨u, hu, hleft⟩ := loopJump_left hss lp
    have hset : ExpectedWhileWaiting u := .of_empty (by rw [hleft.ply, Ply.jumped]) fun ss' hss' => by
      rw [hleft.ply, Ply.jumped] at hss'
      cases hss'
      cases hm : ss.mode <;> simp [PlayMode.jumped, PlayMode.Waits]
    rw [hu]
    intro _
    split
    · exact playDue_waitKept hset
    · exact hset

/-- With nothing expected any more the wait is over. -/
theorem endWait_expectedWhileWaiting (hss : s.ply.session = some ss) (he : s.ply.expected = KeySet.empty) (m : Mark) (n : TakeNo) :
    ExpectedWhileWaiting (endWait m n s) := by
  obtain ⟨u, hu, hleft, -⟩ := endWait_left hss m n
  rw [hu]
  refine playDueThenEnd_waitKept (.of_empty (by rw [hleft.ply, he]) fun ss' hss' => ?_)
  rw [hleft.ply] at hss'
  cases hss'
  simp [PlayMode.Waits]

theorem Ply.isWaiting_iff {p : Ply} (hss : p.session = some ss) : p.isWaiting = true ↔ ss.mode = .waiting := by
  obtain ⟨_, _, _, mode⟩ := ss
  unfold Ply.isWaiting
  rw [hss]
  cases mode <;> simp

theorem Ply.isPlaying_iff {p : Ply} (hss : p.session = some ss) : p.isPlaying = true ↔ ∃ n, ss.mode = .playing n := by
  obtain ⟨_, _, _, mode⟩ := ss
  unfold Ply.isPlaying
  rw [hss]
  cases mode <;> simp

theorem playerEvent_waitKept (e : Event) : WaitKept s (playerEvent e s) := by
  unfold playerEvent
  split
  · rename_i hlive
    obtain ⟨-, -, hw⟩ := hlive
    split
    · rename_i k ss _ hss
      have hm := (Ply.isWaiting_iff hss).mp hw
      dsimp only
      split_ifs with hhas hlast
      · exact fun _ => endWait_expectedWhileWaiting
          (s := onPly (fun p => { p with expected := s.ply.expected.drop k }) s) hss hlast .met ss.take
      · exact fun _ => .of_waits hlast hss (.inl hm)
      · exact .refl
    · exact .refl
  · exact .refl

/-! ### The player's requests and its millisecond step (R146 to R148, R151 to R155) -/

theorem playerNeeds_waitKept {n : Nat} {args : List Byte} {go : State × Reply} (h : WaitKept s go.1) :
    WaitKept s (playerNeeds n args s go).1 := by
  unfold playerNeeds
  split
  · exact .refl
  · exact h

theorem startPlayback_waitKept (n : TakeNo) (tempo : Option Nat) (start : Nat) :
    WaitKept s (startPlayback n tempo start s) := fun _ => by
  have hset (v : State) : ExpectedWhileWaiting (setUpTake n start v) := by
    have hply := (setUpTake_left (PlayLeft.start (s := v)) n start).ply
    refine .of_empty (by rw [hply, Ply.setUp]) fun ss hss => ?_
    rw [hply, Ply.setUp] at hss
    cases hss
    simp [PlayMode.Waits]
  exact playDueThenEnd_waitKept (hset _)

theorem takePlayEffect_waitKept : EffectRel WaitKept takePlayEffect := fun args s => by
  refine playerNeeds_waitKept ?_
  split
  · exact .refl
  · split
    · exact .refl
    · dsimp only
      generalize (if bitOf args 1 1 then word32At args 3 else 0) = start
      split
      · exact .refl
      · exact startPlayback_waitKept _ _ _

theorem stopEffect_waitKept : EffectRel WaitKept stopEffect := fun args s => by
  unfold stopEffect
  split
  · exact endPlayback_waitKept _
  · exact .refl

/-- The player's state set anew, with its mark, as PAUSE and RESUME do (R152). -/
def modeMarked (ss : Session) (mode : PlayMode) (m : Mark) (s : State) : State :=
  playStateRaised (playMark m ss.take (onPly (fun p => { p with session := some { ss with mode := mode } }) s))

theorem modeMarked_left (ss : Session) (mode : PlayMode) (m : Mark) :
    PlayLeft { s.ply with session := some { ss with mode := mode } } (s.ajn.push (markEvent s.clock m ss.take)) s
      (modeMarked ss mode m s) := ((PlayLeft.start.onPly _).playMark m ss.take).playStateRaised

/-- A state set anew that waits exactly when the old one does. -/
theorem modeMarked_waitKept (hss : s.ply.session = some ss) {mode : PlayMode} (h : mode.Waits ↔ ss.mode.Waits) (m : Mark) :
    WaitKept s (modeMarked ss mode m s) := fun hs => by
  have hply := (modeMarked_left (s := s) ss mode m).ply
  by_cases hw : ss.mode.Waits
  · exact .of_waits (by rw [hply]; exact hs.nonempty hss hw) (congrArg Ply.session hply) (h.mpr hw)
  · refine .of_empty (by rw [hply]; exact hs.empty hss hw) fun ss' hss' => ?_
    rw [hply] at hss'
    cases hss'
    exact mt h.mp hw

/-- A PAUSED player remembers a wait (R152). -/
theorem pauseEffect_waitKept : EffectRel WaitKept pauseEffect := fun args s => by
  unfold pauseEffect
  split
  · exact .refl
  · rename_i ss hss
    split
    · rename_i hactive
      refine modeMarked_waitKept hss ?_ .pause
      rw [Bool.or_eq_true, Ply.isPlaying_iff hss, Ply.isWaiting_iff hss] at hactive
      rw [PlayMode.Waits, PlayMode.paused.injEq, Ply.isWaiting_iff hss]
      rcases hactive with ⟨n, hm⟩ | hm <;> simp [hm, PlayMode.Waits]
    · exact .refl

/-- RESUME goes back to a wait exactly from a PAUSE that remembers one (R152). -/
theorem resumeEffect_waitKept : EffectRel WaitKept resumeEffect := fun args s => by
  unfold resumeEffect
  split
  · exact .refl
  · rename_i ss hss
    split
    · rename_i wasWaiting hm
      refine modeMarked_waitKept hss ?_ .resume
      cases wasWaiting <;> simp [hm, PlayMode.Waits]
    · exact .refl

theorem setTempoEffect_waitKept : EffectRel WaitKept setTempoEffect := fun _ _ =>
  playerNeeds_waitKept (onPly_waitKept fun _ => ⟨rfl, rfl⟩)

theorem setLoopEffect_waitKept : EffectRel WaitKept setLoopEffect := fun args s => by
  have hset (lp : Loop) : WaitKept s (onPly (fun p => { p with loop := some lp }) s) := onPly_waitKept fun _ => ⟨rfl, rfl⟩
  refine playerNeeds_waitKept ?_
  split
  · exact .refl
  · dsimp only
    split
    · unfold setLoop statusReply
      dsimp only
      split
      · exact (hset _).trans (loopJump_waitKept _)
      · exact hset _
    · exact .refl

theorem clearLoopEffect_waitKept : EffectRel WaitKept clearLoopEffect := fun _ _ => onPly_waitKept fun _ => ⟨rfl, rfl⟩

/-- Whatever state the player is in, clearing its expected set ends its wait (R155). -/
theorem clearExpected_expectedWhileWaiting (hss : s.ply.session = some ss) : ExpectedWhileWaiting (clearExpected ss s) := by
  have hcleared := PlayLeft.start (s := s).onPly fun p => { p with expected := KeySet.empty, limit := none }
  unfold clearExpected
  dsimp only
  split
  · exact endWait_expectedWhileWaiting (s := onPly (fun p => { p with expected := KeySet.empty, limit := none }) s) hss rfl _ _
  · have hply := ((hcleared.playMark .cleared ss.take).onSession fun x => { x with mode := .paused false }).ply
    refine .of_empty (by rw [hply]) fun ss' hss' => ?_
    rw [hply, hss] at hss'
    cases hss'
    simp [PlayMode.Waits]
  · rename_i hm
    have hply := (hcleared.playMark .cleared ss.take).ply
    refine .of_empty (by rw [hply]) fun ss' hss' => ?_
    rw [hply, hss] at hss'
    cases hss'
    simp [hm, PlayMode.Waits]

theorem setGuideEffect_waitKept : EffectRel WaitKept setGuideEffect := fun args s => by
  refine playerNeeds_waitKept ?_
  split
  · split
    · exact .refl
    · unfold setGuide statusReply
      dsimp only
      split
      · rename_i hss
        split
        · exact fun _ => clearExpected_expectedWhileWaiting hss
        · exact onPly_waitKept fun _ => ⟨rfl, rfl⟩
      · exact onPly_waitKept fun _ => ⟨rfl, rfl⟩
  · exact .refl

/-- A millisecond step is one of a PLAYING player (R148). -/
theorem stepDue_playing {n : Clock} (h : stepDue s = some n) : ∃ ss, s.ply.session = some ss ∧ ss.mode = .playing n := by
  unfold stepDue at h
  split at h
  · rename_i ss _ hss
    split at h
    · rename_i hm
      split at h
      · cases h
        exact ⟨ss, hss, hm⟩
      · cases h
    · cases h
  · cases h

theorem finishStep_waitKept : WaitKept s (finishStep s) := by
  unfold finishStep
  dsimp only
  split
  · split
    · exact playDue_waitKept.trans (loopJump_waitKept _)
    · exact playDue_waitKept.trans endIfPast_waitKept
  · exact playDue_waitKept

theorem millisecondStep_waitKept {n : Clock} (h : stepDue s = some n) :
    WaitKept s (finishStep (onPly (advancePlayer n) s)) := fun hs => by
  obtain ⟨ss, hss, hm⟩ := stepDue_playing h
  have he := hs.empty hss (by simp [hm, PlayMode.Waits])
  refine finishStep_waitKept (.of_empty he fun ss' hss' => ?_)
  rw [onPly_ply, advancePlayer, hss] at hss'
  cases hss'
  simp [PlayMode.Waits]

/-! ### Every step -/

/-- A player at its reset values is IDLE and expects nothing (R144). -/
theorem waitKept_closed : PlayerClosed WaitKept where
  trans := .trans
  blocks := .of_ply
  cold h _ := .of_empty (by rw [h]; rfl) fun _ hss => nomatch (congrArg Ply.session h).symm.trans hss
  handed e _ := playerEvent_waitKept e
  takePlay := takePlayEffect_waitKept
  stop := stopEffect_waitKept
  pause := pauseEffect_waitKept
  resume := resumeEffect_waitKept
  setTempo := setTempoEffect_waitKept
  setLoop := setLoopEffect_waitKept
  clearLoop := clearLoopEffect_waitKept
  setGuide := setGuideEffect_waitKept
  stepped := millisecondStep_waitKept

/-- Settles O13: the player's own operations, and no other block reaches the player but by events and resets. -/
theorem expectedSetMatchesWait : Obligations.ExpectedSetMatchesWait := fun _ _ hs h => waitKept_closed.step h hs

end Sys2Proof.Machine
end

section
namespace Sys2Proof.Machine

variable {s t : State} {ss : Session} {l : Link} {args : List Byte}

/-! ## A millisecond step, and what is due (R148) -/

theorem exec_millisecondStep {n : Clock} (h : stepDue s = some n) :
    exec .millisecondStep s = .next (finishStep (onPly (advancePlayer n) s)) := by
  simp only [exec, execMillisecondStep, h]

theorem stepDue_of_playing {n : Clock} (hp : s.phase = .running) (hss : s.ply.session = some ss) (hm : ss.mode = .playing n)
    (he : elapsed s.clock n < 2147483648) : stepDue s = some n := by
  simp only [stepDue, hp, hss, hm, reached, he, decide_true, if_true]

/-- The next record ahead, where there is one, may not be played yet. -/
def NothingDue (s : State) (ss : Session) : Prop :=
  ∀ r x rest, (timedRecords s ss.take).drop ss.cursor = (r, x) :: rest → s.ply.mayPlay ss.position x = false

theorem playDue_of_nothingDue (hss : s.ply.session = some ss) (h : NothingDue s ss) : playDue s = s := by
  simp only [playDue, hss]
  cases hahead : (timedRecords s ss.take).drop ss.cursor with
  | nil => rfl
  | cons q rest =>
    obtain ⟨r, x⟩ := q
    simp only [playFrom, hss, h r x rest hahead, Bool.false_eq_true, if_false]

/-- A step with no record due makes the loop jump that falls due, or the end of the take (R148, R151). -/
theorem finishStep_of_nothingDue {n : Clock} (hss : s.ply.session = some ss) (hm : ss.mode = .playing n)
    (h : NothingDue s ss) : finishStep s = s.ply.loopReached.elim (endIfPast s) (loopJump · s) := by
  simp only [finishStep, playDue_of_nothingDue hss h, (Ply.isPlaying_iff hss).mpr ⟨n, hm⟩, if_true]
  cases s.ply.loopReached <;> rfl

theorem loopReached_none {p : Ply} (h : p.loop = none) : p.loopReached = none := by
  unfold Ply.loopReached
  rw [h]
  cases p.session <;> rfl

/-- A player with no loop ends its take past the last record (R151). -/
theorem endIfPast_past {n : Clock} (hss : s.ply.session = some ss) (hm : ss.mode = .playing n) (hloop : s.ply.loop = none)
    (h : (s.take ss.take).count ≤ ss.cursor) : endIfPast s = endPlayback .end_ s := by
  simp [endIfPast, hss, (Ply.isPlaying_iff hss).mpr ⟨n, hm⟩, hloop, h]

theorem endIfPast_before (hss : s.ply.session = some ss) (h : ss.cursor < (s.take ss.take).count) : endIfPast s = s := by
  simp [endIfPast, hss, Nat.not_le.mpr h]

theorem withTimes_length (t0 : Nat) (rs : List TakeRec) : (withTimes t0 rs).length = rs.length := by
  induction rs generalizing t0 with
  | nil => rfl
  | cons r rs ih => simp [withTimes, ih]

/-- No more records are read of a take than it counts. -/
theorem timedRecords_length_le (n : TakeNo) : (timedRecords s n).length ≤ (s.take n).count := by
  rw [timedRecords, withTimes_length, takeRecords]
  exact (List.length_filterMap_le _ _).trans_eq List.length_range

/-- With the cursor past the last record nothing is ahead. -/
theorem nothingDue_of_past (h : (s.take ss.take).count ≤ ss.cursor) : NothingDue s ss := fun r x rest hahead => by
  rw [List.drop_eq_nil_of_le ((timedRecords_length_le ss.take).trans h)] at hahead
  cases hahead

/-! ## STOP, PAUSE and RESUME (R151, R152) -/

theorem exec_stop (h : headRequest l s = some (kStop, args)) : exec (.stop l) s =
    .next (putReply l kStop (stopEffect args (popRequest l s)).2 (stopEffect args (popRequest l s)).1) :=
  congrArg Host.Outcome.next (serve_taken _ h)

theorem exec_pause (h : headRequest l s = some (kPause, args)) : exec (.pause l) s =
    .next (putReply l kPause (pauseEffect args (popRequest l s)).2 (pauseEffect args (popRequest l s)).1) :=
  congrArg Host.Outcome.next (serve_taken _ h)

theorem exec_resume (h : headRequest l s = some (kResume, args)) : exec (.resume l) s =
    .next (putReply l kResume (resumeEffect args (popRequest l s)).2 (resumeEffect args (popRequest l s)).1) :=
  congrArg Host.Outcome.next (serve_taken _ h)

theorem modeMarked_vas {mode : PlayMode} {m : Mark} : (modeMarked ss mode m s).vas = s.vas := by
  rw [modeMarked, playStateRaised_vas, playMark_vas, onPly_vas]

theorem stopEffect_stops (hss : s.ply.session = some ss) : stopEffect args s = statusReply .done (endPlayback .stop s) := by
  simp [stopEffect, hss, stopPlayback]

theorem pauseEffect_pauses {wasWaiting : Bool} (hss : s.ply.session = some ss)
    (h : (∃ n, ss.mode = .playing n ∧ wasWaiting = false) ∨ (ss.mode = .waiting ∧ wasWaiting = true)) :
    pauseEffect args s = statusReply .done (modeMarked ss (.paused wasWaiting) .pause s) := by
  have hactive : (s.ply.isPlaying || s.ply.isWaiting) = true := by
    rw [Bool.or_eq_true, Ply.isPlaying_iff hss, Ply.isWaiting_iff hss]
    exact h.imp (fun ⟨n, hm, _⟩ => ⟨n, hm⟩) And.left
  have hwas : s.ply.isWaiting = wasWaiting := by
    rw [Bool.eq_iff_iff, Ply.isWaiting_iff hss]
    rcases h with ⟨n, hm, rfl⟩ | ⟨hm, rfl⟩ <;> simp [hm]
  simp only [pauseEffect, hss, hactive, if_true, ← hwas]
  rfl

theorem resumeEffect_resumes {wasWaiting : Bool} (hss : s.ply.session = some ss) (hm : ss.mode = .paused wasWaiting) :
    resumeEffect args s = statusReply .done
      (modeMarked ss (if wasWaiting then .waiting else .playing (s.clock + 1000)) .resume s) := by
  simp only [resumeEffect, hss, hm]
  rfl

/-- A millisecond step past the last record ends playback (R148, R151). -/
theorem finishStep_past {n : Clock} (hss : s.ply.session = some ss) (hm : ss.mode = .playing n) (hloop : s.ply.loop = none)
    (h : (s.take ss.take).count ≤ ss.cursor) : finishStep s = endPlayback .end_ s := by
  rw [finishStep_of_nothingDue hss hm (nothingDue_of_past h), loopReached_none hloop]
  exact endIfPast_past hss hm hloop h

/-- Settles O42: STOP and the end of a take by `endPlayback_left`, PAUSE and RESUME by the mode they set. -/
theorem stopPauseResume : Obligations.StopPauseResume := by
  refine ⟨fun l args ss s hss => ⟨fun h => ?stopped, fun m h hm => ?paused, fun m h hm => ?resumed⟩,
    fun ss n s hp hss hm he hloop hpast => ?ended⟩
  case stopped =>
    have hleft := endPlayback_left (s := popRequest l s) hss .stop
    obtain ⟨htks, hkeys, -, hrlc⟩ := hleft.blocks
    rw [exec_stop h, stopEffect_stops (s := popRequest l s) hss]
    exact ⟨_, rfl, hleft.ply, htks, hkeys, hrlc⟩
  case paused =>
    have hleft := modeMarked_left (s := popRequest l s) ss (.paused m) .pause
    rw [exec_pause h, pauseEffect_pauses (s := popRequest l s) hss hm]
    exact ⟨_, rfl, hleft.ply, hleft.ajn, modeMarked_vas, hleft.blocks.1⟩
  case resumed =>
    have hleft := modeMarked_left (s := popRequest l s) ss (if m then .waiting else .playing (s.clock + 1000)) .resume
    rw [exec_resume h, resumeEffect_resumes (s := popRequest l s) hss hm]
    exact ⟨_, rfl, hleft.ply, hleft.ajn, modeMarked_vas, hleft.blocks.1⟩
  case ended =>
    have hadvanced : (onPly (advancePlayer n) s).ply.session = some
        { ss with mode := .playing (n + 1000), position := ss.position + (s.ply.acc + s.ply.tempo) / 100 } := by
      rw [onPly_ply, advancePlayer, hss]
      rfl
    have hleft := endPlayback_left hadvanced .end_
    obtain ⟨htks, hkeys, -, hrlc⟩ := hleft.blocks
    rw [exec_millisecondStep (stepDue_of_playing hp hss hm he), finishStep_past hadvanced rfl hloop hpast]
    exact ⟨_, rfl, hleft.ply, hleft.ajn, htks, hkeys, hrlc⟩

end Sys2Proof.Machine
end

section
namespace Sys2Proof.Machine

variable {s t : State} {ss : Session} {l : Link} {args : List Byte}

/-! ## Records below a time, and the pedals they leave (R127, R147, R153) -/

theorem le_of_mem_withTimes {t0 : Nat} {rs : List TakeRec} {q : TakeRec × Nat} (h : q ∈ withTimes t0 rs) : t0 ≤ q.2 := by
  induction rs generalizing t0 with
  | nil => cases h
  | cons r rs ih =>
    rcases List.mem_cons.mp h with rfl | hrest
    · exact Nat.le_add_right _ _
    · exact (Nat.le_add_right _ _).trans (ih hrest)

/-- Times never fall in take order, so the records below a time are the first ones. -/
theorem takeWhile_withTimes (x t0 : Nat) (rs : List TakeRec) :
    ((withTimes t0 rs).takeWhile fun q => q.2 < x) = (withTimes t0 rs).filter fun q => q.2 < x := by
  induction rs generalizing t0 with
  | nil => rfl
  | cons r rs ih =>
    by_cases hx : t0 + r.ms < x
    · simp only [withTimes, List.takeWhile_cons, List.filter_cons, hx, decide_true, if_true, ih]
    · have hnone : ((withTimes (t0 + r.ms) rs).filter fun q => q.2 < x) = [] :=
        List.filter_eq_nil_iff.mpr fun q hq => by simpa using (Nat.not_lt.mp hx).trans (le_of_mem_withTimes hq)
      simp only [withTimes, List.takeWhile_cons, List.filter_cons, hx, decide_false, Bool.false_eq_true, if_false, hnone]

/-- The last record of a kind. -/
def lastOfKind (rs : List TakeRec) (k : TakeKind) : Option TakeRec := (rs.filter fun r => r.kind = k).getLast?

/-- The lift of a pedal by its last record: a value above 255 is read as 255 (R147, R153). -/
def lastLift : Option TakeRec → Nat
  | some r => min r.value 255
  | none => 0

/-- The sostenuto state by its last record (R147, R153). -/
def lastState : Option TakeRec → Bool
  | some r => r.value != 0
  | none => false

theorem lastOfKind_concat (rs : List TakeRec) (r : TakeRec) (k : TakeKind) :
    lastOfKind (rs ++ [r]) k = if r.kind = k then some r else lastOfKind rs k := by
  unfold lastOfKind
  split <;> simp [List.filter_append, *]

/-- The pedals reconstructed from the start are those of the last record of each, or at rest. -/
theorem reconstruct_eq (rs : List TakeRec) : reconstruct (0, false, 0) rs =
    (lastLift (lastOfKind rs .damper), lastState (lastOfKind rs .sostenuto), lastLift (lastOfKind rs .soft)) := by
  induction rs using List.reverseRecOn with
  | nil => rfl
  | append_singleton rs r ih =>
    unfold reconstruct at ih ⊢
    simp only [List.foldl_append, ih, List.foldl_cons, List.foldl_nil, lastOfKind_concat]
    cases r.kind <;> simp [lastLift, lastState, bne, beq_eq_decide]

/-! ## The requests of the player's settings (R148, R153, R155) -/

theorem exec_setTempo (h : headRequest l s = some (kSetTempo, args)) : exec (.setTempo l) s =
    .next (putReply l kSetTempo (setTempoEffect args (popRequest l s)).2 (setTempoEffect args (popRequest l s)).1) :=
  congrArg Host.Outcome.next (serve_taken _ h)

theorem exec_clearLoop (h : headRequest l s = some (kClearLoop, args)) : exec (.clearLoop l) s =
    .next (putReply l kClearLoop (clearLoopEffect args (popRequest l s)).2 (clearLoopEffect args (popRequest l s)).1) :=
  congrArg Host.Outcome.next (serve_taken _ h)

theorem exec_setLoop (h : headRequest l s = some (kSetLoop, args)) : exec (.setLoop l) s =
    .next (putReply l kSetLoop (setLoopEffect args (popRequest l s)).2 (setLoopEffect args (popRequest l s)).1) :=
  congrArg Host.Outcome.next (serve_taken _ h)

theorem exec_setGuide (h : headRequest l s = some (kSetGuide, args)) : exec (.setGuide l) s =
    .next (putReply l kSetGuide (setGuideEffect args (popRequest l s)).2 (setGuideEffect args (popRequest l s)).1) :=
  congrArg Host.Outcome.next (serve_taken _ h)

theorem setTempoEffect_sets (hlen : 1 ≤ args.length) : setTempoEffect args s =
    statusReply .done (onPly (fun p => { p with tempo := max 25 (min (byteAt args 0) 200) }) s) := by
  rw [setTempoEffect, playerNeeds_enough _ hlen, clamp_eq_max_min (by decide)]

/-! ### SET LOOP (R153) -/

/-- The loop that SET LOOP stores: its snapshot is of the records below its start. -/
def loopOf (s : State) (n : TakeNo) (start stop : Nat) : Loop where
  start := start
  stop := stop
  damper := (loopSnapshot s n start).1
  sostOn := (loopSnapshot s n start).2.1
  soft := (loopSnapshot s n start).2.2

theorem setLoopEffect_sets (hlen : 8 ≤ args.length) (hss : s.ply.session = some ss) (hlt : word32At args 0 < word32At args 4)
    (hle : word32At args 4 ≤ (s.take ss.take).duration) :
    setLoopEffect args s = statusReply .done (setLoop ss (word32At args 0) (word32At args 4) s) := by
  simp only [setLoopEffect, playerNeeds_enough _ hlen, hss, hlt, hle, and_self, if_true]

/-- A loop whose end the position has not passed is stored (R153). -/
theorem setLoop_within {start stop : Nat} (h : ss.position ≤ stop) :
    setLoop ss start stop s = onPly (fun p => { p with loop := some (loopOf s ss.take start stop) }) s :=
  if_neg (Nat.not_lt.mpr h)

/-- A loop that ends before the position is jumped to (R153). -/
theorem setLoop_behind {start stop : Nat} (h : stop < ss.position) :
    setLoop ss start stop s =
      loopJump (loopOf s ss.take start stop) (onPly (fun p => { p with loop := some (loopOf s ss.take start stop) }) s) :=
  if_pos h

theorem loopOf_eq (n : TakeNo) (start stop : Nat) : loopOf s n start stop =
    let last := lastOfKind (((timedRecords s n).filter fun q => q.2 < start).map (·.1))
    { start := start
      stop := stop
      damper := lastLift (last .damper)
      sostOn := lastState (last .sostenuto)
      soft := lastLift (last .soft) } := by
  simp only [loopOf, loopSnapshot, timedRecords, takeWhile_withTimes, reconstruct_eq]

/-! ### SET GUIDE (R155) -/

theorem GuideMode.ofByte_code (mode : GuideMode) : GuideMode.ofByte mode.code = some mode := by
  cases mode <;> rfl

theorem setGuideEffect_sets {mode : GuideMode} {low high : Key} (hlen : 4 ≤ args.length) (hmode : byteAt args 0 = mode.code)
    (hlow : byteAt args 1 = low.val) (hhigh : byteAt args 2 = high.val) (hle : low ≤ high) :
    setGuideEffect args s = statusReply .done (setGuide mode low high (byteAt args 3) s) := by
  simp only [setGuideEffect, playerNeeds_enough _ hlen, hmode, hlow, hhigh, GuideMode.ofByte_code, finOf_val,
    if_neg (not_lt.mpr hle)]

/-- The guide settings replaced, with the collection limit dropped (R155). -/
def Ply.guided (mode : GuideMode) (low high : Key) (window : Nat) (p : Ply) : Ply :=
  { p with guide := mode, low := low, high := high, chordWindow := min window 100, limit := none }

theorem setGuide_nothing_expected (mode : GuideMode) (low high : Key) (window : Nat) (he : s.ply.expected = KeySet.empty) :
    setGuide mode low high window s = onPly (Ply.guided mode low high window) s := by
  unfold setGuide
  cases s.ply.session with
  | none => rfl
  | some ss => exact if_neg (not_not.mpr he)

/-- A PAUSE from a wait becomes one from PLAYING, with nothing expected (R155). -/
theorem setGuide_paused_left (mode : GuideMode) (low high : Key) (window : Nat) (hss : s.ply.session = some ss)
    (hm : ss.mode = .paused true) (he : s.ply.expected ≠ KeySet.empty) :
    PlayLeft { s.ply.guided mode low high window with
        expected := KeySet.empty, session := some { ss with mode := .paused false } }
      (s.ajn.push (markEvent s.clock .cleared ss.take)) s (setGuide mode low high window s) := by
  have hsession : some { ss with mode := .paused false } = s.ply.session.map fun x => { x with mode := .paused false } := by
    rw [hss]
    rfl
  simp only [setGuide, hss, he, ne_eq, not_false_eq_true, if_true, clearExpected, hm]
  rw [hsession]
  exact (((PlayLeft.start.onPly _).onPly _).playMark .cleared ss.take).onSession _

/-! ### The millisecond step that reaches a loop's end (R148, R154) -/

/-- The first two parts of a millisecond step, with the session written out (R148). -/
theorem advancePlayer_eq (hss : s.ply.session = some ss) (n : Clock) : onPly (advancePlayer n) s = onPly (fun p =>
    { p with
      acc := (p.acc + p.tempo) % 100
      session := some { ss with mode := .playing (n + 1000), position := ss.position + (p.acc + p.tempo) / 100 } }) s := by
  simp only [onPly, advancePlayer, hss, Option.map_some]

theorem loopReached_some {p : Ply} {lp : Loop} (hss : p.session = some ss) (hloop : p.loop = some lp) (h : lp.stop ≤ ss.position) :
    p.loopReached = some lp := by
  simp only [Ply.loopReached, hss, hloop, h, if_true]

/-- No record above the loop's end is played (R148, step 3). -/
theorem nothingDue_of_loop {lp : Loop} (hloop : s.ply.loop = some lp)
    (h : ∀ r x rest, (timedRecords s ss.take).drop ss.cursor = (r, x) :: rest → lp.stop < x) : NothingDue s ss :=
  fun r x rest hahead => Bool.eq_false_iff.mpr fun hmay => absurd ((mayPlay_iff.mp hmay).2 lp hloop)
    (Nat.not_le.mpr (h r x rest hahead))

/-- Settles O43: each request by its effect, the jump by what it leaves, the snapshot by the last records below the
start. -/
theorem playerSettings : Obligations.PlayerSettings := by
  refine ⟨⟨fun l args s => ⟨fun h hlen => ?tempo, fun h => ?cleared, fun ss h hlen hss hlt hle hpos => ?stored,
      fun mode low high h hlen hmode hlow hhigh hle => ⟨fun he => ?guided, fun ss hss hm he => ?uncollected⟩⟩,
      fun lp ss s hss => ?jump, fun l args ss s h hlen hss hlt hle hpos => ?behind,
      fun ss n lp s hp hss hm he hloop hpos hahead => ?reached⟩,
    fun l args ss s h hlen hss hlt hle => ?snapshot⟩
  case tempo =>
    rw [exec_setTempo h, setTempoEffect_sets hlen]
    exact ⟨_, rfl, rfl⟩
  case cleared =>
    rw [exec_clearLoop h]
    exact ⟨_, rfl, rfl⟩
  case stored =>
    rw [exec_setLoop h, setLoopEffect_sets (s := popRequest l s) hlen hss hlt hle, setLoop_within hpos]
    exact ⟨_, _, rfl, rfl, rfl, rfl⟩
  case guided =>
    rw [exec_setGuide h, setGuideEffect_sets hlen hmode hlow hhigh hle,
      setGuide_nothing_expected (s := popRequest l s) _ _ _ _ he]
    exact ⟨_, rfl, rfl⟩
  case uncollected =>
    have hleft := setGuide_paused_left (s := popRequest l s) mode low high (byteAt args 3) hss hm he
    rw [exec_setGuide h, setGuideEffect_sets hlen hmode hlow hhigh hle]
    exact ⟨_, rfl, hleft.ply, hleft.ajn⟩
  case jump =>
    obtain ⟨u, hu, hleft⟩ := loopJump_left hss lp
    obtain ⟨htks, hkeys, -, -⟩ := hleft.blocks
    refine ⟨u, hu, ?_, hleft.ajn, htks, hkeys⟩
    rw [hleft.ply]
    cases hm : ss.mode <;> simp only [Ply.jumped, hm] <;> rfl
  case behind =>
    rw [exec_setLoop h, setLoopEffect_sets (s := popRequest l s) hlen hss hlt hle, setLoop_behind hpos]
    exact ⟨_, _, _, rfl, rfl, rfl, rfl, rfl⟩
  case reached =>
    have hadvanced := congrArg (fun v : State => v.ply.session) (advancePlayer_eq hss n)
    rw [exec_millisecondStep (stepDue_of_playing hp hss hm he),
      finishStep_of_nothingDue hadvanced rfl (nothingDue_of_loop hloop hahead), loopReached_some hadvanced hloop hpos]
    exact congrArg (fun v => Host.Outcome.next (loopJump lp v)) (advancePlayer_eq hss n)
  case snapshot =>
    intro below last lp u t
    have hlp : loopOf s ss.take (word32At args 0) (word32At args 4) = lp := by
      rw [loopOf_eq]
      rfl
    rw [exec_setLoop h, setLoopEffect_sets (s := popRequest l s) hlen hss hlt hle]
    have hset : setLoop ss (word32At args 0) (word32At args 4) (popRequest l s) = t := by
      simp only [t, u, ← hlp]
      rfl
    rw [hset]
    rfl

end Sys2Proof.Machine
end

section
namespace Sys2Proof.Machine

variable {s t : State} {ss : Session} {r : TakeRec}

/-! ## One record played (R149, R150, R156, R159) -/

theorem Ply.guideRecord_iff (p : Ply) : p.guideRecord r = true ↔
    p.guide ≠ .none ∧ (r.kind = .strike ∨ r.kind = .release) ∧ p.low ≤ r.key ∧ r.key ≤ p.high := by
  simp [Ply.guideRecord, Ply.inRange, and_assoc]

theorem playRecord_strike (hk : r.kind = .strike) (hg : s.ply.guideRecord r = false) : playRecord r s =
    playbackEvent (strikeKind s.ply r.key) (some r.key.val) (playLevel r.value) false
      (setPlayKeys (s.ply.keys.add r.key) s) := by
  simp only [playRecord, hk, hg, Bool.false_eq_true, if_false]

theorem playRecord_guide_strike (hk : r.kind = .strike) (hg : s.ply.guideRecord r = true) : playRecord r s =
    playbackEvent (strikeKind s.ply r.key) (some r.key.val) (playLevel r.value) true s := by
  simp only [playRecord, hk, hg, if_true]

/-- Under WAIT a guide release lets its key go without an event (R159). -/
theorem playRecord_awaited_release (hk : r.kind = .release) (hg : s.ply.guideRecord r = true) (hm : s.ply.guide = .wait) :
    playRecord r s = setPlayKeys (s.ply.keys.drop r.key) s := by
  simp only [playRecord, hk, hg, hm, if_true]

/-- Any other release makes its event, with GUIDE on a guide record (R149, R156). -/
theorem playRecord_release (hk : r.kind = .release) {guide : Bool} (hg : s.ply.guideRecord r = guide)
    (hm : guide = true → s.ply.guide ≠ .wait) : playRecord r s =
    playbackEvent .release (some r.key.val) (playLevel r.value) guide (setPlayKeys (s.ply.keys.drop r.key) s) := by
  cases guide with
  | false => simp only [playRecord, hk, hg, Bool.false_eq_true, if_false]
  | true => simp only [playRecord, hk, hg, if_true, if_neg (hm rfl)]

theorem playRecord_damper (hk : r.kind = .damper) :
    playRecord r s = playbackEvent .damper none (min r.value 255) false (setPlayDamper (min r.value 255) s) := by
  simp only [playRecord, hk]

theorem playRecord_soft (hk : r.kind = .soft) :
    playRecord r s = playbackEvent .soft none (min r.value 255) false (setPlaySoft (min r.value 255) s) := by
  simp only [playRecord, hk]

theorem playRecord_sostenuto_on (hk : r.kind = .sostenuto) (hv : r.value ≠ 0) (ho : s.ply.sostOn = false) : playRecord r s =
    playbackEvent .sostenuto (some s.ply.keys.size) 1 false (setPlaySost true (s.ply.sostSet.union s.ply.keys) s) := by
  simp only [playRecord, hk, ho, if_pos hv, Bool.false_eq_true, if_false]

theorem playRecord_sostenuto_off (hk : r.kind = .sostenuto) (hv : r.value = 0) (ho : s.ply.sostOn = true) : playRecord r s =
    playbackEvent .sostenuto (some s.ply.sostSet.size) 0 false (setPlaySost false KeySet.empty s) := by
  simp only [playRecord, hk, hv, ho, ne_eq, not_true_eq_false, if_false, if_true]

/-- A sostenuto record that asks for the state as it is captures and lets go nothing (R150). -/
theorem playRecord_sostenuto_same (hk : r.kind = .sostenuto) (h : r.value ≠ 0 ↔ s.ply.sostOn = true) :
    playRecord r s = playbackEvent .sostenuto (some 0) (if r.value ≠ 0 then 1 else 0) false s := by
  by_cases hv : r.value = 0
  · have ho : s.ply.sostOn = false := Bool.eq_false_iff.mpr fun ho => h.mpr ho hv
    simp only [playRecord, hk, hv, ho, ne_eq, not_true_eq_false, if_false, Bool.false_eq_true]
  · simp only [playRecord, hk, h.mp hv, ne_eq, hv, not_false_eq_true, if_true]

theorem playRecord_pause (hk : r.kind = .pause) : playRecord r s = s := by
  simp only [playRecord, hk]

/-- A record played touches no take, no key, no pedal and not the rail. -/
theorem playRecord_blocks (r : TakeRec) : (playRecord r s).tks = s.tks ∧ (playRecord r s).keys = s.keys
    ∧ (playRecord r s).pdu = s.pdu ∧ (playRecord r s).rlc = s.rlc := by
  obtain ⟨_, _, hleft, -⟩ := playRecord_left (s := s) r
  exact hleft.blocks

/-! ## The records ahead (R148, R157) -/

theorem playFrom_not_due {x : Nat} {rest : List (TakeRec × Nat)} (hss : s.ply.session = some ss)
    (h : s.ply.mayPlay ss.position x = false) : playFrom ((r, x) :: rest) s = s := by
  simp only [playFrom, hss, h, Bool.false_eq_true, if_false]

theorem playFrom_due {x : Nat} {rest : List (TakeRec × Nat)} (hss : s.ply.session = some ss)
    (h : s.ply.mayPlay ss.position x = true) (hc : collects s.ply ss.cursor r = false) :
    playFrom ((r, x) :: rest) s = playFrom rest (advanceCursor (playRecord r s)) := by
  simp only [playFrom, hss, h, hc, Bool.false_eq_true, if_false, if_true]

theorem playFrom_collects {x : Nat} {rest : List (TakeRec × Nat)} (hss : s.ply.session = some ss)
    (h : s.ply.mayPlay ss.position x = true) (hc : collects s.ply ss.cursor r = true) :
    playFrom ((r, x) :: rest) s = collectChord x ((r, x) :: rest) s := by
  simp only [playFrom, hss, h, hc, if_true]

/-- Under WAIT a strike is a guide record where its key lies in the guide range. -/
theorem guideRecord_strike {p : Ply} (hm : p.guide = .wait) (hk : r.kind = .strike) :
    p.guideRecord r = true ↔ p.low ≤ r.key ∧ r.key ≤ p.high := by
  simp [Ply.guideRecord_iff, hm, hk]

theorem collects_iff_inRange {p : Ply} {cursor : Nat} : collects p cursor r = true ↔
    p.guide = .wait ∧ r.kind = .strike ∧ p.low ≤ r.key ∧ r.key ≤ p.high ∧ ∀ c, p.limit = some c → c ≤ cursor := by
  rw [collects_iff]
  constructor
  · rintro ⟨hm, hk, hg, hlimit⟩
    obtain ⟨hlow, hhigh⟩ := (guideRecord_strike hm hk).mp hg
    exact ⟨hm, hk, hlow, hhigh, hlimit⟩
  · rintro ⟨hm, hk, hlow, hhigh, hlimit⟩
    exact ⟨hm, hk, (guideRecord_strike hm hk).mpr ⟨hlow, hhigh⟩, hlimit⟩

/-- The chord that a WAIT collects: what was expected, and the strikes in range of the records looked at (R157). -/
theorem Ply.chord_has_inRange {p : Ply} (hm : p.guide = .wait) (looked : List (TakeRec × Nat)) (k : Key) :
    (p.chord looked).has k = true ↔ p.expected.has k = true
      ∨ ∃ q ∈ looked, q.1.kind = .strike ∧ q.1.key = k ∧ p.low ≤ k ∧ k ≤ p.high := by
  rw [Ply.chord_has]
  refine or_congr_right (exists_congr fun q => and_congr_right fun _ => and_congr_right fun hk => ?_)
  rw [guideRecord_strike hm hk]
  constructor
  · rintro ⟨hrange, rfl⟩
    exact ⟨rfl, hrange⟩
  · rintro ⟨rfl, hrange⟩
    exact ⟨hrange, rfl⟩

/-! ## Live strikes (R158) -/

theorem playerEvent_of_playback {e : Event} (h : e.source = .playback) : playerEvent e s = s := by
  simp [playerEvent, h]

/-- The strike of the last key expected ends the wait (R158). -/
theorem playerEvent_last {e : Event} {k : Key} (hk : e.key = some k.val) (hl : e.source = .live)
    (hs : e.kind = .strike ∨ e.kind = .restrike) (hss : s.ply.session = some ss) (hm : ss.mode = .waiting)
    (hhas : s.ply.expected.has k = true) (hlast : s.ply.expected.drop k = KeySet.empty) :
    playerEvent e s = endWait .met ss.take (onPly (fun p => { p with expected := KeySet.empty }) s) := by
  have hw := (Ply.isWaiting_iff hss).mpr hm
  simp only [playerEvent, hl, hs, hw, and_self, if_true, hk, Option.bind_some, finOf_val, hss, hhas, hlast]

/-- Settles O44: the step with nothing due, a record by its kind, the records ahead by due and collection, a strike by
what the player waits for. -/
theorem millisecondStepAddsTempo : Obligations.MillisecondStepAddsTempo := by
  refine ⟨fun ss n r x rest s hp hss hm he hloop hahead hx hcount => ?stepped, fun r s => ?played,
    fun r x rest ss s hss => ?ahead, fun e k ss s hss hk => ⟨fun h => ?ignored, fun hl hs hm hhas => ⟨fun hne => ?awaited,
      fun hlast => ?met⟩⟩⟩
  case stepped =>
    have hadvanced := congrArg (fun v : State => v.ply.session) (advancePlayer_eq hss n)
    have hdue : NothingDue (onPly (advancePlayer n) s)
        { ss with mode := .playing (n + 1000), position := ss.position + (s.ply.acc + s.ply.tempo) / 100 } :=
      fun r' x' rest' hahead' => by
        cases hahead.symm.trans hahead'
        exact Bool.eq_false_iff.mpr fun hmay => absurd (mayPlay_iff.mp hmay).1 (Nat.not_le.mpr hx)
    refine ⟨ss.position + (s.ply.acc + s.ply.tempo) / 100, (s.ply.acc + s.ply.tempo) % 100, ?_, by omega, by omega⟩
    rw [exec_millisecondStep (stepDue_of_playing hp hss hm he), finishStep_of_nothingDue hadvanced rfl hdue,
      loopReached_none (p := (onPly (advancePlayer n) s).ply) hloop, Option.elim_none, endIfPast_before hadvanced hcount]
    exact congrArg Host.Outcome.next (advancePlayer_eq hss n)
  case played =>
    intro p t level guide made
    have hstart := PlayLeft.start (s := s)
    have hkeys {S : KeySet} := hstart.setPlayKeys S
    obtain ⟨htks, hkeysKept, hpdu, hrlc⟩ := playRecord_blocks (s := s) r
    have hguide (hk : r.kind = .strike ∨ r.kind = .release) : p.guideRecord r = true ↔ guide := by
      rw [Ply.guideRecord_iff]
      exact and_congr_right fun _ => and_iff_right hk
    have hplain (hk : r.kind = .strike ∨ r.kind = .release) (hg : ¬guide) : p.guideRecord r = false :=
      Bool.eq_false_iff.mpr (mt (hguide hk).mp hg)
    have hleaves {v : State} {P : Ply} {A : Ajn} (ht : playRecord r s = v) (h : PlayLeft P A s v) :
        t.ply = P ∧ t.ajn = A := by
      rw [show t = v from ht]
      exact ⟨h.ply, h.ajn⟩
    refine ⟨htks, hkeysKept, hpdu, hrlc, fun hk hg => ?strike, fun hk hg => ?guideStrike, fun hk hg => ?release,
      fun hk hg hm => ?muted, fun hk hg hm => ?dropped, fun hk => ?damper, fun hk => ?soft, fun hk hv ho => ?on,
      fun hk hv ho => ?off, fun hk h => ?same, fun hk => playRecord_pause hk⟩
    case strike => exact hleaves (playRecord_strike hk (hplain (.inl hk) hg)) (hkeys.playbackEvent _ _ _ _)
    case guideStrike =>
      have heq := playRecord_guide_strike hk ((hguide (.inl hk)).mpr hg)
      obtain ⟨hply, hajn⟩ := hleaves heq (hstart.playbackEvent _ _ _ _)
      exact ⟨hply, (congrArg State.vas heq).trans (playbackEvent_vas (.inr rfl) _ _), hajn⟩
    case release =>
      exact hleaves (playRecord_release hk (hplain (.inr hk) hg) nofun) (hkeys.playbackEvent _ _ _ _)
    case muted =>
      exact hleaves (playRecord_release hk ((hguide (.inr hk)).mpr hg) fun _ hw => by simp [p, hw] at hm)
        (hkeys.playbackEvent _ _ _ _)
    case dropped => exact hleaves (playRecord_awaited_release hk ((hguide (.inr hk)).mpr hg) hm) hkeys
    case damper => exact hleaves (playRecord_damper hk) ((hstart.setPlayDamper _).playbackEvent _ _ _ _)
    case soft => exact hleaves (playRecord_soft hk) ((hstart.setPlaySoft _).playbackEvent _ _ _ _)
    case on => exact hleaves (playRecord_sostenuto_on hk hv ho) ((hstart.setPlaySost _ _).playbackEvent _ _ _ _)
    case off => exact hleaves (playRecord_sostenuto_off hk hv ho) ((hstart.setPlaySost _ _).playbackEvent _ _ _ _)
    case same => exact hleaves (playRecord_sostenuto_same hk h) (hstart.playbackEvent _ _ _ _)
  case ahead =>
    intro p due collect t
    have hmay : p.mayPlay ss.position x = true ↔ due := mayPlay_iff
    have hcollects : collects p ss.cursor r = true ↔ collect := collects_iff_inRange
    refine ⟨fun hd => playFrom_not_due hss (Bool.eq_false_iff.mpr (mt hmay.mp hd)),
      fun hd hc => playFrom_due hss (hmay.mpr hd) (Bool.eq_false_iff.mpr (mt hcollects.mp hc)), fun hd hc => ?_⟩
    intro bound looked
    have ⟨hwait, _⟩ := hc
    have hleft := collectChord_left hss x ((r, x) :: rest)
    rw [show t = collectChord x ((r, x) :: rest) s from playFrom_collects hss (hmay.mpr hd) (hcollects.mpr hc)]
    refine ⟨?_, fun k => ?_, hleft.ajn, collectChord_vas _ _, hleft.blocks.1⟩
    · rw [hleft.ply]
      rfl
    · rw [hleft.ply]
      exact Ply.chord_has_inRange hwait looked k
  case ignored =>
    rcases h with hplayback | ⟨hstrike, hrestrike⟩ | hm | hnot
    · exact playerEvent_of_playback hplayback
    · exact playerEvent_of_not_strike (not_or.mpr ⟨hstrike, hrestrike⟩)
    · exact playerEvent_not_awaited hk (.inl (Bool.eq_false_iff.mpr (mt (Ply.isWaiting_iff hss).mp hm)))
    · exact playerEvent_not_awaited hk (.inr hnot)
  case awaited => exact playerEvent_awaited hk hl hs ((Ply.isWaiting_iff hss).mpr hm) hhas hne
  case met =>
    obtain ⟨u, hu, hleft, hvas⟩ :=
      endWait_left (s := onPly (fun p => { p with expected := KeySet.empty }) s) hss .met ss.take
    exact ⟨u, (playerEvent_last hk hl hs hss hm hhas hlast).trans hu, hleft.ply, hleft.ajn, hvas, hleft.blocks.1⟩

end Sys2Proof.Machine
end

section
namespace Sys2Proof.Machine

variable {s t : State} {l : Link} {args : List Byte} {n : TakeNo}

/-! ## TAKE PLAY (R147) -/

theorem exec_takePlay (h : headRequest l s = some (kTakePlay, args)) : exec (.takePlay l) s =
    .next (putReply l kTakePlay (takePlayEffect args (popRequest l s)).2 (takePlayEffect args (popRequest l s)).1) :=
  congrArg Host.Outcome.next (serve_taken _ h)

/-- The start position that a TAKE PLAY asks for. -/
def playStart (args : List Byte) : Nat := if bitOf args 1 1 then word32At args 3 else 0

/-- The tempo that a TAKE PLAY asks for, if any. -/
def playTempo (args : List Byte) : Option Nat := if bitOf args 1 0 then some (byteAt args 2) else none

theorem takePlayEffect_starts (hlen : 7 ≤ args.length) (hn : byteAt args 0 = n.val) (hclosed : (s.take n).state = .closed)
    (hstart : playStart args ≤ (s.take n).duration) :
    takePlayEffect args s = statusReply .done (startPlayback n (playTempo args) (playStart args) s) := by
  have hwithin := Nat.not_lt.mpr hstart
  unfold playStart at hwithin
  simp only [takePlayEffect, playerNeeds_enough _ hlen, hn, finOf_val, hclosed, ne_eq, not_true_eq_false, if_false, hwithin]
  rfl

theorem takePlayEffect_refuses (hlen : 7 ≤ args.length) (hn : byteAt args 0 = n.val) (hclosed : (s.take n).state = .closed)
    (hstart : (s.take n).duration < playStart args) : takePlayEffect args s = statusReply .argument s := by
  unfold playStart at hstart
  simp only [takePlayEffect, playerNeeds_enough _ hlen, hn, finOf_val, hclosed, ne_eq, not_true_eq_false, if_false, hstart,
    if_true]

/-- The tempo a TAKE PLAY leaves: the one carried, clamped, or the one before (R147, R148). -/
def tempoAfter (tempo : Option Nat) (p : Ply) : Nat :=
  match tempo with
  | some x => clamp 25 200 x
  | none => p.tempo

/-- The player with a playback under way stopped, and the tempo taken over (R147, step 1). -/
def stoppedWith (tempo : Option Nat) (s : State) : State :=
  let stopped := if s.ply.session.isSome then stopPlayback s else s
  match tempo with
  | some x => onPly (fun p => { p with tempo := clamp 25 200 x }) stopped
  | none => stopped

theorem startPlayback_eq (n : TakeNo) (tempo : Option Nat) (start : Nat) (s : State) :
    startPlayback n tempo start s = playDueThenEnd (setUpTake n start (stoppedWith tempo s)) := rfl

theorem stoppedWith_idle (tempo : Option Nat) (h : s.ply.session = none) :
    stoppedWith tempo s = onPly (fun p => { p with tempo := tempoAfter tempo p }) s := by
  unfold stoppedWith
  rw [h]
  cases tempo <;> rfl

theorem stoppedWith_left (tempo : Option Nat) {P : Ply} {A : Ajn}
    (h : PlayLeft P A s (if s.ply.session.isSome then stopPlayback s else s)) :
    PlayLeft { P with tempo := tempoAfter tempo P } A s (stoppedWith tempo s) := by
  unfold stoppedWith
  cases tempo with
  | none => exact h
  | some x => exact h.onPly _

/-- The player on a take after whatever it was on before: keys sounding from an earlier playback are let go (R147). -/
def Ply.startedOn (p : Ply) (tempo : Option Nat) (n : TakeNo) (cursor start : Nat) (pedals : Nat × Bool × Nat) (now : Clock) : Ply :=
  { p.setUp n cursor start pedals now with
    tempo := tempoAfter tempo p
    keys := if p.session = none then p.keys else KeySet.empty }

/-- The journal after a TAKE PLAY is set up: the STOP mark of a playback under way, and START (R145, R147). -/
def startedJournal (s : State) (n : TakeNo) : Ajn :=
  match s.ply.session with
  | some ss => (s.ajn.push (markEvent s.clock .stop ss.take)).push (markEvent s.clock .start n)
  | none => s.ajn.push (markEvent s.clock .start n)

theorem setUpTake_stoppedWith_left (n : TakeNo) (tempo : Option Nat) (start : Nat) :
    PlayLeft (s.ply.startedOn tempo n (indexAt (timedRecords s n) start) start (pedalsBefore s n start) s.clock)
      (startedJournal s n) s (setUpTake n start (stoppedWith tempo s)) := by
  cases hss : s.ply.session with
  | none =>
    have hidle : PlayLeft s.ply s.ajn s (if s.ply.session.isSome then stopPlayback s else s) := by
      rw [hss]
      exact PlayLeft.start
    simp only [Ply.startedOn, startedJournal, hss, if_true]
    exact setUpTake_left (stoppedWith_left tempo hidle) n start
  | some ss =>
    have hstopped : PlayLeft s.ply.ended (s.ajn.push (markEvent s.clock .stop ss.take)) s
        (if s.ply.session.isSome then stopPlayback s else s) := by
      rw [hss]
      exact endPlayback_left hss .stop
    simp only [Ply.startedOn, startedJournal, hss, reduceCtorEq, if_false]
    exact setUpTake_left (stoppedWith_left tempo hstopped) n start

/-! ### The records before a start position (R147, step 3) -/

/-- The records of take `n` before `start`. -/
def recordsBefore (s : State) (n : TakeNo) (start : Nat) : List (TakeRec × Nat) := (timedRecords s n).filter fun q => q.2 < start

theorem indexAt_eq (n : TakeNo) (start : Nat) : indexAt (timedRecords s n) start = (recordsBefore s n start).length := by
  rw [indexAt, recordsBefore, timedRecords, takeWhile_withTimes]

theorem pedalsBefore_eq (n : TakeNo) (start : Nat) : pedalsBefore s n start =
    let last := lastOfKind ((recordsBefore s n start).map (·.1))
    (lastLift (last .damper), lastState (last .sostenuto), lastLift (last .soft)) := by
  have htake : (timedRecords s n).take (indexAt (timedRecords s n) start) = recordsBefore s n start := by
    rw [indexAt, ← List.prefix_iff_eq_take.mp (List.takeWhile_prefix _), timedRecords, takeWhile_withTimes]
    rfl
  rw [pedalsBefore, htake, reconstruct_eq]

theorem recordsBefore_zero (n : TakeNo) : recordsBefore s n 0 = [] := by
  simp [recordsBefore]

/-! ### TAKE PLAY with nothing due (R147, R148) -/

/-- A player whose pedals are at rest already has nothing to tell the voices when it is set up at the start. -/
theorem setUpTake_vas (hdamper : s.ply.damper = 0) (hsoft : s.ply.soft = 0) (hset : s.ply.sostSet = KeySet.empty) :
    (setUpTake n 0 s).vas = s.vas := by
  have hpedals : reconstruct (0, false, 0) (((timedRecords s n).take (indexAt (timedRecords s n) 0)).map (·.1)) = (0, false, 0) := by
    rw [indexAt_eq, recordsBefore_zero]
    rfl
  unfold setUpTake
  dsimp only
  rw [hpedals]
  dsimp only
  rw [setPlayDamper_same, setPlaySost_same, setPlaySoft_same, playStateRaised_vas, playMark_vas]
  · rfl
  · exact hsoft.symm
  · exact hset.symm
  · exact hdamper.symm

/-- With a record ahead that is not due yet a player set up on its take stays where it is (R147, R151). -/
theorem playDueThenEnd_of_nothingDue {ss : Session} (hss : s.ply.session = some ss) (h : NothingDue s ss)
    (hcount : ss.cursor < (s.take ss.take).count) : playDueThenEnd s = s := by
  rw [playDueThenEnd, playDue_of_nothingDue hss h, endIfPast_before hss hcount]

/-- At position 0 a first record with a time above 0 is not due. -/
theorem nothingDue_at_start {r : TakeRec} {x : Nat} {rest : List (TakeRec × Nat)} {mode : PlayMode}
    (hrecords : timedRecords s n = (r, x) :: rest) (hx : 0 < x) :
    NothingDue s { take := n, cursor := 0, position := 0, mode := mode } := fun r' x' rest' hahead => by
  cases hrecords.symm.trans hahead
  exact Bool.eq_false_iff.mpr fun hmay => absurd (mayPlay_iff.mp hmay).1 (Nat.not_le.mpr hx)

theorem timedRecords_cons {r : TakeRec} {rest : List TakeRec} (h : takeRecords s n = r :: rest) :
    timedRecords s n = (r, r.ms) :: withTimes r.ms rest := by
  rw [timedRecords, h, withTimes, Nat.zero_add]

/-- With its pedals at rest an IDLE player changes in its settings of playback alone when it starts a take (R147). -/
theorem Ply.startedOn_at_rest {p : Ply} (hidle : p.session = none) (hdamper : p.damper = 0) (hsoft : p.soft = 0)
    (hon : p.sostOn = false) (hset : p.sostSet = KeySet.empty) (tempo : Option Nat) (now : Clock) :
    p.startedOn tempo n 0 0 (0, false, 0) now =
      { p with
        tempo := tempoAfter tempo p, acc := 0, loop := none, expected := KeySet.empty, limit := none
        session := some { take := n, cursor := 0, position := 0, mode := .playing (now + 1000) } } := by
  simp only [Ply.startedOn, Ply.setUp, hidle, if_true, hdamper, hsoft, hon, hset]

theorem tempoAfter_playTempo (args : List Byte) (p : Ply) :
    tempoAfter (playTempo args) p = if bitOf args 1 0 then max 25 (min (byteAt args 2) 200) else p.tempo := by
  unfold playTempo
  split
  · exact clamp_eq_max_min (by decide) _
  · rfl

/-- Settles O41: the set-up of the player on a take, and, where no record is due, that nothing follows it. -/
theorem takePlayStartsTake : Obligations.TakePlayStartsTake := by
  refine ⟨fun l args n s h hlen hn hclosed => ⟨fun r rest hfrom hidle hrecords hms hcount hdamper hsoft hon hset => ?started,
    fun hfrom hlong => ?refused⟩, fun l args n start s h hlen hn hclosed hstart hle => ?setUp⟩
  case started =>
    have hstart : playStart args = 0 := by simp [playStart, hfrom]
    have hleft := setUpTake_stoppedWith_left (s := popRequest l s) n (playTempo args) 0
    have hpopped : (popRequest l s).ply.session = none := hidle
    rw [indexAt_eq, recordsBefore_zero, pedalsBefore_eq, recordsBefore_zero] at hleft
    have hstays := playDueThenEnd_of_nothingDue (congrArg Ply.session hleft.ply)
      (nothingDue_at_start ((hleft.timedRecords n).trans (timedRecords_cons hrecords)) hms)
      (by rw [hleft.take]; exact Nat.pos_of_ne_zero hcount)
    rw [exec_takePlay h, takePlayEffect_starts (s := popRequest l s) hlen hn hclosed (by omega), hstart, startPlayback_eq, hstays]
    obtain ⟨htks, hkeys, -⟩ := hleft.blocks
    refine ⟨_, rfl, ?_, ?_, htks, hkeys, ?_⟩
    · rw [hleft.ply, ← tempoAfter_playTempo]
      exact Ply.startedOn_at_rest hidle hdamper hsoft hon hset _ _
    · rw [hleft.ajn, startedJournal, hpopped]
      rfl
    · rw [stoppedWith_idle _ hpopped]
      exact setUpTake_vas hdamper hsoft hset
  case refused =>
    have hbehind : (s.take n).duration < playStart args := by simpa [playStart, hfrom] using hlong
    rw [exec_takePlay h, takePlayEffect_refuses (s := popRequest l s) hlen hn hclosed hbehind]
    rfl
  case setUp =>
    intro before last mark
    have hleft := setUpTake_stoppedWith_left (s := popRequest l s) n (playTempo args) start
    obtain ⟨htks, hkeys, hpdu, hrlc⟩ := hleft.blocks
    subst hstart
    refine ⟨_, ?_, ?_, hleft.ajn, htks, hkeys, hpdu, hrlc⟩
    · rw [exec_takePlay h, takePlayEffect_starts (s := popRequest l s) hlen hn hclosed hle]
      rfl
    · rw [hleft.ply, indexAt_eq, pedalsBefore_eq, Ply.startedOn, tempoAfter_playTempo]
      rfl

end Sys2Proof.Machine
end

section
namespace Sys2Proof.Machine

variable {s t : State} {i : Instr} {l : Link} {k : Byte} {e : List Byte → State → State × Reply}

/-! ## The requests, each with its kind and its effect (R164, R174) -/

/-- Command `i` takes the requests of kind `k` from link `l`, with this effect. -/
inductive Serves : Instr → Link → Byte → (List Byte → State → State × Reply) → Prop
  | hello l : Serves (.hello l) l kHello (helloEffect l)
  | setLink l : Serves (.setLink l) l kSetLink (setLinkEffect l)
  | claimRole l : Serves (.claimRole l) l kClaimRole (claimRoleEffect l)
  | readKeys l : Serves (.readKeys l) l kReadKeys (readKeysEffect l)
  | setWindow l : Serves (.setWindow l) l kSetWindow (setWindowEffect l)
  | readWindow l : Serves (.readWindow l) l kReadWindow (readWindowEffect l)
  | depthStream l : Serves (.depthStream l) l kDepthStream (depthStreamEffect l)
  | setScanList l : Serves (.setScanList l) l kSetScanList setScanListEffect
  | openJournal l : Serves (.openJournal l) l kOpenJournal (openJournalEffect l)
  | readJournal l : Serves (.readJournal l) l kReadJournal (readJournalEffect l)
  | closeJournal l : Serves (.closeJournal l) l kCloseJournal (closeJournalEffect l)
  | setLayers l : Serves (.setLayers l) l kSetLayers setLayersEffect
  | readVoices l : Serves (.readVoices l) l kReadVoices (readVoicesEffect l)
  | voiceEnded l : Serves (.voiceEnded l) l kVoiceEnded (voiceEndedEffect l)
  | railDemand l : Serves (.railDemand l) l kRailDemand (railDemandEffect l)
  | railRecover l : Serves (.railRecover l) l kRailRecover railRecoverEffect
  | readRail l : Serves (.readRail l) l kReadRail readRailEffect
  | takeRecord l : Serves (.takeRecord l) l kTakeRecord takeRecordEffect
  | takeStop l : Serves (.takeStop l) l kTakeStop takeStopEffect
  | takeLoad l : Serves (.takeLoad l) l kTakeLoad takeLoadEffect
  | writeTakeRecords l : Serves (.writeTakeRecords l) l kWriteTakeRecords writeTakeRecordsEffect
  | loadEnd l : Serves (.loadEnd l) l kLoadEnd loadEndEffect
  | takeKeep l : Serves (.takeKeep l) l kTakeKeep (keepEffect l true)
  | takeUnkeep l : Serves (.takeUnkeep l) l kTakeUnkeep (keepEffect l false)
  | takeErase l : Serves (.takeErase l) l kTakeErase takeEraseEffect
  | readTakeDirectory l : Serves (.readTakeDirectory l) l kReadTakeDirectory (readTakeDirectoryEffect l)
  | readTakeRecords l : Serves (.readTakeRecords l) l kReadTakeRecords (readTakeRecordsEffect l)
  | takePlay l : Serves (.takePlay l) l kTakePlay takePlayEffect
  | stop l : Serves (.stop l) l kStop stopEffect
  | pause l : Serves (.pause l) l kPause pauseEffect
  | resume l : Serves (.resume l) l kResume resumeEffect
  | setTempo l : Serves (.setTempo l) l kSetTempo setTempoEffect
  | setLoop l : Serves (.setLoop l) l kSetLoop setLoopEffect
  | clearLoop l : Serves (.clearLoop l) l kClearLoop clearLoopEffect
  | setGuide l : Serves (.setGuide l) l kSetGuide setGuideEffect
  | calRead l : Serves (.calRead l) l kCalRead (calReadEffect l)
  | calWrite l : Serves (.calWrite l) l kCalWrite (calWriteEffect l)
  | calCommit l : Serves (.calCommit l) l kCalCommit (calCommitEffect l)
  | calDefaults l : Serves (.calDefaults l) l kCalDefaults (calDefaultsEffect l)
  | noticeSet l : Serves (.noticeSet l) l kNoticeSet (noticeSetEffect l)
  | noticeMask l : Serves (.noticeMask l) l kNoticeMask (noticeMaskEffect l)
  | readFaults l : Serves (.readFaults l) l kReadFaults readFaultsEffect
  | clearFaults l : Serves (.clearFaults l) l kClearFaults clearFaultsEffect
  | systemReset l : Serves (.systemReset l) l kSystemReset (systemResetEffect l)

theorem Serves.exec_eq (h : Serves i l k e) (s : State) : exec i s = .next (serve l k e s) := by
  cases h <;> rfl

/-- One link of the chain of kinds in `requestCommand`: the kind is served here, or further on. -/
theorem serves_or {i' : Instr} {k' : Byte} {others : Option Instr} (hs : Serves i' l k' e)
    (hothers : others = some i → ∃ e, Serves i l k e) : (if k = k' then some i' else others) = some i → ∃ e, Serves i l k e := by
  split
  · next hk =>
    rintro ⟨⟩
    exact ⟨e, hk ▸ hs⟩
  · exact hothers

/-- The command that takes a kind serves it. -/
theorem serves_of_requestCommand : requestCommand l k = some i → ∃ e, Serves i l k e :=
  serves_or (.hello l) <| serves_or (.setLink l) <| serves_or (.claimRole l) <| serves_or (.readKeys l) <|
    serves_or (.setWindow l) <| serves_or (.readWindow l) <| serves_or (.depthStream l) <|
    serves_or (.setScanList l) <| serves_or (.openJournal l) <| serves_or (.readJournal l) <|
    serves_or (.closeJournal l) <| serves_or (.setLayers l) <| serves_or (.readVoices l) <|
    serves_or (.voiceEnded l) <| serves_or (.railDemand l) <| serves_or (.railRecover l) <|
    serves_or (.readRail l) <| serves_or (.takeRecord l) <| serves_or (.takeStop l) <| serves_or (.takeLoad l) <|
    serves_or (.writeTakeRecords l) <| serves_or (.loadEnd l) <| serves_or (.takeKeep l) <|
    serves_or (.takeUnkeep l) <| serves_or (.takeErase l) <| serves_or (.readTakeDirectory l) <|
    serves_or (.readTakeRecords l) <| serves_or (.takePlay l) <| serves_or (.stop l) <| serves_or (.pause l) <|
    serves_or (.resume l) <| serves_or (.setTempo l) <| serves_or (.setLoop l) <| serves_or (.clearLoop l) <|
    serves_or (.setGuide l) <| serves_or (.calRead l) <| serves_or (.calWrite l) <| serves_or (.calCommit l) <|
    serves_or (.calDefaults l) <| serves_or (.noticeSet l) <| serves_or (.noticeMask l) <|
    serves_or (.readFaults l) <| serves_or (.clearFaults l) <| serves_or (.systemReset l) <| nofun

end Sys2Proof.Machine
end

section
namespace Sys2Proof.Machine

/-! ## What holds across every step, the ports' own commands among it

`LinkClosed` covers what the rest of the part does to journal and ports. What the ports' own requests and the lines do is
added here once, so that an invariant of the ports is shown by what each operation does to one port. -/

/-- At most a port's receiver, its line and its transmitter differ: the buffer, the queue, the notices and the stream
are as they were. -/
def LineOnly (a b : LinkState) : Prop :=
  b = { a with rx := b.rx, lastByte := b.lastByte, lineLow := b.lineLow, sending := b.sending }

/-- A port at its reset values, but for the level of its line and the frame it sends (R172). -/
def LinkState.fresh (ls : LinkState) : Prop := ls = { lineLow := ls.lineLow, sending := ls.sending }

theorem resetBlocks_fresh (s : State) (l : Link) : ((resetBlocks s).link l).fresh := by cases l <;> rfl

theorem coldBlocks_fresh (s : State) (l : Link) : ((coldBlocks s).link l).fresh := by cases l <;> rfl

/-- A relation that holds across what the rest of the part does and across the effects of the ports' own requests. -/
structure PortRequests (R : State → State → Prop) : Prop extends LinkClosed R where
  setLink : ∀ l, EffectRel R (setLinkEffect l)
  setWindow : ∀ l, EffectRel R (setWindowEffect l)
  depthStream : ∀ l, EffectRel R (depthStreamEffect l)
  openJournal : ∀ l, EffectRel R (openJournalEffect l)
  readJournal : ∀ l, EffectRel R (readJournalEffect l)
  closeJournal : ∀ l, EffectRel R (closeJournalEffect l)
  noticeSet : ∀ l, EffectRel R (noticeSetEffect l)
  noticeMask : ∀ l, EffectRel R (noticeMaskEffect l)
  clearFaults : EffectRel R clearFaultsEffect

/-- Such a relation holds across the effect of every request. -/
protected theorem PortRequests.effect {R : State → State → Prop} (c : PortRequests R) {i : Instr} {l : Link} {k : Byte}
    {e : List Byte → State → State × Reply} (h : Serves i l k e) : EffectRel R e := by
  cases h with
  | hello => exact c.helloEffect l
  | setLink => exact c.setLink l
  | claimRole => exact c.claimRoleEffect l
  | readKeys => exact c.readKeysEffect l
  | setWindow => exact c.setWindow l
  | readWindow => exact c.readWindowEffect l
  | depthStream => exact c.depthStream l
  | setScanList => exact c.setScanListEffect
  | openJournal => exact c.openJournal l
  | readJournal => exact c.readJournal l
  | closeJournal => exact c.closeJournal l
  | setLayers => exact c.setLayersEffect
  | readVoices => exact c.readVoicesEffect l
  | voiceEnded => exact c.voiceEndedEffect l
  | railDemand => exact c.railDemandEffect l
  | railRecover => exact c.railRecoverEffect
  | readRail => exact c.readRailEffect
  | takeRecord => exact c.takeRecordEffect
  | takeStop => exact c.takeStopEffect
  | takeLoad => exact c.takeLoadEffect
  | writeTakeRecords => exact c.writeTakeRecordsEffect
  | loadEnd => exact c.loadEndEffect
  | takeKeep => exact c.keepEffect l true
  | takeUnkeep => exact c.keepEffect l false
  | takeErase => exact c.takeEraseEffect
  | readTakeDirectory => exact c.readTakeDirectoryEffect l
  | readTakeRecords => exact c.readTakeRecordsEffect l
  | takePlay => exact c.takePlayEffect
  | stop => exact c.stopEffect
  | pause => exact c.pauseEffect
  | resume => exact c.resumeEffect
  | setTempo => exact c.setTempoEffect
  | setLoop => exact c.setLoopEffect
  | clearLoop => exact c.clearLoopEffect
  | setGuide => exact c.setGuideEffect
  | calRead => exact c.calReadEffect l
  | calWrite => exact c.calWriteEffect l
  | calCommit => exact c.calCommitEffect l
  | calDefaults => exact c.calDefaultsEffect l
  | noticeSet => exact c.noticeSet l
  | noticeMask => exact c.noticeMask l
  | readFaults => exact c.readFaultsEffect
  | clearFaults => exact c.clearFaults
  | systemReset => exact c.systemResetEffect l

/-- A relation that holds across what the rest of the part does, across every request, and across each operation by
which the lines and the resets act on the ports, where its command lets it through. -/
structure PortsClosed (R : State → State → Prop) : Prop extends LinkClosed R where
  request : ∀ {i l k e}, Serves i l k e → ∀ s, R s (serve l k e s)
  unknown : ∀ {l k args s}, headRequest l s = some (k, args) → R s (putReply l k { result := .unknown } (popRequest l s))
  line : ∀ l (f : LinkState → LinkState) s, (∀ ls, LineOnly ls (f ls)) → R s (onLink l f s)
  discarded : ∀ l s, R s (discardFrame l s)
  completed : ∀ l payload s, payload.head? ≠ some kLinkReset → R s (completeFrame l payload s)
  handedOver : ∀ {l f rest s}, (s.link l).tx = f :: rest → R s (onLink l (LinkState.handOver s.clock f rest) s)
  noticeQueued : ∀ {l i s}, noticeDue l s = some i → R s (onLink l (fun ls => ls.queueNotice i) s)
  ordersQueued : ∀ {l s} payload, drainDue s = some l →
    R s (onLink l (fun ls => { ls with tx := ls.tx ++ [.voiceOrders payload] }) s)
  portReset : ∀ l (f : LinkState → LinkState) s, (∀ ls, (f ls).fresh) → R s (onLink l f s)
  portsReset : ∀ {s t : State}, (∀ l, (t.link l).fresh) → R s t

namespace PortsClosed

variable {R : State → State → Prop} (c : PortsClosed R) {s t : State}

include c

/-! ### Lines (R162, R163, R165, R172) -/

protected theorem linkReset (l : Link) (s : State) : R s (linkReset l s) := by
  have htone : R s (if holdsTone s l then toneTeardown s else s) := c.ite (c.events.vas _ _)
  have hport (v : State) : R v (onLink l (LinkState.afterReset s.clock) { v with roles := v.roles.without l }) :=
    c.after (b := { v with roles := v.roles.without l }) (c.portReset l _ _ fun _ => rfl)
  have hroles (b : Bool) (v : State) : R v (if b then raiseAll .roleChange v else v) := c.ite (c.raised _ _)
  have harrives (v : State) : R v (if v.sysReset = .awaitingReply l then resetArrives v else v) := c.ite (c.blocks rfl rfl)
  exact c.trans (c.trans (c.trans (c.trans htone (hport _)) (c.setDemand _ _)) (hroles _ _)) (harrives _)

protected theorem completeFrame (l : Link) (payload : List Byte) (s : State) : R s (completeFrame l payload s) := by
  by_cases hreset : payload.head? = some kLinkReset
  · rw [Machine.completeFrame, if_pos hreset]
    exact c.linkReset l s
  · exact c.completed l payload s hreset

protected theorem takeByte (l : Link) (b : Byte) (stopLow : Bool) (s : State) : R s (takeByte l b stopLow s) := by
  have hmoved (rx : Receiver) : R s (setReceiver l rx s) := c.line l _ s fun _ => rfl
  unfold takeByte
  split
  · exact c.ite (hmoved _)
  · split_ifs
    · exact hmoved _
    · exact c.discarded l s
  · split_ifs
    · exact c.discarded l s
    · exact hmoved _
    · exact hmoved _
  · split_ifs
    · exact c.completeFrame l _ s
    · exact c.discarded l s

protected theorem drainOrders {l : Link} (h : drainDue s = some l) : R s (drainOrders l s) :=
  c.trans (c.trans (c.ordersQueued _ h) (c.events.vas _ _)) (c.events.refillStale _)

protected theorem finishSending (l : Link) (s : State) : R s (finishSending l s) := by
  have hfreed : R s (onLink l (LinkState.freed s.clock) s) := c.line l _ s fun ls => by
    unfold LinkState.freed
    split <;> rfl
  unfold finishSending
  dsimp only
  split_ifs
  · exact c.trans hfreed (c.blocks rfl rfl)
  · exact hfreed

protected theorem tick (s : State) : R s (tick s) :=
  c.after (c.trans (c.trans (c.finishSending .a _) (c.finishSending .b _)) (c.finishSending .c _))

/-! ### Every command -/

/-- A request, whichever it is. -/
protected theorem served {i : Instr} (hi : ∃ l k e, Serves i l k e) (h : exec i s = .next t) : R s t := by
  obtain ⟨l, k, e, hs⟩ := hi
  exact rel_of_next (hs.exec_eq s) h (c.request hs s)

/-- The relation holds across every command: the lines, the resets and the timed steps one by one, all else a request. -/
protected theorem exec {i : Instr} (h : exec i s = .next t) : R s t := by
  cases i with
  | powerOnReset => exact rel_of_next rfl h (c.trans (c.portsReset (coldBlocks_fresh _)) (c.startUp _))
  | resetnLow =>
    refine rel_of_next rfl h ?_
    dsimp only
    split_ifs
    · exact c.refl s
    · exact c.blocks rfl rfl
    · exact c.blocks rfl rfl
  | systemResetEffect =>
    exact rel_of_next rfl h (c.ite (c.trans (c.portsReset (resetBlocks_fresh _)) (c.startUp _)))
  | receiveByte l b stopLow =>
    exact rel_of_next rfl h (c.ite (c.trans (c.ite (c.discarded l s)) (c.takeByte l b stopLow _)))
  | interByteGapTimeout l => exact rel_of_next rfl h (c.ite (c.discarded l s))
  | lineBreak l =>
    have hlow : R s (onLink l (fun ls => { ls with lineLow := true }) s) := c.line l _ s fun _ => rfl
    refine rel_of_next rfl h ?_
    dsimp only
    split_ifs
    · exact c.refl s
    · exact c.trans hlow (c.linkReset l _)
    · exact hlow
  | transmitFrameStart l =>
    refine rel_of_next rfl h (c.ite ?_)
    split
    · next htx => exact c.handedOver htx
    · exact c.refl s
  | pendingNoticeQueued l =>
    refine rel_of_next rfl h ?_
    split
    · next hdue => exact c.noticeQueued hdue
    · exact c.refl s
  | voiceOrderDrain =>
    refine rel_of_next rfl h ?_
    split
    · next hdue => exact c.drainOrders hdue
    · exact c.refl s
  | unknownRequest l =>
    refine rel_of_next rfl h ?_
    split
    · next hhead => exact c.ite (c.unknown hhead)
    · exact c.refl s
  | commitComplete r equal =>
    have hended (v : State) : R v (endAwait r v) := c.blocks rfl rfl
    refine rel_of_next rfl h (c.ite (c.trans ?_ (hended _)))
    split
    · exact c.after (c.raised _ _)
    · exact c.after (c.raised _ _)
  | frameStart => exact rel_of_next rfl h (c.ite (c.startFrame _))
  | settleEnd =>
    refine rel_of_next rfl h ?_
    split
    · exact c.blocks rfl rfl
    · exact c.refl s
  | conversionEnd results =>
    refine rel_of_next rfl h ?_
    split
    · exact c.trans (foldl_rel c.refl c.trans (c.convertResult _ _) results s) (c.nextEntry _ _)
    · exact c.refl s
  | recorderSecondStep =>
    refine rel_of_next rfl h ?_
    split
    · exact c.blocks rfl rfl
    · exact c.refl s
  | millisecondStep =>
    refine rel_of_next rfl h ?_
    split
    · exact c.after (c.events.finishStep _)
    · exact c.refl s
  | silentInputChange low =>
    refine rel_of_next rfl h ?_
    split
    · exact c.refl s
    · exact c.blocks rfl rfl
  | leverDebounceExpiry => exact rel_of_next rfl h (c.ite (c.after (c.deriveLever _)))
  | railHomingStart => exact rel_of_next rfl h (c.ite (c.startHoming _))
  | railQuietMoveStart =>
    refine rel_of_next rfl h ?_
    split
    · exact c.startMove _ _ _
    · exact c.refl s
  | railCurrentChange current => exact rel_of_next rfl h (c.blocks rfl rfl)
  | inrushBlankingEnd => exact rel_of_next rfl h (c.ite (c.blocks rfl rfl))
  | stall =>
    refine rel_of_next rfl h ?_
    split
    · exact c.stallLeg _ _
    · exact c.refl s
  | maximumTravelTimeout => exact rel_of_next rfl h (c.ite (c.railFault _ _))
  | backoffTimeEnd =>
    refine rel_of_next rfl h ?_
    split
    · exact c.retreatEnd _ _ _
    · exact c.refl s
  | retryDelayEnd =>
    refine rel_of_next rfl h ?_
    split
    · split
      · exact c.startMove _ _ _
      · exact c.enterWaiting _ _ _
    · exact c.refl s
  | railHeld =>
    refine rel_of_next rfl h ?_
    split
    · exact c.after (c.raised _ _)
    · exact c.refl s
  | resetnHigh => exact rel_of_next rfl h (c.after (b := { s with resetnLow := false }) (c.ite (c.loadRegions _)))
  | lineReturnsHigh l => exact rel_of_next rfl h (c.ite (c.line l _ s fun _ => rfl))
  | powerLoss =>
    refine rel_of_next rfl h ?_
    split
    · exact c.refl s
    · exact c.portsReset (coldBlocks_fresh (cutCommits s))
  | regionsLoaded => exact rel_of_next rfl h (c.ite (c.after (b := takeUp s) (c.startFrame _)))
  | _ => exact c.served ⟨_, _, _, by constructor⟩ h

protected theorem idle (h : idle s = .next t) : R s t := by
  unfold Machine.idle at h
  split at h
  · split at h
    · exact c.exec h
    · cases h
      split
      · exact c.refl s
      · exact c.tick s
  · cases h
    exact c.refl s

/-- The relation holds across every step. -/
protected theorem step (h : step s = .next t) : R s t := by
  unfold Machine.step at h
  split at h
  · exact c.idle h
  · next rest _ => exact c.trans (c.blocks (b := { s with pending := rest }) rfl rfl) (c.exec h)

end PortsClosed

end Sys2Proof.Machine
end

section
namespace Sys2Proof.Machine

variable {s t : State} {l : Link}

/-! ## The places of a transmit queue (R164, R165) -/

/-- A frame is the reply or takes an unprompted place. -/
theorem TxFrame.isReply_eq (f : TxFrame) : f.isReply = !f.unprompted := by
  cases f <;> rfl

theorem replyFree_iff {ls : LinkState} : ls.replyFree = true ↔ ls.tx.countP TxFrame.isReply = 0 := by
  simp [LinkState.replyFree, List.countP_eq_zero, TxFrame.isReply_eq]

theorem placeFree_iff {ls : LinkState} : ls.placeFree = true ↔ ls.tx.countP TxFrame.unprompted < Config.unpromptedPlaces := by
  simp [LinkState.placeFree]

/-- A port holds no frame and no reply more than it did, and no unprompted frame beyond its places: what every operation
does to a port, but for a frame that comes in and a reply that goes out. -/
structure RoomKept (a b : LinkState) : Prop where
  frames : b.rxBuf.length ≤ a.rxBuf.length
  replies : b.tx.countP TxFrame.isReply ≤ a.tx.countP TxFrame.isReply
  places : a.tx.countP TxFrame.unprompted ≤ Config.unpromptedPlaces → b.tx.countP TxFrame.unprompted ≤ Config.unpromptedPlaces

namespace RoomKept

variable {a b : LinkState}

theorem trans {d : LinkState} (h : RoomKept a b) (g : RoomKept b d) : RoomKept a d where
  frames := g.frames.trans h.frames
  replies := g.replies.trans h.replies
  places := g.places ∘ h.places

/-- Frames that leave the queue leave room. -/
theorem of_sublist (hbuf : b.rxBuf = a.rxBuf) (htx : b.tx.Sublist a.tx) : RoomKept a b where
  frames := hbuf ▸ le_rfl
  replies := htx.countP_le
  places := htx.countP_le.trans

theorem of_eq (hbuf : b.rxBuf = a.rxBuf) (htx : b.tx = a.tx) : RoomKept a b := .of_sublist hbuf (htx ▸ List.Sublist.refl _)

theorem refl (a : LinkState) : RoomKept a a := .of_eq rfl rfl

/-- An unprompted frame joins where a place is free (R165). -/
theorem of_joined {f : TxFrame} (hfree : a.placeFree = true) (hf : f.unprompted = true) (hbuf : b.rxBuf = a.rxBuf)
    (htx : b.tx = a.tx ++ [f]) : RoomKept a b where
  frames := hbuf ▸ le_rfl
  replies := by simp [htx, TxFrame.isReply_eq, hf]
  places := fun _ => by
    rw [htx, List.countP_append, List.countP_singleton, if_pos hf]
    exact placeFree_iff.mp hfree

/-- A port that keeps its room keeps within its bounds. -/
theorem bounded (h : RoomKept a b) (ha : a.bounded) : b.bounded := by
  obtain ⟨hframes, hreplies, hplaces⟩ := ha
  exact ⟨h.frames.trans hframes, h.replies.trans hreplies, h.places hplaces⟩

end RoomKept

/-! ## What keeps the room of one port -/

theorem foldl_roomKept {f : LinkState → Fin 8 → LinkState} (h : ∀ a i, RoomKept a (f a i)) (is : List (Fin 8))
    (a : LinkState) : RoomKept a (is.foldl f a) := by
  induction is generalizing a with
  | nil => exact .refl a
  | cons i is ih => exact (h a i).trans (ih _)

theorem queueNotice_roomKept {ls : LinkState} (h : ls.placeFree = true) (i : Fin 8) : RoomKept ls (ls.queueNotice i) :=
  .of_joined (f := .notice i) h rfl rfl rfl

theorem raiseEntry_roomKept (c : EventClass) (ls : LinkState) (i : Fin 8) : RoomKept ls (ls.raiseEntry c i) := by
  unfold LinkState.raiseEntry
  dsimp only
  split_ifs with _ _ _ hfree
  · exact .of_eq rfl rfl
  · exact .of_eq rfl rfl
  · exact .of_joined (f := .notice i) hfree rfl rfl rfl
  · exact .of_eq rfl rfl
  · exact .refl ls

theorem raise_roomKept (c : EventClass) (ls : LinkState) : RoomKept ls (ls.raise c) := by
  unfold LinkState.raise
  split
  · exact foldl_roomKept (raiseEntry_roomKept c) _ ls
  · exact .refl ls

theorem appendSeen_roomKept (next : Seq) (overwritten : Option Seq) (ls : LinkState) :
    RoomKept ls (ls.appendSeen next overwritten) := by
  unfold LinkState.appendSeen
  split
  · exact .refl ls
  · next st _ =>
    split_ifs
    · exact (RoomKept.of_eq rfl rfl : RoomKept ls
        { ls with stream := some { st with cursor := st.cursor + 1 }, lost := satInc ls.lost, overrunFlag := true }).trans
          (raise_roomKept _ _)
    · exact raise_roomKept _ _
    · exact .refl ls

theorem depthTick_roomKept (u : State) (ls : LinkState) : RoomKept ls (depthTick u ls) := by
  unfold depthTick
  dsimp only
  split_ifs with _ _ hfree
  · exact .refl ls
  · exact .of_joined (f := .depth (depthPayload u ls)) hfree rfl rfl rfl
  · exact .of_eq rfl rfl
  · exact .of_eq rfl rfl

theorem dropEntry_roomKept (grant : Nat) (ls : LinkState) (i : Fin 8) : RoomKept ls (ls.dropEntry grant i) := by
  unfold LinkState.dropEntry
  split
  · exact .refl ls
  · exact .of_sublist rfl List.filter_sublist

theorem withLimit_roomKept (limit : Limit) (grant : Nat) (ls : LinkState) : RoomKept ls (ls.withLimit limit grant) := by
  have hdropped := foldl_roomKept (dropEntry_roomKept grant) (List.finRange 8) ls
  unfold LinkState.withLimit
  dsimp only
  split
  · exact hdropped.trans (.of_eq rfl rfl)
  · exact hdropped.trans (.of_eq rfl rfl)

theorem writeEntry_roomKept (ls : LinkState) (i : Fin 8) (classes tag : BitVec 16) :
    RoomKept ls (ls.writeEntry i classes tag) := .of_sublist rfl List.filter_sublist

theorem maskEntry_roomKept (mask unmask : Byte) (ls : LinkState) (i : Fin 8) :
    RoomKept ls (ls.maskEntry mask unmask i) := by
  unfold LinkState.maskEntry
  dsimp only
  split
  · exact .of_eq rfl rfl
  · exact .refl ls

theorem sendEligible_roomKept (ls : LinkState) (i : Fin 8) : RoomKept ls (ls.sendEligible i) := by
  unfold LinkState.sendEligible
  split
  · next hsend => exact queueNotice_roomKept (Bool.and_eq_true_iff.mp hsend).2 i
  · exact .refl ls

theorem withMasks_roomKept (enable linkMask : Nat) (mask unmask : Byte) (ls : LinkState) :
    RoomKept ls (ls.withMasks enable linkMask mask unmask) := by
  have hset (nt : NoticeTable) : RoomKept ls { ls with notice := nt } := .of_eq rfl rfl
  exact ((hset _).trans (foldl_roomKept (maskEntry_roomKept mask unmask) _ _)).trans
    (foldl_roomKept sendEligible_roomKept _ _)

theorem openStream_roomKept (next : Seq) (st : Stream) (ls : LinkState) : RoomKept ls (ls.openStream next st) := by
  have hopened : RoomKept ls { ls with stream := some st } := .of_eq rfl rfl
  unfold LinkState.openStream
  dsimp only
  split
  · exact hopened.trans (raise_roomKept _ _)
  · exact hopened

theorem clearFlags_roomKept (set : Byte) (counters : Bool) (ls : LinkState) : RoomKept ls (ls.clearFlags set counters) := by
  cases counters
  · exact .of_eq rfl rfl
  · exact .of_eq rfl rfl

theorem handOver_roomKept (now : Clock) {f : TxFrame} {rest : List TxFrame} {ls : LinkState} (h : ls.tx = f :: rest) :
    RoomKept ls (ls.handOver now f rest) := by
  have hrest : rest.Sublist ls.tx := h ▸ List.sublist_cons_self f rest
  cases f with
  | reply p => exact .of_sublist rfl hrest
  | notice i => exact .of_sublist rfl hrest
  | voiceOrders p => exact .of_sublist rfl hrest
  | depth p => exact .of_sublist rfl hrest

theorem LineOnly.roomKept {a b : LinkState} (h : LineOnly a b) : RoomKept a b := by
  rw [h]
  exact .of_eq rfl rfl

/-- A port at its reset values is empty. -/
theorem LinkState.fresh.bounded {ls : LinkState} (h : ls.fresh) : ls.bounded := by
  rw [h]
  exact ⟨Nat.zero_le _, Nat.zero_le _, Nat.zero_le _⟩

/-! ## The room of every port -/

/-- Every port keeps its room. -/
def LinksRoomKept (s t : State) : Prop := ∀ l, RoomKept (s.link l) (t.link l)

theorem onLink_roomKept {f : LinkState → LinkState} (h : RoomKept (s.link l) (f (s.link l))) :
    LinksRoomKept s (onLink l f s) := fun m => by
  by_cases hm : m = l
  · subst hm
    rw [State.link_onLink_same]
    exact h
  · rw [State.link_onLink_ne f hm]
    exact .refl _

theorem onEveryLink_roomKept {f : LinkState → LinkState} (h : ∀ ls, RoomKept ls (f ls)) :
    LinksRoomKept s (onEveryLink f s) := fun l => by
  rw [State.link_onEveryLink]
  exact h _

theorem roomKept_linkClosed : LinkClosed LinksRoomKept where
  trans h g l := (h l).trans (g l)
  blocks _ hlinks l := by
    rw [State.link, State.link, hlinks]
    exact .refl _
  raised c _ := onEveryLink_roomKept (raise_roomKept c)
  appended _ _ := onEveryLink_roomKept (appendSeen_roomKept _ _)
  ticked u _ := onEveryLink_roomKept (depthTick_roomKept u)

/-- The ports' own requests keep the room of every port. -/
theorem roomKept_portRequests : PortRequests LinksRoomKept where
  toLinkClosed := roomKept_linkClosed
  setLink l args s := by
    refine roomKept_linkClosed.needs ?_
    split
    · dsimp only
      split
      · exact onLink_roomKept (withLimit_roomKept _ _ _)
      · exact roomKept_linkClosed.refl s
    · exact roomKept_linkClosed.refl s
  setWindow l args s := by
    refine roomKept_linkClosed.needs ?_
    split
    · exact roomKept_linkClosed.refl s
    · refine onLink_roomKept ?_
      split
      · exact .of_eq rfl rfl
      · exact .of_eq rfl rfl
  depthStream l args s := by
    refine roomKept_linkClosed.needs ?_
    dsimp only
    split
    · exact roomKept_linkClosed.refl s
    · exact onLink_roomKept (.of_eq rfl rfl)
  openJournal l args s := by
    refine roomKept_linkClosed.needs ?_
    dsimp only
    split
    · exact roomKept_linkClosed.refl s
    · exact onLink_roomKept (openStream_roomKept _ _ _)
  readJournal l args s := by
    refine roomKept_linkClosed.needs ?_
    split
    · exact roomKept_linkClosed.refl s
    · exact onLink_roomKept (.of_eq rfl rfl)
  closeJournal l args s := by
    unfold closeJournalEffect
    split
    · exact onLink_roomKept (.of_eq rfl rfl)
    · exact roomKept_linkClosed.refl s
  noticeSet l args s := by
    refine roomKept_linkClosed.needs ?_
    split
    · exact roomKept_linkClosed.refl s
    · split
      · exact roomKept_linkClosed.refl s
      · exact onLink_roomKept (writeEntry_roomKept _ _ _ _)
  noticeMask l args s := by
    refine roomKept_linkClosed.needs ?_
    dsimp only
    split
    · exact roomKept_linkClosed.refl s
    · exact onLink_roomKept (withMasks_roomKept _ _ _ _ _)
  clearFaults args s := by
    refine roomKept_linkClosed.needs fun l => ?_
    cases l
    · exact clearFlags_roomKept _ _ _
    · exact clearFlags_roomKept _ _ _
    · exact clearFlags_roomKept _ _ _

/-! ## Every step keeps the ports within their bounds (R163 to R165) -/

/-- Every port is within its bounds after, if it was before. -/
def BoundsKept (s t : State) : Prop := LinksBounded s → LinksBounded t

theorem LinksRoomKept.boundsKept (h : LinksRoomKept s t) : BoundsKept s t := fun hs l => (h l).bounded (hs l)

/-- What is done to one port keeps every port within its bounds when it keeps that one. -/
theorem onLink_boundsKept {f : LinkState → LinkState} (h : (s.link l).bounded → (f (s.link l)).bounded) :
    BoundsKept s (onLink l f s) := fun hs m => by
  by_cases hm : m = l
  · subst hm
    rw [State.link_onLink_same]
    exact h (hs m)
  · rw [State.link_onLink_ne f hm]
    exact hs m

theorem popRequest_roomKept (l : Link) : LinksRoomKept s (popRequest l s) :=
  onLink_roomKept
    { frames := by rw [List.length_drop]; exact Nat.sub_le _ _, replies := le_rfl, places := id }

/-- A request is taken only while no reply waits (R164). -/
theorem replyFree_of_headRequest {q : Byte × List Byte} (h : headRequest l s = some q) : (s.link l).replyFree = true := by
  unfold headRequest at h
  split at h
  · next hfree => exact hfree.2
  · cases h

theorem placeFree_of_noticeDue {i : Fin 8} (h : noticeDue l s = some i) : (s.link l).placeFree = true := by
  unfold noticeDue at h
  split at h
  · next hfree => exact hfree.2
  · cases h

theorem placeFree_of_drainDue (h : drainDue s = some l) : (s.link l).placeFree = true := by
  unfold drainDue at h
  split at h
  · split at h
    · next hdue =>
      cases h
      exact hdue.2.2.2
    · cases h
  · cases h

/-- The one reply to a request joins a queue without one (R164). -/
theorem putReply_boundsKept (hroom : LinksRoomKept s t) (hfree : (s.link l).replyFree = true) (k : Byte) (r : Reply) :
    BoundsKept s (putReply l k r t) := fun hs => by
  refine onLink_boundsKept (fun hbounded => ?_) (hroom.boundsKept hs)
  obtain ⟨hframes, -, hplaces⟩ := hbounded
  have hnone : (t.link l).tx.countP TxFrame.isReply = 0 :=
    Nat.le_zero.mp ((hroom l).replies.trans (replyFree_iff.mp hfree).le)
  refine ⟨hframes, ?_, ?_⟩
  · rw [List.countP_append, hnone]
    exact le_rfl
  · rw [List.countP_append]
    exact hplaces

/-- A request is not taken, or its frame leaves the buffer and its reply joins (R164). -/
theorem serve_boundsKept {k : Byte} {effect : List Byte → State → State × Reply} (h : EffectRel LinksRoomKept effect) :
    BoundsKept s (serve l k effect s) := by
  by_cases hhead : ∃ args, headRequest l s = some (k, args)
  · obtain ⟨args, hhead⟩ := hhead
    rw [serve_taken effect hhead]
    exact putReply_boundsKept (roomKept_linkClosed.trans (popRequest_roomKept l) (h args _))
      (replyFree_of_headRequest hhead) k _
  · rw [serve_not_taken effect fun args ha => hhead ⟨args, ha⟩]
    exact id

theorem discardFrame_roomKept (l : Link) : LinksRoomKept s (discardFrame l s) := by
  have hcounted : RoomKept (s.link l) { s.link l with
      rx := .hunt, checkErrors := satInc (s.link l).checkErrors, checkFlag := true } := .of_eq rfl rfl
  exact onLink_roomKept (hcounted.trans (raise_roomKept _ _))

/-- A complete frame joins a buffer with room for it, and no other (R163). -/
theorem completeFrame_boundsKept {payload : List Byte} (h : payload.head? ≠ some kLinkReset) :
    BoundsKept s (completeFrame l payload s) := by
  rw [completeFrame, if_neg h]
  refine onLink_boundsKept fun hbounded => ?_
  obtain ⟨hframes, hreplies, hplaces⟩ := hbounded
  dsimp only
  split
  · next hroom => exact ⟨by rw [List.length_append]; exact hroom, hreplies, hplaces⟩
  · exact ((RoomKept.of_eq rfl rfl).trans (raise_roomKept .linkError _)).bounded ⟨hframes, hreplies, hplaces⟩

theorem boundsKept_portsClosed : PortsClosed BoundsKept where
  trans h g := g ∘ h
  blocks hajn hlinks := (roomKept_linkClosed.blocks hajn hlinks).boundsKept
  raised c s := (roomKept_linkClosed.raised c s).boundsKept
  appended e s := (roomKept_linkClosed.appended e s).boundsKept
  ticked u s := (roomKept_linkClosed.ticked u s).boundsKept
  request hi _ := serve_boundsKept (roomKept_portRequests.effect hi)
  unknown {l k _ _} h := putReply_boundsKept (popRequest_roomKept l) (replyFree_of_headRequest h) k _
  line _ _ _ hf := (onLink_roomKept (hf _).roomKept).boundsKept
  discarded l _ := (discardFrame_roomKept l).boundsKept
  completed _ _ _ h := completeFrame_boundsKept h
  handedOver h := (onLink_roomKept (handOver_roomKept _ h)).boundsKept
  noticeQueued h := (onLink_roomKept (queueNotice_roomKept (placeFree_of_noticeDue h) _)).boundsKept
  ordersQueued payload h :=
    (onLink_roomKept (.of_joined (f := .voiceOrders payload) (placeFree_of_drainDue h) rfl rfl rfl)).boundsKept
  portReset _ _ _ hf := onLink_boundsKept fun _ => (hf _).bounded
  portsReset hfresh := fun _ l => (hfresh l).bounded

/-- Settles O6: what each operation does to the room of one port, taken through every command. -/
theorem linksStayBounded : Obligations.LinksStayBounded := fun _ _ hs h => boundsKept_portsClosed.step h hs

end Sys2Proof.Machine
end

section
namespace Sys2Proof.Machine

variable {s : State} {l : Link} {k : Byte} {args : List Byte}

/-! ## Steps go on (logs 1, 2, 32) -/

/-- Settles O1: the step's own case of a queue that is not empty. -/
theorem stepRunsFrontCommand : Obligations.StepRunsFrontCommand := fun _ _ _ => rfl

/-- The meaning of every command ends in a next state (log 32). -/
theorem exec_goesOn (i : Instr) (s : State) : ∃ t, exec i s = .next t := by
  cases i <;> exact ⟨_, rfl⟩

theorem idle_goesOn (s : State) : ∃ t, idle s = .next t := by
  unfold idle
  split
  · split
    · exact exec_goesOn _ s
    · exact ⟨_, rfl⟩
  · exact ⟨s, rfl⟩

/-- Settles O3: a command in front goes on, and so does the part on an empty queue. -/
theorem everyStepGoesOn : Obligations.EveryStepGoesOn := by
  intro s
  unfold StepsOn step
  split
  · exact idle_goesOn s
  · exact exec_goesOn _ _

/-! ## Requests that are no one's to take (R164; log 2) -/

theorem exec_unknownRequest (hk : requestCommand l k = none) (h : headRequest l s = some (k, args)) :
    exec (.unknownRequest l) s = .next (putReply l k { result := .unknown } (popRequest l s)) := by
  have he : exec (.unknownRequest l) s = execUnknownRequest l s := rfl
  simp only [he, execUnknownRequest, h, if_pos hk]

/-- Settles O17: an unknown kind by its command, every other kind by what is done with no request to take. -/
theorem requestsAnsweredOrLeft : Obligations.RequestsAnsweredOrLeft := by
  refine ⟨fun l k args s hk h => exec_unknownRequest hk h, fun i l k s hi h => ?_⟩
  obtain ⟨e, hserves⟩ := serves_of_requestCommand hi
  rw [hserves.exec_eq, serve_not_taken e h]

/-! ## HELLO (R168) and CLOSE JOURNAL (R171) -/

theorem exec_hello (h : headRequest l s = some (kHello, args)) : exec (.hello l) s = .next (putReply l kHello
    (helloEffect l args (popRequest l s)).2 (helloEffect l args (popRequest l s)).1) :=
  congrArg Host.Outcome.next (serve_taken _ h)

theorem rolesHeld_eq (r : Roles) (l : Link) :
    rolesHeld r l = (if r.tone = some l then 1 else 0) + (if r.panel = some l then 2 else 0) := by
  simp [rolesHeld, bitAt]

/-- Settles O18: the reply's five bytes, on the state with the buffer's head gone. -/
theorem helloAnswersAndChangesNothing : Obligations.HelloAnswersAndChangesNothing := by
  intro l args s h
  rw [exec_hello h, ← rolesHeld_eq]
  cases l <;> rfl

theorem exec_closeJournal (h : headRequest l s = some (kCloseJournal, args)) : exec (.closeJournal l) s =
    .next (putReply l kCloseJournal
      (closeJournalEffect l args (popRequest l s)).2 (closeJournalEffect l args (popRequest l s)).1) :=
  congrArg Host.Outcome.next (serve_taken _ h)

theorem closeJournalEffect_closes (h : (s.link l).stream ≠ none) :
    closeJournalEffect l args s = done (onLink l (fun ls => { ls with stream := none }) s) :=
  if_pos (Option.isSome_iff_ne_none.mpr h)

theorem closeJournalEffect_refuses (h : (s.link l).stream = none) : closeJournalEffect l args s = refuse .state s :=
  if_neg (by simp [h])

/-- Settles O19: CLOSE JOURNAL by whether a stream is open. -/
theorem closeJournalRemovesStream : Obligations.CloseJournalRemovesStream := by
  refine fun l args s h => ⟨fun hopen => ?_, fun hclosed => ?_⟩
  · rw [exec_closeJournal h, closeJournalEffect_closes (by rwa [popRequest_stream])]
    rfl
  · rw [exec_closeJournal h, closeJournalEffect_refuses (by rwa [popRequest_stream])]
    rfl

/-! ## Requests refused (00, Conventions; R164) -/

/-- A request answered otherwise than DONE leaves the state as it found it. -/
def RefusalKeeps (s : State) (out : State × Reply) : Prop := out.2.result ≠ .done → out.1 = s

namespace RefusalKeeps

theorem same {r : Reply} : RefusalKeeps s (s, r) := fun _ => rfl

theorem answered {out : State × Reply} (h : out.2.result = .done) : RefusalKeeps s out := fun hne => absurd h hne

theorem needs {n : Nat} {go : State × Reply} (h : RefusalKeeps s go) : RefusalKeeps s (needs n args s go) := by
  unfold Machine.needs
  split
  · exact same
  · exact h

theorem playerNeeds {n : Nat} {go : State × Reply} (h : RefusalKeeps s go) : RefusalKeeps s (playerNeeds n args s go) := by
  unfold Machine.playerNeeds
  split
  · exact same
  · exact h

/-- A test that refuses, before what follows it. -/
theorem guarded {p : Prop} [Decidable p] {r : Reply} {go : State × Reply} (h : RefusalKeeps s go) :
    RefusalKeeps s (if p then (s, r) else go) := by
  split
  · exact same
  · exact h

/-- A test that lets a request through, and refuses it otherwise. -/
theorem allowed {p : Prop} [Decidable p] {r : Reply} {go : State × Reply} (h : RefusalKeeps s go) :
    RefusalKeeps s (if p then go else (s, r)) := by
  split
  · exact h
  · exact same

/-- A request that is DONE either way. -/
theorem either {p : Prop} [Decidable p] {x y : State × Reply} (hx : x.2.result = .done) (hy : y.2.result = .done) :
    RefusalKeeps s (if p then x else y) := by
  split
  · exact answered hx
  · exact answered hy

end RefusalKeeps

/-! ### Links, journal, notices -/

theorem setLinkEffect_refusalKeeps : RefusalKeeps s (setLinkEffect l args s) := by
  refine .needs ?_
  split
  · exact .allowed (.answered rfl)
  · exact .same

theorem claimRoleEffect_refusalKeeps : RefusalKeeps s (claimRoleEffect l args s) := by
  refine .guarded ?_
  split
  · exact .guarded (.guarded (.answered rfl))
  · exact .guarded (.guarded (.answered rfl))
  · exact .same

theorem setScanListEffect_refusalKeeps : RefusalKeeps s (setScanListEffect args s) := by
  refine .needs (.guarded ?_)
  split
  · exact .answered rfl
  · exact .same

theorem readJournalEffect_refusalKeeps : RefusalKeeps s (readJournalEffect l args s) := by
  refine .needs ?_
  split
  · exact .same
  · exact .answered rfl

theorem noticeSetEffect_refusalKeeps : RefusalKeeps s (noticeSetEffect l args s) := by
  refine .needs ?_
  split
  · exact .same
  · exact .guarded (.answered rfl)

/-! ### Voices -/

theorem setLayersEffect_refusalKeeps : RefusalKeeps s (setLayersEffect args s) := by
  refine .needs ?_
  split
  · exact .same
  · exact .answered rfl

theorem voiceEndedEffect_refusalKeeps : RefusalKeeps s (voiceEndedEffect l args s) := by
  refine .allowed ?_
  split
  · exact .same
  · exact .answered rfl

/-! ### Takes -/

theorem takeRecordEffect_refusalKeeps : RefusalKeeps s (takeRecordEffect args s) := by
  refine .needs ?_
  split
  · exact .same
  · refine .guarded (.guarded (.guarded ?_))
    split
    · exact .same
    · exact .answered rfl

theorem takeStopEffect_refusalKeeps : RefusalKeeps s (takeStopEffect args s) := by
  unfold takeStopEffect
  split
  · exact .same
  · exact .answered rfl
  · exact .answered rfl

theorem takeLoadEffect_refusalKeeps : RefusalKeeps s (takeLoadEffect args s) := by
  refine .needs ?_
  split
  · exact .same
  · exact .guarded (.guarded (.answered rfl))

theorem writeTakeRecordsEffect_refusalKeeps : RefusalKeeps s (writeTakeRecordsEffect args s) := by
  refine .needs ?_
  split
  · exact .same
  · refine .guarded ?_
    split
    · exact .same
    · exact .guarded (.guarded (.answered rfl))

theorem loadEndEffect_refusalKeeps : RefusalKeeps s (loadEndEffect args s) := by
  refine .needs ?_
  split
  · exact .same
  · exact .guarded (.answered rfl)

theorem keepEffect_refusalKeeps (keep : Bool) : RefusalKeeps s (keepEffect l keep args s) := by
  refine .allowed (.needs ?_)
  split
  · exact .same
  · exact .guarded (.either rfl rfl)

theorem takeEraseEffect_refusalKeeps : RefusalKeeps s (takeEraseEffect args s) := by
  refine .needs ?_
  split
  · exact .same
  · exact .guarded (.guarded (.guarded (.either rfl rfl)))

theorem readTakeRecordsEffect_refusalKeeps : RefusalKeeps s (readTakeRecordsEffect l args s) := by
  refine .needs ?_
  split
  · exact .same
  · exact .guarded (.answered rfl)

/-! ### The player -/

theorem takePlayEffect_refusalKeeps : RefusalKeeps s (takePlayEffect args s) := by
  refine .playerNeeds ?_
  split
  · exact .same
  · exact .guarded (.guarded (.answered rfl))

theorem pauseEffect_refusalKeeps : RefusalKeeps s (pauseEffect args s) := by
  unfold pauseEffect
  split
  · exact .same
  · exact .allowed (.answered rfl)

theorem resumeEffect_refusalKeeps : RefusalKeeps s (resumeEffect args s) := by
  unfold resumeEffect
  split
  · exact .same
  · split
    · exact .answered rfl
    · exact .same

theorem setLoopEffect_refusalKeeps : RefusalKeeps s (setLoopEffect args s) := by
  refine .playerNeeds ?_
  split
  · exact .same
  · exact .allowed (.answered rfl)

theorem setGuideEffect_refusalKeeps : RefusalKeeps s (setGuideEffect args s) := by
  refine .playerNeeds ?_
  split
  · exact .guarded (.answered rfl)
  · exact .same

/-! ### The calibration store -/

theorem calReadEffect_refusalKeeps : RefusalKeeps s (calReadEffect l args s) := by
  refine .needs ?_
  split
  · exact .same
  · exact .guarded (.answered rfl)

theorem calWriteEffect_refusalKeeps : RefusalKeeps s (calWriteEffect l args s) := by
  refine .guarded ?_
  split
  · exact .same
  · exact .guarded (.guarded (.guarded (.answered rfl)))

theorem calCommitEffect_refusalKeeps : RefusalKeeps s (calCommitEffect l args s) := by
  refine .guarded (.needs ?_)
  split
  · exact .same
  · exact .guarded (.answered rfl)

theorem calDefaultsEffect_refusalKeeps : RefusalKeeps s (calDefaultsEffect l args s) := by
  refine .guarded (.needs ?_)
  split
  · exact .same
  · exact .guarded (.guarded (.answered rfl))

/-! ### Every request -/

/-- Whatever the request, refused it leaves the state as it found it. -/
theorem Serves.refusalKeeps {i : Instr} {e : List Byte → State → State × Reply} (h : Serves i l k e) :
    RefusalKeeps s (e args s) := by
  cases h with
  | hello => exact .answered rfl
  | setLink => exact setLinkEffect_refusalKeeps
  | claimRole => exact claimRoleEffect_refusalKeeps
  | readKeys => exact .needs (.guarded (.answered rfl))
  | setWindow => exact .needs (.guarded (.answered rfl))
  | readWindow => exact .needs (.guarded (.answered rfl))
  | depthStream => exact .needs (.guarded (.answered rfl))
  | setScanList => exact setScanListEffect_refusalKeeps
  | openJournal => exact .needs (.guarded (.answered rfl))
  | readJournal => exact readJournalEffect_refusalKeeps
  | closeJournal => exact .allowed (.answered rfl)
  | setLayers => exact setLayersEffect_refusalKeeps
  | readVoices => exact .needs (.guarded (.answered rfl))
  | voiceEnded => exact voiceEndedEffect_refusalKeeps
  | railDemand => exact .needs (.guarded (.answered rfl))
  | railRecover => exact .allowed (.answered rfl)
  | readRail => exact .answered rfl
  | takeRecord => exact takeRecordEffect_refusalKeeps
  | takeStop => exact takeStopEffect_refusalKeeps
  | takeLoad => exact takeLoadEffect_refusalKeeps
  | writeTakeRecords => exact writeTakeRecordsEffect_refusalKeeps
  | loadEnd => exact loadEndEffect_refusalKeeps
  | takeKeep => exact keepEffect_refusalKeeps true
  | takeUnkeep => exact keepEffect_refusalKeeps false
  | takeErase => exact takeEraseEffect_refusalKeeps
  | readTakeDirectory => exact .needs (.guarded (.answered rfl))
  | readTakeRecords => exact readTakeRecordsEffect_refusalKeeps
  | takePlay => exact takePlayEffect_refusalKeeps
  | stop => exact .allowed (.answered rfl)
  | pause => exact pauseEffect_refusalKeeps
  | resume => exact resumeEffect_refusalKeeps
  | setTempo => exact .playerNeeds (.answered rfl)
  | setLoop => exact setLoopEffect_refusalKeeps
  | clearLoop => exact .answered rfl
  | setGuide => exact setGuideEffect_refusalKeeps
  | calRead => exact calReadEffect_refusalKeeps
  | calWrite => exact calWriteEffect_refusalKeeps
  | calCommit => exact calCommitEffect_refusalKeeps
  | calDefaults => exact calDefaultsEffect_refusalKeeps
  | noticeSet => exact noticeSetEffect_refusalKeeps
  | noticeMask => exact .needs (.guarded (.answered rfl))
  | readFaults => exact .needs (.guarded (.answered rfl))
  | clearFaults => exact .needs (.answered rfl)
  | systemReset => exact .allowed (.answered rfl)

/-- Settles O16: the command that takes the kind, its effect on the state with the buffer's head gone, and that a
refusal is no effect. -/
theorem refusedRequestChangesNothing : Obligations.RefusedRequestChangesNothing := by
  intro i l k args s hi h
  obtain ⟨e, hserves⟩ := serves_of_requestCommand hi
  refine ⟨(e args (popRequest l s)).2, (e args (popRequest l s)).1, ?_, hserves.refusalKeeps⟩
  rw [hserves.exec_eq, serve_taken e h]

end Sys2Proof.Machine
end

section
namespace Sys2Proof.Machine

variable {s : State} {l : Link} {args : List Byte} {ls : LinkState}

/-! ## Notice entries (R176) -/

theorem setEntry_entry (ls : LinkState) (i : Fin 8) (e : NoticeEntry) (j : Fin 8) :
    (ls.setEntry i e).entry j = if j = i then e else ls.entry j := by
  simp only [LinkState.setEntry, LinkState.entry, Fin.getElem_fin, Vector.getElem_set, Fin.ext_iff, eq_comm]

/-- At most a port's notice entries and its transmit queue differ. -/
def EntriesOnly (a b : LinkState) : Prop := b = { a with tx := b.tx, notice := { a.notice with entries := b.notice.entries } }

theorem EntriesOnly.trans {a b c : LinkState} (h : EntriesOnly a b) (g : EntriesOnly b c) : EntriesOnly a c := by
  unfold EntriesOnly at *
  rw [g, h]

/-! ## Entries that a grant leaves out (R166, R176) -/

/-- A waiting frame that stays under a grant: every frame but the notices of ungranted entries. -/
def TxFrame.within (grant : Nat) : TxFrame → Bool
  | .notice i => decide (i.val < grant)
  | _ => true

theorem dropEntry_granted {grant : Nat} {i : Fin 8} (h : i.val < grant) : ls.dropEntry grant i = ls := if_pos h

theorem dropEntry_ungranted {grant : Nat} {i : Fin 8} (h : ¬i.val < grant) :
    ls.dropEntry grant i = (ls.withdraw i).setEntry i {} := if_neg h

theorem dropEntry_entriesOnly (grant : Nat) (ls : LinkState) (i : Fin 8) : EntriesOnly ls (ls.dropEntry grant i) := by
  unfold LinkState.dropEntry
  split <;> rfl

theorem dropEntry_entry (grant : Nat) (ls : LinkState) (i j : Fin 8) :
    (ls.dropEntry grant i).entry j = if j = i ∧ grant ≤ j.val then {} else ls.entry j := by
  by_cases hi : i.val < grant
  · rw [dropEntry_granted hi, if_neg]
    rintro ⟨rfl, hj⟩
    omega
  · rw [dropEntry_ungranted hi, setEntry_entry]
    by_cases hj : j = i
    · subst hj
      rw [if_pos rfl, if_pos ⟨rfl, Nat.not_lt.mp hi⟩]
    · rw [if_neg hj, if_neg (fun h => hj h.1)]
      rfl

theorem dropEntry_tx (grant : Nat) (ls : LinkState) (i : Fin 8) :
    (ls.dropEntry grant i).tx = ls.tx.filter fun f => decide (i.val < grant) || f != .notice i := by
  by_cases hi : i.val < grant
  · simp [dropEntry_granted hi, hi]
  · simp [dropEntry_ungranted hi, hi, LinkState.setEntry, LinkState.withdraw]

/-- A port with the entries of a list dropped that a grant leaves out. -/
abbrev LinkState.dropEntries (grant : Nat) (is : List (Fin 8)) (ls : LinkState) : LinkState :=
  is.foldl (LinkState.dropEntry grant) ls

theorem dropEntries_entriesOnly (grant : Nat) (is : List (Fin 8)) (ls : LinkState) :
    EntriesOnly ls (ls.dropEntries grant is) := by
  induction is generalizing ls with
  | nil => rfl
  | cons i is ih => exact (dropEntry_entriesOnly grant ls i).trans (ih _)

theorem dropEntries_entry (grant : Nat) (is : List (Fin 8)) (ls : LinkState) (j : Fin 8) :
    (ls.dropEntries grant is).entry j = if j ∈ is ∧ grant ≤ j.val then {} else ls.entry j := by
  induction is generalizing ls with
  | nil => simp
  | cons i is ih =>
    rw [LinkState.dropEntries, List.foldl_cons, ih, dropEntry_entry, ← ite_or]
    exact if_congr (by rw [List.mem_cons]; tauto) rfl rfl

theorem dropEntries_tx (grant : Nat) (is : List (Fin 8)) (ls : LinkState) :
    (ls.dropEntries grant is).tx = ls.tx.filter fun f => is.all fun i => decide (i.val < grant) || f != .notice i := by
  induction is generalizing ls with
  | nil => simp
  | cons i is ih =>
    rw [LinkState.dropEntries, List.foldl_cons, ih, dropEntry_tx, List.filter_filter]
    simp only [List.all_cons, Bool.and_comm]

/-- Over all eight entries, the frames withdrawn are the notices of the ungranted ones. -/
theorem dropEntries_all_tx (grant : Nat) (ls : LinkState) :
    (ls.dropEntries grant (List.finRange 8)).tx = ls.tx.filter (TxFrame.within grant) := by
  rw [dropEntries_tx]
  congr 1
  funext f
  cases f with
  | notice j =>
    rw [Bool.eq_iff_iff, List.all_eq_true]
    simp only [TxFrame.within, Bool.or_eq_true, decide_eq_true_eq, bne_iff_ne, ne_eq, TxFrame.notice.injEq]
    exact ⟨fun h => (h j (List.mem_finRange j)).resolve_right (not_not_intro rfl),
      fun h i _ => or_iff_not_imp_right.mpr fun hij => not_not.mp hij ▸ h⟩
  | reply p => simp [TxFrame.within]
  | voiceOrders p => simp [TxFrame.within]
  | depth p => simp [TxFrame.within]

/-! ## SET LINK (R166) -/

/-- A port under a new limit and grant: all of it but limit, notices, queue and depth period is as it was. -/
theorem withLimit_eq (limit : Limit) (grant : Nat) (ls : LinkState) : ls.withLimit limit grant =
    { ls with
      limit := limit
      notice := { ls.notice with grant := grant, entries := (ls.dropEntries grant (List.finRange 8)).notice.entries }
      tx := ls.tx.filter (TxFrame.within grant)
      depthPeriod := if limit = .b64 then ls.depthPeriod else 0 } := by
  have hdropped := dropEntries_entriesOnly grant (List.finRange 8) ls
  rw [EntriesOnly, dropEntries_all_tx] at hdropped
  unfold LinkState.withLimit
  rw [show (List.finRange 8).foldl (LinkState.dropEntry grant) ls = _ from hdropped]
  dsimp only
  split <;> rfl

theorem withLimit_entry (limit : Limit) (grant : Nat) (ls : LinkState) (j : Fin 8) :
    (ls.withLimit limit grant).entry j = if grant ≤ j.val then {} else ls.entry j := by
  have hdropped := dropEntries_entry grant (List.finRange 8) ls j
  simp only [List.mem_finRange, true_and] at hdropped
  rw [withLimit_eq]
  exact hdropped

theorem limit_ofBytes {n : Nat} (h : n = 16 ∨ n = 32 ∨ n = 64) :
    ∃ limit, Limit.ofBytes n = some limit ∧ limit.bytes = n ∧ (limit = .b64 ↔ n = 64) := by
  rcases h with rfl | rfl | rfl
  · exact ⟨.b16, rfl, rfl, by decide⟩
  · exact ⟨.b32, rfl, rfl, by decide⟩
  · exact ⟨.b64, rfl, rfl, by decide⟩

theorem exec_setLink (h : headRequest l s = some (kSetLink, args)) : exec (.setLink l) s = .next (putReply l kSetLink
    (setLinkEffect l args (popRequest l s)).2 (setLinkEffect l args (popRequest l s)).1) :=
  congrArg Host.Outcome.next (serve_taken _ h)

theorem setLinkEffect_done {limit : Limit} (hn : 2 ≤ args.length) (hl : Limit.ofBytes (byteAt args 0) = some limit)
    (hg : byteAt args 1 = 1 ∨ byteAt args 1 = 2 ∨ byteAt args 1 = 4 ∨ byteAt args 1 = 8) : setLinkEffect l args s =
      done (onLink l (LinkState.withLimit limit (byteAt args 1)) s) [byteOf limit.bytes, byteOf (byteAt args 1)] := by
  simp only [setLinkEffect, needs_enough _ hn, hl, if_pos hg]

/-- Settles O22: the port that SET LINK leaves, part by part. -/
theorem setLinkSetsLimitAndGrant : Obligations.SetLinkSetsLimitAndGrant := by
  intro l args s h hn hlimit hgrant
  obtain ⟨limit, hof, hbytes, h64⟩ := limit_ofBytes hlimit
  have hport := withLimit_eq limit (byteAt args 1) ((popRequest l s).link l)
  refine ⟨((popRequest l s).link l).withLimit limit (byteAt args 1), ?answered, ?_⟩
  case answered =>
    rw [exec_setLink h, setLinkEffect_done hn hof hgrant, hbytes]
    rfl
  have hentry (i : Fin 8) := withLimit_entry limit (byteAt args 1) ((popRequest l s).link l) i
  refine ⟨by rw [hport]; exact hbytes, by rw [hport], fun i hi => ⟨by rw [hentry, if_pos hi], ?withdrawn⟩,
    fun i hi => ?kept, ?_⟩
  case withdrawn =>
    rw [hport, List.mem_filter]
    exact fun hmem => absurd (of_decide_eq_true hmem.2) (Nat.not_lt.mpr hi)
  case kept =>
    rw [hentry, if_neg (Nat.not_le.mpr hi), popRequest_link]
    rfl
  rw [hport, popRequest_link]
  exact ⟨rfl, rfl, if_congr h64 rfl rfl, rfl, rfl, rfl, rfl, rfl, rfl⟩

end Sys2Proof.Machine
end

section
namespace Sys2Proof.Machine

variable {s : State} {l : Link} {ls : LinkState}

/-! ## The transmitter (R165, R179) -/

theorem exec_transmitFrameStart {f : TxFrame} {rest : List TxFrame} (hp : s.phase = .running)
    (hfree : (s.link l).sending = none) (htx : (s.link l).tx = f :: rest) :
    exec (.transmitFrameStart l) s = .next (onLink l (LinkState.handOver s.clock f rest) s) := by
  have he : exec (.transmitFrameStart l) s = execTransmitFrameStart l s := rfl
  have hdue : transmitDue l s = true := by simp [transmitDue, hp, hfree, htx]
  simp only [he, execTransmitFrameStart, if_pos hdue, htx]

/-- The entry of a notice handed over has its classes and its queued-unsent flag cleared, and no other changes (R179). -/
theorem handOver_notice_entry (now : Clock) (i : Fin 8) (rest : List TxFrame) (ls : LinkState) (j : Fin 8) :
    (ls.handOver now (.notice i) rest).entry j =
      if j = i then { ls.entry i with acc := 0, queued := false } else ls.entry j :=
  setEntry_entry { ls with tx := rest } i _ j

theorem exec_pendingNoticeQueued {i : Fin 8} (hp : s.phase = .running) (hfree : (s.link l).placeFree = true)
    (hnext : (s.link l).nextEligible = some i) :
    exec (.pendingNoticeQueued l) s = .next (onLink l (fun ls => ls.queueNotice i) s) := by
  have he : exec (.pendingNoticeQueued l) s = execPendingNoticeQueued l s := rfl
  have hdue : noticeDue l s = some i := by rw [noticeDue, if_pos ⟨hp, hfree⟩, hnext]
  simp only [he, execPendingNoticeQueued, hdue]

/-- The entry of a notice queued is marked so, and no other changes (R178, R179). -/
theorem queueNotice_entry (ls : LinkState) (i j : Fin 8) :
    (ls.queueNotice i).entry j = if j = i then { ls.entry i with queued := true, pending := false } else ls.entry j :=
  setEntry_entry ls i _ j

/-- Settles O52: the frame at the head by its kind, and the entry that waits first. -/
theorem transmitterTakesHead : Obligations.TransmitterTakesHead := by
  refine fun l rest s hp => ⟨fun f p hf hfree htx => ?_, fun i hfree htx => ?_, fun i hfree hnext => ?_⟩
  · rw [exec_transmitFrameStart hp hfree htx]
    rcases hf with rfl | rfl | rfl <;> rfl
  · refine ⟨(s.link l).handOver s.clock (.notice i) rest, exec_transmitFrameStart hp hfree htx, rfl, ?_, fun j hj => ?_, rfl⟩
    · rw [handOver_notice_entry, if_pos rfl]
    · rw [handOver_notice_entry, if_neg hj]
  · refine ⟨(s.link l).queueNotice i, exec_pendingNoticeQueued hp hfree hnext, rfl, ?_, fun j hj => ?_⟩
    · rw [queueNotice_entry, if_pos rfl]
    · rw [queueNotice_entry, if_neg hj]

/-! ## The receiver (R162, R163) -/

theorem gapDue_eq_false (h : (s.link l).rx = .hunt ∨ elapsed s.clock (s.link l).lastByte ≤ 200) : gapDue l s = false := by
  rcases h with h | h
  · simp [gapDue, h]
  · simp [gapDue, h]

/-- A byte that follows closely enough, or that follows none, goes to the receiver as it stands. -/
theorem exec_receiveByte (hp : s.phase = .running) (hline : (s.link l).lineLow = false)
    (hgap : (s.link l).rx = .hunt ∨ elapsed s.clock (s.link l).lastByte ≤ 200) (b : Byte) (stopLow : Bool) :
    exec (.receiveByte l b stopLow) s = .next (takeByte l b stopLow s) := by
  have he : exec (.receiveByte l b stopLow) s = execReceiveByte l b stopLow s := rfl
  simp only [he, execReceiveByte, if_pos (And.intro hp hline), gapDue_eq_false hgap, Bool.false_eq_true, if_false]

theorem exec_interByteGapTimeout (hp : s.phase = .running) (hrx : (s.link l).rx ≠ .hunt)
    (hgap : 200 < elapsed s.clock (s.link l).lastByte) :
    exec (.interByteGapTimeout l) s = .next (discardFrame l s) := by
  have he : exec (.interByteGapTimeout l) s = execInterByteGapTimeout l s := rfl
  have hdue : gapDue l s = true := by simp [gapDue, hp, hrx, hgap]
  simp only [he, execInterByteGapTimeout, if_pos hdue]

theorem takeByte_sync (h : (s.link l).rx = .hunt) : takeByte l syncByte false s = setReceiver l .length s := by
  simp [takeByte, h]

theorem takeByte_length {b : Byte} (h : (s.link l).rx = .length) (hlo : 1 ≤ b.toNat) (hhi : b.toNat ≤ 64) :
    takeByte l b false s = setReceiver l (.payload b.toNat []) s := by
  simp only [takeByte, h, hlo, hhi, and_self, if_true]

theorem takeByte_payload {b : Byte} {len : Nat} {got : List Byte} (h : (s.link l).rx = .payload len got)
    (hlt : got.length < len) : takeByte l b false s =
      setReceiver l (if got.length + 1 = len then .check (got ++ [b]) else .payload len (got ++ [b])) s := by
  have hlast : len ≤ got.length + 1 ↔ got.length + 1 = len := by omega
  simp only [takeByte, h, Bool.false_eq_true, if_false, hlast]
  split <;> rfl

theorem takeByte_check {got : List Byte} (h : (s.link l).rx = .check got) :
    takeByte l (crc8 (byteOf got.length :: got)) false s = completeFrame l got s := by
  simp [takeByte, h]

/-- A wrong check, a length out of range, and a low stop bit inside a frame discard it (R162). -/
theorem takeByte_discards {b : Byte} {got : List Byte} {stopLow : Bool}
    (h : ((s.link l).rx = .check got ∧ b ≠ crc8 (byteOf got.length :: got))
      ∨ ((s.link l).rx = .length ∧ (b.toNat = 0 ∨ 64 < b.toNat)) ∨ ((s.link l).rx ≠ .hunt ∧ stopLow = true)) :
    takeByte l b stopLow s = discardFrame l s := by
  rcases h with ⟨hrx, hcheck⟩ | ⟨hrx, hlen⟩ | ⟨hrx, rfl⟩
  · simp [takeByte, hrx, hcheck]
  · have hout : ¬(stopLow = false ∧ 1 ≤ b.toNat ∧ b.toNat ≤ 64) := by omega
    simp only [takeByte, hrx, if_neg hout]
  · cases hst : (s.link l).rx with
    | hunt => exact absurd hst hrx
    | length => simp [takeByte, hst]
    | payload len got => simp [takeByte, hst]
    | check got => simp [takeByte, hst]

/-- Settles O50: each byte by the state that the receiver is in. -/
theorem receiverMovesOn : Obligations.ReceiverMovesOn := by
  refine fun l b s hp hline => ⟨fun hrx => ?_, fun hrx hgap hlo hhi => ?_, fun len got hrx hgap hlt => ?_,
    fun hrx hgap => exec_interByteGapTimeout hp hrx hgap, fun got stopLow hgap h => ?_⟩
  · rw [exec_receiveByte hp hline (.inl hrx)]
    exact congrArg Host.Outcome.next (takeByte_sync hrx)
  · rw [exec_receiveByte hp hline (.inr hgap), takeByte_length hrx hlo hhi]
    rfl
  · rw [exec_receiveByte hp hline (.inr hgap), takeByte_payload hrx hlt]
    rfl
  · rw [exec_receiveByte hp hline (.inr hgap), takeByte_discards h]
    rfl

/-- A frame joins a buffer with room for it (R163). -/
theorem completeFrame_joins {got : List Byte} (hkind : got.head? ≠ some kLinkReset) (hroom : (s.link l).rxBuf.length < 2) :
    completeFrame l got s = onLink l (fun ls => { ls with rx := .hunt, rxBuf := ls.rxBuf ++ [got] }) s := by
  rw [completeFrame, if_neg hkind]
  simp only [onLink, show (s.links.get l).rxBuf.length < Config.rxFrames from hroom, if_true]

/-- A frame that finds the buffer full is discarded (R163). -/
theorem completeFrame_overflows {got : List Byte} (hkind : got.head? ≠ some kLinkReset) (hfull : 2 ≤ (s.link l).rxBuf.length) :
    completeFrame l got s = onLink l (fun ls => LinkState.raise .linkError
      { ls with rx := .hunt, overflows := satInc ls.overflows, overflowFlag := true }) s := by
  rw [completeFrame, if_neg hkind]
  simp only [onLink, show ¬(s.links.get l).rxBuf.length < Config.rxFrames from Nat.not_lt.mpr hfull, if_false]

/-- Settles O49: the right check completes the frame, and then its kind and the buffer decide. -/
theorem completeFrameJoinsBuffer : Obligations.CompleteFrameJoinsBuffer := by
  intro l got s hp hline hrx hgap
  rw [exec_receiveByte hp hline (.inr hgap), takeByte_check hrx]
  exact ⟨fun hkind hroom => congrArg Host.Outcome.next (completeFrame_joins hkind hroom),
    fun hkind hfull => congrArg Host.Outcome.next (completeFrame_overflows hkind hfull),
    fun hkind => congrArg Host.Outcome.next (if_pos hkind)⟩

end Sys2Proof.Machine
end

section
namespace Sys2Proof.Machine

/-! ## Take records in 32 bits (R127, R174) -/

theorem TakeKind.ofCode_code (k : TakeKind) : TakeKind.ofCode k.code = some k := by
  cases k <;> rfl

theorem TakeKind.code_lt (k : TakeKind) : k.code < 16 := by
  cases k <;> decide

/-- The four fields of a take record's word do not overlap. -/
theorem takeRec_word_fields {r : TakeRec} (hvalue : r.value ≤ 1023) (hdelta : r.delta ≤ 2047) :
    r.word % 16 = r.kind.code ∧ r.word / 16 % 128 = r.key.val ∧ r.word / 2048 % 1024 = r.value
      ∧ r.word / 2097152 % 2048 = r.delta := by
  have hcode := r.kind.code_lt
  have hkey := r.key.isLt
  unfold TakeRec.word
  omega

theorem takeRecOfWord_word {r : TakeRec} (hvalue : r.value ≤ 1023) (hdelta : r.delta ≤ 2047) :
    takeRecOfWord r.word = some r := by
  obtain ⟨hkind, hkey, hval, hdel⟩ := takeRec_word_fields hvalue hdelta
  rw [takeRecOfWord, hkind, hkey, hval, hdel, TakeKind.ofCode_code, finOf_val]
  rfl

/-! ## Layer entries in five bytes (R79, R174) -/

theorem SourceFilter.ofCode_code (f : SourceFilter) : SourceFilter.ofCode f.code = some f := by
  cases f <;> rfl

theorem byteOf_toNat {n : Nat} (h : n ≤ 255) : (byteOf n).toNat = n := by
  rw [byteOf, BitVec.toNat_ofNat, Nat.mod_eq_of_lt (by omega)]

/-- Three flags in the low bits and a source filter above them are read back from their byte. -/
theorem layerFlags_read (a b c : Bool) (f : SourceFilter) :
    let x := byteOf (bitAt 0 a + bitAt 1 b + bitAt 2 c + 16 * f.code)
    x.getLsbD 0 = a ∧ x.getLsbD 1 = b ∧ x.getLsbD 2 = c ∧ x.toNat / 16 % 4 = f.code := by
  cases f <;> revert a b c <;> decide

theorem layerAt_bytes {y : Layer} (hprogram : y.program ≤ 255) (htrim : y.trim ≤ 200) (hkeys : y.low ≤ y.high)
    (rest : List Byte) : layerAt (y.bytes ++ rest) 0 = some y := by
  obtain ⟨henabled, hfollows, hacoustic, hfilter⟩ := layerFlags_read y.enabled y.follows y.acoustic y.filter
  have hlow : byteAt (y.bytes ++ rest) 2 = y.low.val := byteOf_toNat (by omega)
  have hhigh : byteAt (y.bytes ++ rest) 3 = y.high.val := byteOf_toNat (by omega)
  have hprog : byteAt (y.bytes ++ rest) 1 = y.program := byteOf_toNat hprogram
  have htr : byteAt (y.bytes ++ rest) 4 = y.trim := byteOf_toNat (by omega)
  have hsource : byteAt (y.bytes ++ rest) 0 / 16 % 4 = y.filter.code := hfilter
  have hflags : bitOf (y.bytes ++ rest) 0 0 = y.enabled ∧ bitOf (y.bytes ++ rest) 0 1 = y.follows
      ∧ bitOf (y.bytes ++ rest) 0 2 = y.acoustic := ⟨henabled, hfollows, hacoustic⟩
  obtain ⟨hen, hfo, hac⟩ := hflags
  simp only [layerAt, hlow, hhigh, hprog, htr, hsource, hen, hfo, hac, finOf_val, SourceFilter.ofCode_code,
    Nat.zero_add, Nat.min_eq_left htrim, Option.bind_eq_bind, Option.bind_some]
  exact if_neg (not_lt.mpr hkeys)

/-! ## Calibration entries (R174, R183, R186) -/

theorem flagOf_flagValue (b : Bool) : flagOf (flagValue b) = some b := by
  cases b <;> rfl

theorem CalLink.ofCode_code (c : CalLink) : CalLink.ofCode c.code = some c := by
  rcases c with (_ | _ | _) | _ <;> rfl

theorem Group.ofCode_code (g : Group) : Group.ofCode g.code = some g := by
  cases g with
  | k n => simp [Group.code, Group.ofCode]
  | h n =>
    have hn := n.isLt
    simp only [Group.code, Group.ofCode, dif_neg (show ¬16 + n.val < 11 by omega), if_neg (show 16 + n.val ≠ 12 by omega),
      dif_pos (show 16 ≤ 16 + n.val ∧ 16 + n.val < 27 by omega), Nat.add_sub_cancel_left]
  | p => rfl

theorem clamp_clamp {lo hi : Nat} (h : lo ≤ hi) (v : Nat) : clamp lo hi (clamp lo hi v) = clamp lo hi v := by
  rw [clamp_eq_max_min h, clamp_eq_max_min h]
  omega

/-- A frame period is kept in whole tens of microseconds (R186). -/
theorem clamp_tens (v : Nat) :
    clamp 100 2000 (clamp 100 2000 (v / 10 * 10) / 10 * 10) = clamp 100 2000 (v / 10 * 10) := by
  rw [clamp_eq_max_min (by decide), clamp_eq_max_min (by decide)]
  omega

theorem optionOf_values (x : OptionWord) :
    optionOf (flagValue x.protect) x.calLink.code (flagValue x.leverDemand) = some x := by
  rw [optionOf, flagOf_flagValue, CalLink.ofCode_code, flagOf_flagValue]
  rfl

theorem scanEntryOf_values (x : ScanEntry) : scanEntryOf x.group.code x.next.val (flagValue x.last) = some x := by
  rw [scanEntryOf, Group.ofCode_code, finOf_val, flagOf_flagValue]
  rfl

theorem layerOf_values {x : Layer} (hkeys : x.low ≤ x.high) (hprogram : x.program ≤ 255) (htrim : x.trim ≤ 200) :
    layerOf (flagValue x.enabled) x.program x.low.val x.high.val x.trim x.filter.code (flagValue x.follows)
      (flagValue x.acoustic) = some x := by
  simp only [layerOf, flagOf_flagValue, finOf_val, SourceFilter.ofCode_code, Nat.min_eq_left hprogram,
    Nat.min_eq_left htrim, Option.bind_eq_bind, Option.bind_some]
  exact if_neg (not_lt.mpr hkeys)

/-- A layer that was carried keeps its key range and its clamps (R186). -/
theorem layerOf_fits {enabled program low high trim filter follows acoustic : Nat} {x : Layer}
    (h : layerOf enabled program low high trim filter follows acoustic = some x) :
    x.low ≤ x.high ∧ x.program ≤ 255 ∧ x.trim ≤ 200 := by
  simp only [layerOf, Option.bind_eq_bind, Option.bind_eq_some_iff] at h
  obtain ⟨_, -, lo, -, hi, -, _, -, _, -, _, -, h⟩ := h
  split at h
  · cases h
  · next hkeys =>
    cases h
    exact ⟨not_lt.mp hkeys, Nat.min_le_right _ _, Nat.min_le_right _ _⟩

theorem gateBankOf_values (a b c : Nat) :
    gateBankOf (gateBankOf a b c).gate1 (gateBankOf a b c).gate2 (gateBankOf a b c).spacing = gateBankOf a b c := by
  simp [gateBankOf, clamp_clamp]

theorem breakpointOf_values (v level : Nat) :
    breakpointOf (breakpointOf v level).speed (breakpointOf v level).level = breakpointOf v level := by
  simp [breakpointOf, clamp_clamp]

theorem railOf_values (a b c d e f g h i : Nat) :
    let x := railOf a b c d e f g h i
    railOf x.duty x.threshold x.filterUs x.blankingMs x.minTravelMs x.maxTravelMs x.backoffMs x.retryMs x.attempts = x := by
  simp [railOf, clamp_clamp]

/-- The values of a stored entry are stored as that entry: codes read back, and a clamp changes nothing again (R186). -/
theorem entryOf_values {it : CalItem} {vs : List Nat} {e : CalEntry} (h : it.entryOf vs = some e) :
    it.entryOf e.values = some e := by
  unfold CalItem.entryOf at h
  split at h
  case h_4 => -- the option word
    obtain ⟨x, -, rfl⟩ := Option.map_eq_some_iff.mp h
    exact congrArg (Option.map _) (optionOf_values x)
  case h_12 => -- a scan entry
    obtain ⟨x, -, rfl⟩ := Option.map_eq_some_iff.mp h
    exact congrArg (Option.map _) (scanEntryOf_values x)
  case h_14 => -- a layer
    obtain ⟨x, hx, rfl⟩ := Option.map_eq_some_iff.mp h
    obtain ⟨hkeys, hprogram, htrim⟩ := layerOf_fits hx
    exact congrArg (Option.map _) (layerOf_values hkeys hprogram htrim)
  case h_15 => cases h -- a number of values that no item has
  all_goals
    cases h
    simp [CalItem.entryOf, CalEntry.values, Breakpoint.values, gateBankOf_values, breakpointOf_values, railOf_values,
      clamp_clamp, clamp_tens]

/-- Settles O60: the fields of the word, the bytes of the layer, and each item's entry. -/
theorem recordFormsRoundTrip : Obligations.RecordFormsRoundTrip :=
  ⟨fun _ hvalue hdelta => takeRecOfWord_word hvalue hdelta,
    fun _ hprogram htrim hkeys rest => layerAt_bytes hprogram htrim hkeys rest, fun _ _ _ h => entryOf_values h⟩

end Sys2Proof.Machine
end

section
namespace Sys2Proof.Machine

-- One proof after another: each thread that Lean adds takes its stack out of the memory that a compile may use.
set_option Elab.async false

variable {s t : State} {l : Link}

/-! ## One port's notices agree with its queue (R176 to R179) -/

/-- What is done to one entry: the port agrees after when the entry's flag answers to the frames of it that wait, no other
entry's frames change, and an ungranted entry stays unused. -/
theorem noticesAgree_of_entry {a b : LinkState} {i : Fin 8} {e : NoticeEntry} (ha : a.noticesAgree)
    (hnotice : b.notice = (a.setEntry i e).notice) (hframe : b.tx.count (.notice i) = if e.queued then 1 else 0)
    (hothers : ∀ j, j ≠ i → b.tx.count (.notice j) = a.tx.count (.notice j))
    (hunused : a.notice.grant ≤ i.val → e = {}) : b.noticesAgree := fun j => by
  have hentry : b.entry j = if j = i then e else a.entry j := by
    rw [← setEntry_entry, LinkState.entry, hnotice]
    rfl
  have hgrant : b.notice.grant = a.notice.grant := by rw [hnotice]; rfl
  rw [hentry, hgrant]
  by_cases hj : j = i
  · subst hj
    rw [if_pos rfl]
    exact ⟨hframe, hunused⟩
  · rw [if_neg hj, hothers j hj]
    exact ha j

/-- A port agrees after what leaves its notice table and moves no NOTICE frame. -/
theorem noticesAgree_of_same {a b : LinkState} (ha : a.noticesAgree) (hnotice : b.notice = a.notice)
    (hframes : ∀ j, b.tx.count (.notice j) = a.tx.count (.notice j)) : b.noticesAgree := fun j => by
  have hentry : b.entry j = a.entry j := by rw [LinkState.entry, hnotice]; rfl
  rw [hentry, hnotice, hframes]
  exact ha j

/-- A port agrees after an entry is replaced by one with the same queued-unsent flag. -/
theorem noticesAgree_setEntry {a : LinkState} {i : Fin 8} {e : NoticeEntry} (ha : a.noticesAgree)
    (hqueued : e.queued = (a.entry i).queued) (hi : i.val < a.notice.grant) : (a.setEntry i e).noticesAgree :=
  noticesAgree_of_entry ha rfl (hqueued ▸ (ha i).1) (fun _ _ => rfl) (fun h => absurd hi (Nat.not_lt.mpr h))

/-- A frame that joins the queue adds to the count of no other frame. -/
theorem count_joined_of_ne {tx : List TxFrame} {f g : TxFrame} (h : g ≠ f) : (tx ++ [g]).count f = tx.count f := by
  rw [List.count_append, List.count_singleton, if_neg (by simpa using h), Nat.add_zero]

theorem notice_ne {i j : Fin 8} (h : j ≠ i) : TxFrame.notice i ≠ .notice j := fun e => h (TxFrame.notice.inj e).symm

/-- The frame of a granted entry without one joins, and the entry is marked so (R178, R179). -/
theorem queueNotice_noticesAgree {ls : LinkState} {i : Fin 8} (h : ls.noticesAgree) (hi : i.val < ls.notice.grant)
    (hqueued : (ls.entry i).queued = false) : (ls.queueNotice i).noticesAgree := by
  refine noticesAgree_of_entry (i := i) (e := { ls.entry i with queued := true, pending := false }) h rfl ?_
    (fun j hj => count_joined_of_ne (notice_ne hj)) (fun hle => absurd hi (Nat.not_lt.mpr hle))
  have hnone : ls.tx.count (.notice i) = 0 := by rw [(h i).1, hqueued]; rfl
  simp [LinkState.queueNotice, hnone]

/-- The frames of an entry withdrawn and its flag cleared (R176, R177). -/
theorem withdraw_noticesAgree {ls : LinkState} {i : Fin 8} {e : NoticeEntry} (h : ls.noticesAgree)
    (hqueued : e.queued = false) (hunused : ls.notice.grant ≤ i.val → e = {}) :
    ((ls.withdraw i).setEntry i e).noticesAgree := by
  refine noticesAgree_of_entry (i := i) (e := e) h rfl ?_ (fun j hj => ?_) hunused
  · rw [hqueued, if_neg Bool.false_ne_true]
    exact List.count_eq_zero.mpr fun hmem => by simp [LinkState.setEntry, LinkState.withdraw] at hmem
  · exact List.count_filter (by simpa using (notice_ne hj).symm)

/-! ## What keeps the agreement of one port -/

theorem foldl_noticesAgree {f : LinkState → Fin 8 → LinkState}
    (h : ∀ a i, a.noticesAgree → (f a i).noticesAgree) (is : List (Fin 8)) {a : LinkState} (ha : a.noticesAgree) :
    (is.foldl f a).noticesAgree := by
  induction is generalizing a with
  | nil => exact ha
  | cons i is ih => exact ih (h a i ha)

theorem raiseEntry_noticesAgree (c : EventClass) {ls : LinkState} (i : Fin 8) (h : ls.noticesAgree) :
    (ls.raiseEntry c i).noticesAgree := by
  unfold LinkState.raiseEntry
  dsimp only
  split
  · next hhas =>
    have hi : i.val < ls.notice.grant := of_decide_eq_true (Bool.and_eq_true_iff.mp hhas).1
    have hadded := noticesAgree_setEntry (e := { ls.entry i with acc := (ls.entry i).acc ||| c.bit }) h rfl hi
    split_ifs with _ hqueued
    · exact noticesAgree_setEntry h rfl hi
    · exact hadded
    · refine queueNotice_noticesAgree hadded hi ?_
      rw [setEntry_entry, if_pos rfl]
      exact Bool.eq_false_iff.mpr hqueued
    · exact noticesAgree_setEntry h rfl hi
  · exact h

theorem raise_noticesAgree (c : EventClass) {ls : LinkState} (h : ls.noticesAgree) : (ls.raise c).noticesAgree := by
  unfold LinkState.raise
  split
  · exact foldl_noticesAgree (fun _ i => raiseEntry_noticesAgree c i) _ h
  · exact h

theorem appendSeen_noticesAgree (next : Seq) (overwritten : Option Seq) {ls : LinkState} (h : ls.noticesAgree) :
    (ls.appendSeen next overwritten).noticesAgree := by
  unfold LinkState.appendSeen
  split
  · exact h
  · split_ifs
    · exact raise_noticesAgree _ (noticesAgree_of_same h rfl fun _ => rfl)
    · exact raise_noticesAgree _ h
    · exact h

theorem depthTick_noticesAgree (u : State) {ls : LinkState} (h : ls.noticesAgree) : (depthTick u ls).noticesAgree := by
  unfold depthTick
  dsimp only
  split_ifs
  · exact h
  · exact noticesAgree_of_same h rfl fun _ => count_joined_of_ne nofun
  · exact noticesAgree_of_same h rfl fun _ => rfl
  · exact noticesAgree_of_same h rfl fun _ => rfl

/-- A grant leaves the entries below it with their frames, and the others unused without one (R176). -/
theorem withLimit_noticesAgree (limit : Limit) (grant : Nat) {ls : LinkState} (h : ls.noticesAgree) :
    (ls.withLimit limit grant).noticesAgree := fun i => by
  rw [withLimit_entry, withLimit_eq]
  dsimp only
  by_cases hi : grant ≤ i.val
  · refine ⟨?_, fun _ => if_pos hi⟩
    rw [if_pos hi]
    refine List.count_eq_zero.mpr fun hmem => ?_
    exact absurd (of_decide_eq_true (List.mem_filter.mp hmem).2) (Nat.not_lt.mpr hi)
  · refine ⟨?_, fun hle => absurd hle hi⟩
    have hstays : TxFrame.within grant (.notice i) = true := decide_eq_true (Nat.not_le.mp hi)
    rw [if_neg hi, List.count_filter hstays]
    exact (h i).1

theorem maskEntry_noticesAgree (mask unmask : Byte) {ls : LinkState} (i : Fin 8) (h : ls.noticesAgree) :
    (ls.maskEntry mask unmask i).noticesAgree := by
  unfold LinkState.maskEntry
  dsimp only
  split
  · next hmasked =>
    exact noticesAgree_setEntry h rfl (of_decide_eq_true (Bool.and_eq_true_iff.mp hmasked).1)
  · exact h

/-- An entry that waits for a place is granted and has no frame queued (R179). -/
theorem granted_of_eligible {ls : LinkState} {i : Fin 8} (h : ls.eligible i = true) :
    i.val < ls.notice.grant ∧ (ls.entry i).queued = false := by
  simp only [LinkState.eligible, Bool.and_eq_true, decide_eq_true_eq, Bool.not_eq_true'] at h
  obtain ⟨⟨⟨⟨⟨hi, -⟩, -⟩, -⟩, -⟩, hqueued⟩ := h
  exact ⟨hi, hqueued⟩

theorem queueEligible_noticesAgree {ls : LinkState} {i : Fin 8} (h : ls.noticesAgree) (hi : ls.eligible i = true) :
    (ls.queueNotice i).noticesAgree :=
  queueNotice_noticesAgree h (granted_of_eligible hi).1 (granted_of_eligible hi).2

theorem sendEligible_noticesAgree {ls : LinkState} (i : Fin 8) (h : ls.noticesAgree) :
    (ls.sendEligible i).noticesAgree := by
  unfold LinkState.sendEligible
  split
  · next hsend => exact queueEligible_noticesAgree h (Bool.and_eq_true_iff.mp hsend).1
  · exact h

theorem withMasks_noticesAgree (enable linkMask : Nat) (mask unmask : Byte) {ls : LinkState} (h : ls.noticesAgree) :
    (ls.withMasks enable linkMask mask unmask).noticesAgree := by
  have hset : LinkState.noticesAgree { ls with
      notice := { ls.notice with enable := keepOr enable ls.notice.enable, linkMask := keepOr linkMask ls.notice.linkMask } } := h
  exact foldl_noticesAgree (fun _ i => sendEligible_noticesAgree i) _
    (foldl_noticesAgree (fun _ i => maskEntry_noticesAgree mask unmask i) _ hset)

theorem openStream_noticesAgree (next : Seq) (st : Stream) {ls : LinkState} (h : ls.noticesAgree) :
    (ls.openStream next st).noticesAgree := by
  have hopened : LinkState.noticesAgree { ls with stream := some st } := h
  unfold LinkState.openStream
  dsimp only
  split
  · exact raise_noticesAgree _ hopened
  · exact hopened

theorem clearFlags_noticesAgree (set : Byte) (counters : Bool) {ls : LinkState} (h : ls.noticesAgree) :
    (ls.clearFlags set counters).noticesAgree := by
  cases counters <;> exact h

/-- The one frame of an entry leaves with the entry's flag, and any other frame leaves alone (R179). -/
theorem handOver_noticesAgree (now : Clock) {f : TxFrame} {rest : List TxFrame} {ls : LinkState} (htx : ls.tx = f :: rest)
    (h : ls.noticesAgree) : (ls.handOver now f rest).noticesAgree := by
  have hrest (j : Fin 8) (hf : f ≠ .notice j) : rest.count (.notice j) = ls.tx.count (.notice j) := by
    rw [htx, List.count_cons_of_ne hf]
  cases f with
  | reply p => exact noticesAgree_of_same h rfl fun j => hrest j nofun
  | voiceOrders p => exact noticesAgree_of_same h rfl fun j => hrest j nofun
  | depth p => exact noticesAgree_of_same h rfl fun j => hrest j nofun
  | notice i =>
    have hframe := (h i).1
    rw [htx, List.count_cons_self] at hframe
    refine noticesAgree_of_entry (i := i) (e := { ls.entry i with acc := 0, queued := false }) h rfl ?_
      (fun j hj => hrest j (notice_ne hj)) (fun hungranted => ?_)
    · change rest.count (.notice i) = 0
      split at hframe <;> omega
    · rw [(h i).2 hungranted] at hframe
      exact absurd hframe (Nat.succ_ne_zero _)

theorem LineOnly.noticesAgree {a b : LinkState} (h : LineOnly a b) (ha : a.noticesAgree) : b.noticesAgree := by
  rw [h]
  exact ha

/-- A port at its reset values has every entry unused and no frame waiting. -/
theorem LinkState.fresh.noticesAgree {ls : LinkState} (h : ls.fresh) : ls.noticesAgree := fun i => by
  have hentry : ls.entry i = {} := by
    rw [h]
    exact LinkState.entry_initial i
  have htx : ls.tx = [] := by rw [h]
  simp [hentry, htx]

/-! ## Every step keeps the notices in agreement (R176 to R179) -/

/-- Every port's notices agree with its queue after, if they did before. -/
def AgreementKept (s t : State) : Prop := NoticesAgree s → NoticesAgree t

/-- What is done to one port keeps the agreement of every port when it keeps that one's. -/
theorem onLink_agreementKept {f : LinkState → LinkState} (h : (s.link l).noticesAgree → (f (s.link l)).noticesAgree) :
    AgreementKept s (onLink l f s) := fun hs m => by
  by_cases hm : m = l
  · subst hm
    rw [State.link_onLink_same]
    exact h (hs m)
  · rw [State.link_onLink_ne f hm]
    exact hs m

theorem onEveryLink_agreementKept {f : LinkState → LinkState} (h : ∀ {ls}, ls.noticesAgree → (f ls).noticesAgree) :
    AgreementKept s (onEveryLink f s) := fun hs l => by
  rw [State.link_onEveryLink]
  exact h (hs l)

theorem agreementKept_linkClosed : LinkClosed AgreementKept where
  trans h g := g ∘ h
  blocks _ hlinks hs l := by
    rw [State.link, hlinks]
    exact hs l
  raised c _ := onEveryLink_agreementKept (raise_noticesAgree c)
  appended e s hs l := by
    rw [appendEvent, State.link_onEveryLink]
    exact appendSeen_noticesAgree _ _ (hs l)
  ticked u _ := onEveryLink_agreementKept (depthTick_noticesAgree u)

/-- The ports' own requests keep the agreement of every port. -/
theorem agreementKept_portRequests : PortRequests AgreementKept where
  toLinkClosed := agreementKept_linkClosed
  setLink l args s := by
    refine agreementKept_linkClosed.needs ?_
    split
    · dsimp only
      split
      · exact onLink_agreementKept (withLimit_noticesAgree _ _)
      · exact id
    · exact id
  setWindow l args s := by
    refine agreementKept_linkClosed.needs ?_
    split
    · exact id
    · refine onLink_agreementKept fun h => ?_
      split
      · exact h
      · exact h
  depthStream l args s := by
    refine agreementKept_linkClosed.needs ?_
    dsimp only
    split
    · exact id
    · exact onLink_agreementKept id
  openJournal l args s := by
    refine agreementKept_linkClosed.needs ?_
    dsimp only
    split
    · exact id
    · exact onLink_agreementKept (openStream_noticesAgree _ _)
  readJournal l args s := by
    refine agreementKept_linkClosed.needs ?_
    split
    · exact id
    · exact onLink_agreementKept id
  closeJournal l args s := by
    unfold closeJournalEffect
    split
    · exact onLink_agreementKept id
    · exact id
  noticeSet l args s := by
    refine agreementKept_linkClosed.needs ?_
    split
    · exact id
    · split
      · exact id
      · next hgranted =>
        refine onLink_agreementKept fun h => withdraw_noticesAgree h ?_ (fun hle => absurd hle hgranted)
        split <;> rfl
  noticeMask l args s := by
    refine agreementKept_linkClosed.needs ?_
    dsimp only
    split
    · exact id
    · exact onLink_agreementKept (withMasks_noticesAgree _ _ _ _)
  clearFaults args s := by
    refine agreementKept_linkClosed.needs fun hs l => ?_
    cases l
    · exact clearFlags_noticesAgree _ _ (hs .a)
    · exact clearFlags_noticesAgree _ _ (hs .b)
    · exact clearFlags_noticesAgree _ _ (hs .c)

theorem popRequest_agreementKept (l : Link) : AgreementKept s (popRequest l s) := onLink_agreementKept id

/-- A reply is no NOTICE frame (R164). -/
theorem putReply_agreementKept (l : Link) (k : Byte) (r : Reply) : AgreementKept s (putReply l k r s) :=
  onLink_agreementKept fun h => noticesAgree_of_same h rfl fun _ => count_joined_of_ne nofun

theorem serve_agreementKept {k : Byte} {effect : List Byte → State → State × Reply}
    (h : EffectRel AgreementKept effect) : AgreementKept s (serve l k effect s) := by
  rcases serve_cases (s := s) l k effect with hs | ⟨args, hs⟩
  · rw [hs]
    exact id
  · rw [hs]
    exact putReply_agreementKept l k _ ∘ h args _ ∘ popRequest_agreementKept l

/-- A complete frame reaches the notices only by LINK_ERROR (R163). -/
theorem completeFrame_agreementKept {payload : List Byte} (h : payload.head? ≠ some kLinkReset) :
    AgreementKept s (completeFrame l payload s) := by
  rw [completeFrame, if_neg h]
  refine onLink_agreementKept fun hs => ?_
  dsimp only
  split
  · exact hs
  · exact raise_noticesAgree _ (noticesAgree_of_same hs rfl fun _ => rfl)

theorem eligible_of_noticeDue {i : Fin 8} (h : noticeDue l s = some i) : (s.link l).eligible i = true := by
  unfold noticeDue at h
  split at h
  · exact List.find?_some h
  · cases h

theorem agreementKept_portsClosed : PortsClosed AgreementKept where
  toLinkClosed := agreementKept_linkClosed
  request hi _ := serve_agreementKept (agreementKept_portRequests.effect hi)
  unknown {l k _ _} _ := putReply_agreementKept l k _ ∘ popRequest_agreementKept l
  line _ _ _ hf := onLink_agreementKept (hf _).noticesAgree
  discarded _ _ := onLink_agreementKept fun h => raise_noticesAgree _ (noticesAgree_of_same h rfl fun _ => rfl)
  completed _ _ _ h := completeFrame_agreementKept h
  handedOver h := onLink_agreementKept (handOver_noticesAgree _ h)
  noticeQueued h := onLink_agreementKept fun hs => queueEligible_noticesAgree hs (eligible_of_noticeDue h)
  ordersQueued _ _ := onLink_agreementKept fun h => noticesAgree_of_same h rfl fun _ => count_joined_of_ne nofun
  portReset _ _ _ hf := onLink_agreementKept fun _ => (hf _).noticesAgree
  portsReset hfresh := fun _ l => (hfresh l).noticesAgree

/-- Settles O7: what each operation does to the notices of one port, taken through every command. -/
theorem noticesStayInAgreement : Obligations.NoticesStayInAgreement := fun _ _ hs h => agreementKept_portsClosed.step h hs

end Sys2Proof.Machine
end

section
namespace Sys2Proof.Machine

-- One proof after another: each thread that Lean adds takes its stack out of the memory that a compile may use.
set_option Elab.async false

variable {s : State} {l : Link} {args : List Byte} {ls : LinkState}

/-! ## NOTICE SET (R177) -/

/-- The notice entries are not touched by taking a request. -/
theorem popRequest_entry (l m : Link) (j : Fin 8) : ((popRequest l s).link m).entry j = (s.link m).entry j := by
  rw [LinkState.entry, popRequest_notice]
  rfl

/-- What is done to a port puts the port it makes in its place. -/
theorem onLink_at {f : LinkState → LinkState} (h : ls = f (s.link l)) : onLink l f s = onLink l (fun _ => ls) s := by
  rw [h]
  rfl

theorem word16At_lt (bs : List Byte) (i : Nat) : word16At bs i < 65536 := by
  have hlow : byteAt bs i < 256 := (bs.getD i 0).isLt
  have hhigh : byteAt bs (i + 1) < 256 := (bs.getD (i + 1) 0).isLt
  unfold word16At
  omega

theorem ofNat_word16At_toNat (bs : List Byte) (i : Nat) : (BitVec.ofNat 16 (word16At bs i)).toNat = word16At bs i :=
  Nat.mod_eq_of_lt (word16At_lt bs i)

theorem ofNat_word16At_eq_zero (bs : List Byte) (i : Nat) : BitVec.ofNat 16 (word16At bs i) = 0 ↔ word16At bs i = 0 := by
  rw [← BitVec.toNat_inj, ofNat_word16At_toNat]
  rfl

/-- The written entry is the new one, and no other changes (R177). -/
theorem writeEntry_entry (ls : LinkState) (i : Fin 8) (classes tag : BitVec 16) (j : Fin 8) :
    (ls.writeEntry i classes tag).entry j =
      if j = i then if classes = 0 then {} else { classes := classes, tag := tag, mask := (ls.entry i).mask }
      else ls.entry j := setEntry_entry (ls.withdraw i) i _ j

theorem exec_noticeSet (h : headRequest l s = some (kNoticeSet, args)) : exec (.noticeSet l) s =
    .next (putReply l kNoticeSet (noticeSetEffect l args (popRequest l s)).2 (noticeSetEffect l args (popRequest l s)).1) :=
  congrArg Host.Outcome.next (serve_taken _ h)

/-- The reply data of NOTICE SET: the entry's number, class set and tag (R174). -/
def setReply (i : Fin 8) (e : NoticeEntry) : List Byte := [byteOf i.val] ++ le16 e.classes.toNat ++ le16 e.tag.toNat

theorem noticeSetEffect_done {i : Fin 8} (hn : 5 ≤ args.length) (hi : byteAt args 0 = i.val)
    (hgranted : i.val < (s.link l).notice.grant) (hls : ls =
      (s.link l).writeEntry i (BitVec.ofNat 16 (word16At args 1)) (BitVec.ofNat 16 (word16At args 3))) :
    noticeSetEffect l args s = done (onLink l (fun _ => ls) s) (setReply i (ls.entry i)) := by
  simp only [noticeSetEffect, needs_enough _ hn, hi, finOf_val, if_neg (Nat.not_le.mpr hgranted), State.link_onLink_same,
    setReply, onLink_at (f := fun p => p.writeEntry i _ _) hls]

/-! ## The masks of NOTICE MASK (R180) -/

/-- An entry under the masks named: one that is ungranted or unused keeps its mask. -/
def NoticeEntry.masked (grant : Nat) (mask unmask : Byte) (i : Fin 8) (e : NoticeEntry) : NoticeEntry :=
  { e with mask :=
      if i.val < grant ∧ e.classes ≠ 0 then (e.mask || mask.getLsbD i.val) && !unmask.getLsbD i.val else e.mask }

theorem masked_masked (grant : Nat) (mask unmask : Byte) (i : Fin 8) (e : NoticeEntry) :
    (e.masked grant mask unmask i).masked grant mask unmask i = e.masked grant mask unmask i := by
  simp only [NoticeEntry.masked]
  split
  · cases unmask.getLsbD i.val -- an entry unmasked is so whatever it was; else the mask is joined twice
    · simp
    · simp
  · rfl

theorem maskEntry_entriesOnly (mask unmask : Byte) (ls : LinkState) (i : Fin 8) :
    EntriesOnly ls (ls.maskEntry mask unmask i) := by
  unfold LinkState.maskEntry
  dsimp only
  split <;> rfl

theorem maskEntry_tx (mask unmask : Byte) (ls : LinkState) (i : Fin 8) : (ls.maskEntry mask unmask i).tx = ls.tx := by
  unfold LinkState.maskEntry
  dsimp only
  split <;> rfl

theorem maskEntry_entry (mask unmask : Byte) (ls : LinkState) (i j : Fin 8) :
    (ls.maskEntry mask unmask i).entry j =
      if j = i then (ls.entry j).masked ls.notice.grant mask unmask j else ls.entry j := by
  by_cases hj : j = i
  · subst hj
    rw [if_pos rfl]
    by_cases hmasked : j.val < ls.notice.grant ∧ (ls.entry j).classes ≠ 0
    · have hset : (decide (j.val < ls.notice.grant) && (ls.entry j).classes != 0) = true := by simpa using hmasked
      simp only [LinkState.maskEntry, NoticeEntry.masked, hset, if_pos hmasked, if_true, setEntry_entry]
    · have hkeeps : (decide (j.val < ls.notice.grant) && (ls.entry j).classes != 0) = false := by
        simpa [← Bool.not_eq_true] using hmasked
      simp only [LinkState.maskEntry, NoticeEntry.masked, hkeeps, if_neg hmasked, Bool.false_eq_true, if_false]
  · rw [if_neg hj]
    unfold LinkState.maskEntry
    dsimp only
    split
    · rw [setEntry_entry, if_neg hj]
    · rfl

/-- A port with the entries of a list under the masks named. -/
def LinkState.maskEntries (mask unmask : Byte) (is : List (Fin 8)) (ls : LinkState) : LinkState :=
  is.foldl (LinkState.maskEntry mask unmask) ls

@[simp] theorem maskEntries_nil (mask unmask : Byte) (ls : LinkState) : ls.maskEntries mask unmask [] = ls := rfl

theorem maskEntries_cons (mask unmask : Byte) (i : Fin 8) (is : List (Fin 8)) (ls : LinkState) :
    ls.maskEntries mask unmask (i :: is) = (ls.maskEntry mask unmask i).maskEntries mask unmask is := rfl

theorem maskEntries_entriesOnly (mask unmask : Byte) (is : List (Fin 8)) (ls : LinkState) :
    EntriesOnly ls (ls.maskEntries mask unmask is) := by
  induction is generalizing ls with
  | nil => rfl
  | cons i is ih => exact (maskEntry_entriesOnly mask unmask ls i).trans (ih _)

theorem maskEntries_tx (mask unmask : Byte) (is : List (Fin 8)) (ls : LinkState) :
    (ls.maskEntries mask unmask is).tx = ls.tx := by
  induction is generalizing ls with
  | nil => rfl
  | cons i is ih => exact (ih _).trans (maskEntry_tx mask unmask ls i)

theorem EntriesOnly.grant {a b : LinkState} (h : EntriesOnly a b) : b.notice.grant = a.notice.grant := by rw [h]
theorem EntriesOnly.enable {a b : LinkState} (h : EntriesOnly a b) : b.notice.enable = a.notice.enable := by rw [h]
theorem EntriesOnly.linkMask {a b : LinkState} (h : EntriesOnly a b) : b.notice.linkMask = a.notice.linkMask := by rw [h]

theorem maskEntries_entry (mask unmask : Byte) (is : List (Fin 8)) (ls : LinkState) (j : Fin 8) :
    (ls.maskEntries mask unmask is).entry j =
      if j ∈ is then (ls.entry j).masked ls.notice.grant mask unmask j else ls.entry j := by
  induction is generalizing ls with
  | nil => simp
  | cons i is ih =>
    rw [maskEntries_cons, ih, (maskEntry_entriesOnly mask unmask ls i).grant, maskEntry_entry]
    by_cases hj : j = i
    · subst hj
      simp only [if_true, masked_masked, ite_self, List.mem_cons_self]
    · simp only [hj, if_false, List.mem_cons, false_or]

/-! ## The frames that NOTICE MASK queues (R180) -/

/-- Unprompted places still free (R165). -/
def LinkState.placesLeft (ls : LinkState) : Nat := Config.unpromptedPlaces - ls.tx.countP TxFrame.unprompted

theorem placeFree_iff_placesLeft : ls.placeFree = true ↔ 0 < ls.placesLeft :=
  placeFree_iff.trans Nat.sub_pos_iff_lt.symm

theorem queueNotice_placesLeft (ls : LinkState) (i : Fin 8) : (ls.queueNotice i).placesLeft = ls.placesLeft - 1 := by
  simp [LinkState.placesLeft, LinkState.queueNotice, TxFrame.unprompted, Nat.sub_add_eq]

theorem queueNotice_entriesOnly (ls : LinkState) (i : Fin 8) : EntriesOnly ls (ls.queueNotice i) := rfl

/-- An entry whose frame has joined waits no longer, and no other entry is touched. -/
theorem queueNotice_eligible (ls : LinkState) (i j : Fin 8) :
    (ls.queueNotice i).eligible j = (ls.eligible j && decide (j ≠ i)) := by
  have htable := queueNotice_entriesOnly ls i
  simp only [LinkState.eligible, htable.grant, htable.enable, htable.linkMask, queueNotice_entry]
  by_cases hj : j = i
  · simp [hj]
  · simp [hj]

/-- A port with the NOTICE frames of a list of entries queued. -/
def LinkState.queueNotices (is : List (Fin 8)) (ls : LinkState) : LinkState := is.foldl LinkState.queueNotice ls

@[simp] theorem queueNotices_nil (ls : LinkState) : ls.queueNotices [] = ls := rfl

theorem queueNotices_cons (i : Fin 8) (is : List (Fin 8)) (ls : LinkState) :
    ls.queueNotices (i :: is) = (ls.queueNotice i).queueNotices is := rfl

theorem queueNotices_entriesOnly (is : List (Fin 8)) (ls : LinkState) : EntriesOnly ls (ls.queueNotices is) := by
  induction is generalizing ls with
  | nil => rfl
  | cons i is ih => exact (queueNotice_entriesOnly ls i).trans (ih _)

theorem queueNotices_tx (is : List (Fin 8)) (ls : LinkState) : (ls.queueNotices is).tx = ls.tx ++ is.map .notice := by
  induction is generalizing ls with
  | nil => simp
  | cons i is ih => rw [queueNotices_cons, ih, LinkState.queueNotice, List.append_assoc]; rfl

theorem queueNotices_entry (is : List (Fin 8)) (ls : LinkState) (j : Fin 8) :
    (ls.queueNotices is).entry j =
      if j ∈ is then { ls.entry j with queued := true, pending := false } else ls.entry j := by
  induction is generalizing ls with
  | nil => simp
  | cons i is ih =>
    rw [queueNotices_cons, ih, queueNotice_entry]
    by_cases hj : j = i
    · simp [hj]
    · simp only [hj, if_false, List.mem_cons, false_or]

theorem queueNotices_eligible (is : List (Fin 8)) (ls : LinkState) (j : Fin 8) :
    (ls.queueNotices is).eligible j = (ls.eligible j && decide (j ∉ is)) := by
  induction is generalizing ls with
  | nil => simp
  | cons i is ih =>
    rw [queueNotices_cons, ih, queueNotice_eligible, Bool.and_assoc, ← Bool.decide_and]
    simp only [List.mem_cons, not_or, ne_eq]

theorem queueNotices_placesLeft (is : List (Fin 8)) (ls : LinkState) :
    (ls.queueNotices is).placesLeft = ls.placesLeft - is.length := by
  induction is generalizing ls with
  | nil => rfl
  | cons i is ih =>
    rw [queueNotices_cons, ih, queueNotice_placesLeft, List.length_cons]
    omega

/-- The entries of a list whose frames join: the first that wait, as many as there are places. -/
def LinkState.sent (is : List (Fin 8)) (ls : LinkState) : List (Fin 8) := (is.filter ls.eligible).take ls.placesLeft

theorem sent_queueNotice {i : Fin 8} {is : List (Fin 8)} (hi : i ∉ is) :
    (ls.queueNotice i).sent is = (is.filter ls.eligible).take (ls.placesLeft - 1) := by
  rw [LinkState.sent, queueNotice_placesLeft]
  congr 1
  refine List.filter_congr fun j hj => ?_
  have hne : j ≠ i := fun e => hi (e ▸ hj)
  rw [queueNotice_eligible, decide_eq_true hne, Bool.and_true]

/-- Entry after entry, each that waits is queued while a place is free: those are the ones `sent` names. -/
theorem foldl_sendEligible {is : List (Fin 8)} (hnodup : is.Nodup) (ls : LinkState) :
    is.foldl LinkState.sendEligible ls = ls.queueNotices (ls.sent is) := by
  induction is generalizing ls with
  | nil => simp [LinkState.sent]
  | cons i is ih =>
    obtain ⟨hi, hrest⟩ := List.nodup_cons.mp hnodup
    rw [List.foldl_cons, ih hrest]
    by_cases hwaits : ls.eligible i = true
    · by_cases hfree : ls.placeFree = true
      · obtain ⟨n, hn⟩ := Nat.exists_eq_succ_of_ne_zero (placeFree_iff_placesLeft.mp hfree).ne'
        rw [LinkState.sendEligible, hwaits, hfree, Bool.and_true, if_pos rfl, sent_queueNotice hi, LinkState.sent,
          List.filter_cons_of_pos hwaits, hn, List.take_succ_cons]
        rfl
      · have hnone : ls.placesLeft = 0 := Nat.eq_zero_of_not_pos fun hpos => hfree (placeFree_iff_placesLeft.mpr hpos)
        simp [LinkState.sendEligible, LinkState.sent, hfree, hnone]
    · simp [LinkState.sendEligible, LinkState.sent, hwaits]

theorem sent_pairwise {is : List (Fin 8)} (h : is.Pairwise (· < ·)) : (ls.sent is).Pairwise (· < ·) :=
  h.sublist ((List.take_sublist _ _).trans List.filter_sublist)

/-- While a place stays free, every entry that waited was sent. -/
theorem sent_of_placeFree {is : List (Fin 8)} (h : (ls.queueNotices (ls.sent is)).placeFree = true) :
    ls.sent is = is.filter ls.eligible := by
  rw [placeFree_iff_placesLeft, queueNotices_placesLeft, LinkState.sent, List.length_take] at h
  exact List.take_of_length_le (by omega)

/-- The entries sent come before every entry left waiting. -/
theorem sent_before {is : List (Fin 8)} (h : is.Pairwise (· < ·)) {i j : Fin 8} (hi : i ∈ ls.sent is)
    (hwaits : ls.eligible j = true) (hj : j ∈ is) (hleft : j ∉ ls.sent is) : i < j := by
  have hsorted : (is.filter ls.eligible).Pairwise (· < ·) := h.sublist List.filter_sublist
  rw [← List.take_append_drop ls.placesLeft (is.filter ls.eligible), List.pairwise_append] at hsorted
  obtain ⟨-, -, hbefore⟩ := hsorted
  have hmem : j ∈ is.filter ls.eligible := List.mem_filter.mpr ⟨hj, hwaits⟩
  rw [← List.take_append_drop ls.placesLeft (is.filter ls.eligible), List.mem_append] at hmem
  exact hbefore i hi j (hmem.resolve_left hleft)

/-! ## NOTICE MASK (R180) -/

/-- A port with enable and link mask set, before its entries are masked (R180). -/
def LinkState.switched (enable linkMask : Nat) (ls : LinkState) : LinkState := { ls with
  notice := { ls.notice with enable := keepOr enable ls.notice.enable, linkMask := keepOr linkMask ls.notice.linkMask } }

/-- A port with enable, link mask and entries' masks set, before frames are queued (R180). -/
def LinkState.masksSet (enable linkMask : Nat) (mask unmask : Byte) (ls : LinkState) : LinkState :=
  (ls.switched enable linkMask).maskEntries mask unmask (List.finRange 8)

theorem masksSet_entry (enable linkMask : Nat) (mask unmask : Byte) (ls : LinkState) (j : Fin 8) :
    (ls.masksSet enable linkMask mask unmask).entry j = (ls.entry j).masked ls.notice.grant mask unmask j :=
  (maskEntries_entry mask unmask _ (ls.switched enable linkMask) j).trans (if_pos (List.mem_finRange j))

/-- The entries whose frames NOTICE MASK queues, lowest first (R180). -/
def LinkState.sentUnder (enable linkMask : Nat) (mask unmask : Byte) (ls : LinkState) : List (Fin 8) :=
  (ls.masksSet enable linkMask mask unmask).sent (List.finRange 8)

theorem withMasks_eq (enable linkMask : Nat) (mask unmask : Byte) (ls : LinkState) :
    ls.withMasks enable linkMask mask unmask =
      (ls.masksSet enable linkMask mask unmask).queueNotices (ls.sentUnder enable linkMask mask unmask) :=
  foldl_sendEligible (List.nodup_finRange 8) (ls.masksSet enable linkMask mask unmask)

theorem withMasks_entriesOnly (enable linkMask : Nat) (mask unmask : Byte) (ls : LinkState) :
    EntriesOnly (ls.switched enable linkMask) (ls.withMasks enable linkMask mask unmask) := by
  rw [withMasks_eq]
  exact (maskEntries_entriesOnly mask unmask _ _).trans (queueNotices_entriesOnly _ _)

theorem withMasks_tx (enable linkMask : Nat) (mask unmask : Byte) (ls : LinkState) :
    (ls.withMasks enable linkMask mask unmask).tx = ls.tx ++ (ls.sentUnder enable linkMask mask unmask).map .notice := by
  rw [withMasks_eq, queueNotices_tx, LinkState.masksSet, maskEntries_tx]
  rfl

theorem withMasks_entry (enable linkMask : Nat) (mask unmask : Byte) (ls : LinkState) (j : Fin 8) :
    (ls.withMasks enable linkMask mask unmask).entry j =
      { (ls.entry j).masked ls.notice.grant mask unmask j with
        queued := (ls.entry j).queued || decide (j ∈ ls.sentUnder enable linkMask mask unmask)
        pending := (ls.entry j).pending && !decide (j ∈ ls.sentUnder enable linkMask mask unmask) } := by
  rw [withMasks_eq, queueNotices_entry, masksSet_entry]
  by_cases hj : j ∈ ls.sentUnder enable linkMask mask unmask
  · simp [hj]
  · simp [hj, NoticeEntry.masked]

theorem withMasks_eligible (enable linkMask : Nat) (mask unmask : Byte) (ls : LinkState) (j : Fin 8) :
    (ls.withMasks enable linkMask mask unmask).eligible j =
      ((ls.masksSet enable linkMask mask unmask).eligible j
        && decide (j ∉ ls.sentUnder enable linkMask mask unmask)) := by
  rw [withMasks_eq, queueNotices_eligible]

/-- A place left free leaves no entry waiting (R180). -/
theorem withMasks_none_waits {enable linkMask : Nat} {mask unmask : Byte}
    (h : (ls.withMasks enable linkMask mask unmask).placeFree = true) (j : Fin 8) :
    (ls.withMasks enable linkMask mask unmask).eligible j = false := by
  rw [withMasks_eligible]
  rw [withMasks_eq] at h
  rw [LinkState.sentUnder, sent_of_placeFree h]
  simp [List.mem_filter]

/-- What is queued comes before what is left waiting (R180). -/
theorem withMasks_lowest_first {enable linkMask : Nat} {mask unmask : Byte} {i j : Fin 8}
    (hi : i ∈ ls.sentUnder enable linkMask mask unmask)
    (hj : (ls.withMasks enable linkMask mask unmask).eligible j = true) : i < j := by
  rw [withMasks_eligible, Bool.and_eq_true, decide_eq_true_eq] at hj
  obtain ⟨hwaits, hleft⟩ := hj
  exact sent_before (List.pairwise_lt_finRange 8) hi hwaits (List.mem_finRange j) hleft

theorem exec_noticeMask (h : headRequest l s = some (kNoticeMask, args)) : exec (.noticeMask l) s =
    .next (putReply l kNoticeMask (noticeMaskEffect l args (popRequest l s)).2 (noticeMaskEffect l args (popRequest l s)).1) :=
  congrArg Host.Outcome.next (serve_taken _ h)

theorem noticeMaskEffect_done (hn : 4 ≤ args.length) (henable : byteAt args 0 ≤ 2) (hlink : byteAt args 1 ≤ 2)
    (hdisjoint : args.getD 2 0 &&& args.getD 3 0 = 0)
    (hls : ls = (s.link l).withMasks (byteAt args 0) (byteAt args 1) (args.getD 2 0) (args.getD 3 0)) :
    noticeMaskEffect l args s = done (onLink l (fun _ => ls) s) (maskReply ls) := by
  have htaken : ¬(2 < byteAt args 0 ∨ 2 < byteAt args 1 ∨ args.getD 2 0 &&& args.getD 3 0 ≠ 0) := by
    rintro (h | h | h)
    · omega
    · omega
    · exact h hdisjoint
  simp only [noticeMaskEffect, needs_enough _ hn, if_neg htaken, State.link_onLink_same,
    onLink_at (f := LinkState.withMasks _ _ _ _) hls]

end Sys2Proof.Machine
end

section
namespace Sys2Proof.Machine

-- One proof after another: each thread that Lean adds takes its stack out of the memory that a compile may use.
set_option Elab.async false

variable {s : State} {l : Link} {args : List Byte} {ls : LinkState}

/-! ## CLEAR FAULTS (R182) -/

theorem deviceFlagMask_getLsbD (n : Nat) : deviceFlagMask.getLsbD n = decide (n < 11) := by
  have hbit : (2047 : Nat).testBit n = decide (n < 11) := Nat.testBit_two_pow_sub_one 11 n
  rw [deviceFlagMask, BitVec.ofNat_eq_ofNat, BitVec.getLsbD_ofNat, hbit, ← Bool.decide_and]
  exact decide_eq_decide.mpr (by omega)

theorem clear_flags (set : BitVec 16) (counters : Bool) (f : FaultRecord) :
    (f.clear set counters).flags = f.flags &&& ~~~(set &&& deviceFlagMask) := by
  cases counters <;> rfl

/-- A flag is cleared where it is one of the eleven and the set names it. -/
theorem clear_flags_getLsbD (set : BitVec 16) (counters : Bool) (f : FaultRecord) (n : Nat) :
    (f.clear set counters).flags.getLsbD n = (f.flags.getLsbD n && !(set.getLsbD n && decide (n < 11))) := by
  rw [clear_flags, BitVec.getLsbD_and, BitVec.getLsbD_not, BitVec.getLsbD_and, deviceFlagMask_getLsbD]
  by_cases hn : n < 16
  · simp [hn]
  · simp [BitVec.getLsbD_of_ge f.flags n (Nat.not_lt.mp hn)]

theorem clear_first (set : BitVec 16) (counters : Bool) (f : FaultRecord) :
    (f.clear set counters).first = if set &&& deviceFlagMask = 0 then f.first else none := by
  cases counters <;> rfl

theorem clearFlags_flags (set : Byte) (counters : Bool) (ls : LinkState) :
    (ls.clearFlags set counters).checkFlag = (ls.checkFlag && !set.getLsbD 0)
      ∧ (ls.clearFlags set counters).overflowFlag = (ls.overflowFlag && !set.getLsbD 1)
      ∧ (ls.clearFlags set counters).overrunFlag = (ls.overrunFlag && !set.getLsbD 2) := by
  cases counters
  · exact ⟨rfl, rfl, rfl⟩
  · exact ⟨rfl, rfl, rfl⟩

/-- At most the flags and the counters of a port differ. -/
theorem clearFlags_frame (set : Byte) (counters : Bool) (ls : LinkState) : ls.clearFlags set counters = { ls with
    checkFlag := (ls.clearFlags set counters).checkFlag, overflowFlag := (ls.clearFlags set counters).overflowFlag
    overrunFlag := (ls.clearFlags set counters).overrunFlag, checkErrors := (ls.clearFlags set counters).checkErrors
    overflows := (ls.clearFlags set counters).overflows, lost := (ls.clearFlags set counters).lost } := by
  cases counters <;> rfl

theorem clearFaults_link (device : BitVec 16) (sets : PerLink Byte) (counters : Bool) (m : Link) :
    (clearFaults device sets.a sets.b sets.c counters s).link m = (s.link m).clearFlags (sets.get m) counters := by
  cases m <;> rfl

/-- Of a port a popped request changes the receive buffer at most. -/
theorem popRequest_link_eq (l m : Link) :
    (popRequest l s).link m = { s.link m with rxBuf := ((popRequest l s).link m).rxBuf } := by
  by_cases hm : m = l
  · subst hm
    rw [popRequest_link]
  · rw [popRequest, State.link_onLink_ne _ hm]

/-- The sets of flags that CLEAR FAULTS names for the three links (R174). -/
def clearSets (args : List Byte) : PerLink Byte := ⟨args.getD 2 0, args.getD 3 0, args.getD 4 0⟩

theorem exec_clearFaults (h : headRequest l s = some (kClearFaults, args)) : exec (.clearFaults l) s =
    .next (putReply l kClearFaults (clearFaultsEffect args (popRequest l s)).2 (clearFaultsEffect args (popRequest l s)).1) :=
  congrArg Host.Outcome.next (serve_taken _ h)

/-! ## A class raised on an entry (R178) -/

variable {c : EventClass} {i : Fin 8}

theorem raiseEntry_passes (h : ¬(i.val < ls.notice.grant ∧ (ls.entry i).classes.getLsbD c.index = true)) :
    ls.raiseEntry c i = ls := by
  simp only [LinkState.raiseEntry, hasClass, Bool.and_eq_true, decide_eq_true_eq, if_neg h]

/-- The class is added; what follows turns on the masks, the frame already waiting and the places. -/
theorem raiseEntry_takes (h : i.val < ls.notice.grant ∧ (ls.entry i).classes.getLsbD c.index = true) :
    ls.raiseEntry c i =
      if (ls.entry i).mask = true ∨ ls.notice.linkMask = true then
        ls.setEntry i { ls.entry i with acc := (ls.entry i).acc ||| c.bit, pending := true }
      else if (ls.entry i).queued = true then ls.setEntry i { ls.entry i with acc := (ls.entry i).acc ||| c.bit }
      else if ls.tx.countP TxFrame.unprompted < 7 then
        { ls.setEntry i { ls.entry i with acc := (ls.entry i).acc ||| c.bit, queued := true, pending := false } with
          tx := ls.tx ++ [.notice i] }
      else ls.setEntry i { ls.entry i with acc := (ls.entry i).acc ||| c.bit, pending := true } := by
  have hjoins : (ls.setEntry i { ls.entry i with acc := (ls.entry i).acc ||| c.bit }).queueNotice i =
      { ls.setEntry i { ls.entry i with acc := (ls.entry i).acc ||| c.bit, queued := true, pending := false } with
        tx := ls.tx ++ [.notice i] } := by
    simp [LinkState.queueNotice, LinkState.setEntry, LinkState.entry]
  have hfree : ls.placeFree = true ↔ ls.tx.countP TxFrame.unprompted < 7 := placeFree_iff
  simp only [LinkState.raiseEntry, hasClass, Bool.and_eq_true, Bool.or_eq_true, decide_eq_true_eq, if_pos h, hjoins, hfree]

theorem raise_disabled (c : EventClass) (h : ls.notice.enable = false) : ls.raise c = ls := by
  rw [LinkState.raise, h, if_neg Bool.false_ne_true]

/-- The entries are handled in rising number (log 41). -/
theorem raise_enabled (c : EventClass) (h : ls.notice.enable = true) :
    ls.raise c = [0, 1, 2, 3, 4, 5, 6, 7].foldl (LinkState.raiseEntry c) ls := by
  rw [LinkState.raise, if_pos h]
  rfl

theorem raiseOn_link (c : EventClass) (l m : Link) :
    (raiseOn l c s).link m = if m = l then (s.link m).raise c else s.link m := by
  by_cases hm : m = l
  · subst hm
    rw [if_pos rfl]
    exact State.link_onLink_same m _
  · rw [if_neg hm]
    exact State.link_onLink_ne _ hm

/-! ## The requests and the classes together -/

/-- Settles O48: NOTICE SET by the entry written, NOTICE MASK by the masks set and the frames then sent, CLEAR FAULTS by
what it leaves of record and ports, and a raised class by the branch its entry takes. -/
theorem noticeAndFaultRequests : Obligations.NoticeAndFaultRequests := by
  refine ⟨fun l args s => ⟨fun i h hn hi hgranted => ?set, fun h hn henable hlink hdisjoint => ?mask, fun h hn => ?clear⟩,
    fun c i ls => ?entry, fun c s => ?raised⟩
  case set =>
    obtain ⟨ls, hls⟩ : ∃ ls, ls = ((popRequest l s).link l).writeEntry i (BitVec.ofNat 16 (word16At args 1))
      (BitVec.ofNat 16 (word16At args 3)) := ⟨_, rfl⟩
    have hentry (j : Fin 8) := (congrArg (·.entry j) hls).trans (writeEntry_entry _ i _ _ j)
    simp only [popRequest_entry] at hentry
    refine ⟨ls, setReply i (ls.entry i), ?_, fun hset => ?_, fun hempty => ?_, fun j hj => ?_, ?_⟩
    · rw [exec_noticeSet h, noticeSetEffect_done hn hi (by rw [popRequest_notice]; exact hgranted) hls]
      rfl
    · rw [hentry, if_pos rfl, if_neg (mt (ofNat_word16At_eq_zero args 1).mp hset), setReply, ofNat_word16At_toNat,
        ofNat_word16At_toNat]
      exact ⟨rfl, rfl⟩
    · rw [hentry, if_pos rfl, if_pos ((ofNat_word16At_eq_zero args 1).mpr hempty)]
      exact ⟨rfl, rfl⟩
    · rw [hentry, if_neg hj]
    · rw [hls, popRequest_link]
      rfl
  case mask =>
    obtain ⟨ls, hls⟩ : ∃ ls, ls = ((popRequest l s).link l).withMasks (byteAt args 0) (byteAt args 1) (args.getD 2 0)
      (args.getD 3 0) := ⟨_, rfl⟩
    obtain ⟨sent, hsent⟩ : ∃ sent, sent = ((popRequest l s).link l).sentUnder (byteAt args 0) (byteAt args 1)
      (args.getD 2 0) (args.getD 3 0) := ⟨_, rfl⟩
    have hentry (j : Fin 8) := (congrArg (·.entry j) hls).trans (withMasks_entry _ _ _ _ _ j)
    simp only [popRequest_entry, popRequest_notice, ← hsent] at hentry
    have htx : ls.tx = (s.link l).tx ++ sent.map .notice := by rw [hls, hsent, withMasks_tx, popRequest_tx]
    have htable : EntriesOnly (((popRequest l s).link l).switched (byteAt args 0) (byteAt args 1)) ls :=
      hls ▸ withMasks_entriesOnly _ _ _ _ _
    have hgrant : ls.notice.grant = (s.link l).notice.grant := by rw [htable.grant, LinkState.switched, popRequest_notice]
    have hkeeps : NoticesOnly ((popRequest l s).link l) ls := hls ▸ withMasks_noticesOnly _ _ _ _ _
    refine ⟨ls, ?_, ?_, ?_, ?_, fun i => ?_, ?_, fun hfree i => ?_, sent, htx, ?_, fun i => ?_, fun i hi j hj => ?_⟩
    · rw [exec_noticeMask h, noticeMaskEffect_done hn henable hlink hdisjoint hls]
      rfl
    · rw [htable.enable, LinkState.switched, popRequest_notice]
      rfl
    · rw [htable.linkMask, LinkState.switched, popRequest_notice]
      rfl
    · exact hgrant
    · rw [hentry]
      exact ⟨rfl, rfl, rfl, rfl⟩
    · rw [← hgrant]
      rw [NoticesOnly, popRequest_link] at hkeeps
      exact hkeeps
    · rw [hls] at hfree ⊢
      exact withMasks_none_waits hfree i
    · rw [hsent]
      exact sent_pairwise (List.pairwise_lt_finRange 8)
    · rw [hentry]
      exact ⟨rfl, rfl⟩
    · rw [hls] at hj
      exact withMasks_lowest_first (hsent ▸ hi) hj
  case clear =>
    obtain ⟨t, ht⟩ : ∃ t, t = clearFaults (BitVec.ofNat 16 (word16At args 0)) (args.getD 2 0) (args.getD 3 0)
      (args.getD 4 0) (bitOf args 5 0) (popRequest l s) := ⟨_, rfl⟩
    have hfaults : t.faults = s.faults.clear (BitVec.ofNat 16 (word16At args 0)) (bitOf args 5 0) := by rw [ht]; rfl
    have hport (m : Link) : t.link m = ((popRequest l s).link m).clearFlags ((clearSets args).get m) (bitOf args 5 0) := by
      rw [ht]
      exact clearFaults_link _ (clearSets args) _ m
    have hflag (n : Nat) := clear_flags_getLsbD (BitVec.ofNat 16 (word16At args 0)) (bitOf args 5 0) s.faults n
    have hfirst := clear_first (BitVec.ofNat 16 (word16At args 0)) (bitOf args 5 0) s.faults
    rw [← hfaults] at hfirst
    simp only [← hfaults] at hflag
    refine ⟨t, ?_, by rw [ht]; rfl, fun m => ?_, fun n hn => ?_, fun n hn => ?_, fun hnone => ?_, fun hsome => ?_,
      fun hcounters => ?_, fun hcounters => ?_, fun m i hi => ?_⟩
    · rw [exec_clearFaults h, clearFaultsEffect, needs_enough _ hn, ht]
      rfl
    · rw [hport]
      exact clearFlags_frame _ _ _
    · rw [hflag, decide_eq_false (Nat.not_lt.mpr hn), Bool.and_false, Bool.not_false, Bool.and_true]
    · rw [hflag, decide_eq_true hn, Bool.and_true]
    · exact hfirst.trans (if_pos hnone)
    · exact hfirst.trans (if_neg hsome)
    · rw [hfaults, hcounters]
      refine ⟨rfl, rfl, rfl, rfl, rfl, rfl, fun m => ?_⟩
      rw [hport, hcounters]
      exact ⟨rfl, rfl, rfl⟩
    · rw [hfaults, hcounters]
      refine ⟨rfl, rfl, rfl, rfl, rfl, rfl, fun m => ?_⟩
      rw [hport, hcounters, popRequest_link_eq]
      exact ⟨rfl, rfl, rfl⟩
    · have hset : (clearSets args).get m = args.getD i 0 := by
        subst hi
        cases m <;> rfl
      rw [hport, hset, popRequest_link_eq]
      exact clearFlags_flags _ _ _
  case entry =>
    intro e t takes masked acc becomes
    refine ⟨raiseEntry_passes, fun ht hm => ?_, fun ht hm hq => ?_, fun ht hm hq hfree => ?_, fun ht hm hq hfull => ?_⟩
    · exact (raiseEntry_takes ht).trans (if_pos hm)
    · exact (raiseEntry_takes ht).trans ((if_neg hm).trans (if_pos hq))
    · exact (raiseEntry_takes ht).trans ((if_neg hm).trans ((if_neg (Bool.eq_false_iff.mp hq)).trans (if_pos hfree)))
    · exact (raiseEntry_takes ht).trans
        ((if_neg hm).trans ((if_neg (Bool.eq_false_iff.mp hq)).trans (if_neg (Nat.not_lt.mpr hfull))))
  case raised =>
    exact ⟨fun ls => ⟨raise_disabled c, raise_enabled c⟩, fun m => State.link_onEveryLink m _, rfl, raiseOn_link c, fun _ => rfl⟩

end Sys2Proof.Machine
end

section
namespace Sys2Proof.Machine

-- One proof after another: each thread that Lean adds takes its stack out of the memory that a compile may use.
set_option Elab.async false

variable {s t : State} {l : Link} {args : List Byte} {r : Region}

/-! ## A new working copy taken up (R42, R108, R109) -/

theorem RailOnly.cst (h : RailOnly s t) : t.cst = s.cst := by
  obtain ⟨_, _, _, _, rfl⟩ := h
  rfl

/-- Behind the hammers that a new working copy resets, what follows is the rail's own. -/
theorem installCst_rail (new : Cst) :
    RailOnly (resetHammers (perKeyChanged s.cst new) (onCst (fun _ => new) s)) (installCst new s) := by
  unfold installCst
  dsimp only
  split
  · exact quietMove_only
  · exact quietMove_only.trans deriveLever_only

theorem installCst_cst (new : Cst) : (installCst new s).cst = new := (installCst_rail new).cst

theorem installCst_key (new : Cst) (k : Key) :
    (installCst new s).key k = if perKeyChanged s.cst new k then (s.key k).calibrated else s.key k := by
  rw [State.key, installCst_keys]
  exact State.key_resetHammers _ k

/-! ## The built-in defaults against a store (R187) -/

/-- The factory region's defaults leave the trims as they are. -/
theorem perKeyChanged_factoryDefaults (c : Cst) (k : Key) :
    perKeyChanged c (c.withDefaults .factory) k = true ↔
      c.factory.working.keySensor[k] ≠ defaultFactory.keySensor[k] ∨ c.factory.working.gates[k] ≠ defaultFactory.gates[k] := by
  simp [perKeyChanged, Cst.withDefaults, Cst.onFactory]

/-- The user region's defaults leave the sensor values and the gates as they are, and set every trim to 1024. -/
theorem perKeyChanged_userDefaults (c : Cst) (k : Key) :
    perKeyChanged c (c.withDefaults .user) k = true ↔ c.user.working.trim[k] ≠ 1024 := by
  simp [perKeyChanged, Cst.withDefaults, Cst.onUser, defaultUser]

/-! ## CAL DEFAULTS (R187) -/

/-- A request taken, read off what its effect makes of the state behind it. -/
theorem serve_of_effect {k : Byte} {effect : List Byte → State → State × Reply} {reply : Reply}
    (h : headRequest l s = some (k, args)) (he : effect args (popRequest l s) = (t, reply)) :
    serve l k effect s = putReply l k reply t := by
  rw [serve_taken effect h, he]

theorem exec_calDefaults {reply : Reply} (h : headRequest l s = some (kCalDefaults, args))
    (he : calDefaultsEffect l args (popRequest l s) = (t, reply)) :
    exec (.calDefaults l) s = .next (putReply l kCalDefaults reply t) :=
  congrArg Host.Outcome.next (serve_of_effect h he)

theorem regionOf_of_one_lt {n : Nat} (h : 1 < n) : regionOf n = none := by
  match n with
  | n + 2 => rfl

theorem calDefaultsEffect_role (hl : fromCalLink s l = false) : calDefaultsEffect l args s = refuse .role s := if_pos hl

/-- Short or not, a request of a region without a code is answered ARGUMENT. -/
theorem calDefaultsEffect_noRegion (hl : fromCalLink s l = true) (hr : regionOf (byteAt args 0) = none) :
    calDefaultsEffect l args s = refuse .argument s := by
  rw [calDefaultsEffect, hl, if_neg nofun, hr]
  exact ite_self _

/-- From the calibration link and of a region that has a code, the tests are PROTECTED and then BUSY. -/
theorem calDefaultsEffect_region (hl : fromCalLink s l = true) (hn : 1 ≤ args.length)
    (hr : regionOf (byteAt args 0) = some r) :
    calDefaultsEffect l args s =
      if isProtected s r then refuse .guarded s
      else if s.cst.inFlight r then refuse .busy s
      else done (installCst ((s.cst.withDefaults r).markModified r) s) := by
  rw [calDefaultsEffect, needs_enough _ hn, hr, hl, if_neg nofun]

theorem calDefaultsEffect_guarded (hl : fromCalLink s l = true) (hn : 1 ≤ args.length)
    (hr : regionOf (byteAt args 0) = some r) (hp : isProtected s r = true) :
    calDefaultsEffect l args s = refuse .guarded s := by
  rw [calDefaultsEffect_region hl hn hr, if_pos hp]

theorem calDefaultsEffect_busy (hl : fromCalLink s l = true) (hn : 1 ≤ args.length)
    (hr : regionOf (byteAt args 0) = some r) (hp : isProtected s r = false) (hb : s.cst.inFlight r = true) :
    calDefaultsEffect l args s = refuse .busy s := by
  rw [calDefaultsEffect_region hl hn hr, if_neg (Bool.eq_false_iff.mp hp), if_pos hb]

theorem calDefaultsEffect_done (hl : fromCalLink s l = true) (hn : 1 ≤ args.length)
    (hr : regionOf (byteAt args 0) = some r) (hp : isProtected s r = false) (hb : s.cst.inFlight r = false) :
    calDefaultsEffect l args s = done (installCst ((s.cst.withDefaults r).markModified r) s) := by
  rw [calDefaultsEffect_region hl hn hr, if_neg (Bool.eq_false_iff.mp hp), if_neg (Bool.eq_false_iff.mp hb)]

/-- What a request that passes its tests makes of the store and the keys; the rail may act on it (log 44). -/
theorem exec_calDefaults_done (h : headRequest l s = some (kCalDefaults, args)) (hl : fromCalLink s l = true)
    (hn : 1 ≤ args.length) (hr : regionOf (byteAt args 0) = some r) (hp : isProtected s r = false)
    (hb : s.cst.inFlight r = false) :
    ∃ t, exec (.calDefaults l) s = .next (putReply l kCalDefaults { result := .done } t)
      ∧ t.cst = (s.cst.withDefaults r).markModified r
      ∧ ∀ k, t.key k = if perKeyChanged s.cst (s.cst.withDefaults r) k then (s.key k).calibrated else s.key k := by
  refine ⟨_, exec_calDefaults h (calDefaultsEffect_done (s := popRequest l s) hl hn hr hp hb), installCst_cst _, fun k => ?_⟩
  rw [installCst_key, perKeyChanged_markModified]
  rfl

/-- The user region is never protected (R184). -/
theorem isProtected_user : isProtected s .user = false := rfl

/-- Settles O46: the refusals by the first test that fails, the two regions by what their defaults change. -/
theorem calDefaultsRestoresDefaults : Obligations.CalDefaultsRestoresDefaults := by
  refine fun l args s h => ⟨fun hl => ?role, fun hl hr => ?argument, fun hl hn hr hp => ?guarded,
    fun hl hn hr hp hb => ?busyFactory, fun hl hn hr hb => ?busyUser, fun hl hn hr hp hb => ?factory,
    fun hl hn hr hb => ?user⟩
  case role => exact exec_calDefaults h (calDefaultsEffect_role (s := popRequest l s) hl)
  case argument =>
    exact exec_calDefaults h (calDefaultsEffect_noRegion (s := popRequest l s) hl (regionOf_of_one_lt hr))
  case guarded =>
    exact exec_calDefaults h (calDefaultsEffect_guarded (s := popRequest l s) hl hn (congrArg regionOf hr) hp)
  case busyFactory =>
    exact exec_calDefaults h (calDefaultsEffect_busy (s := popRequest l s) hl hn (congrArg regionOf hr) hp
      (Option.isSome_iff_ne_none.mpr hb))
  case busyUser =>
    exact exec_calDefaults h (calDefaultsEffect_busy (s := popRequest l s) hl hn (congrArg regionOf hr) isProtected_user
      (Option.isSome_iff_ne_none.mpr hb))
  case factory =>
    obtain ⟨t, ht, hcst, hkeys⟩ := exec_calDefaults_done h hl hn (congrArg regionOf hr) hp (congrArg Option.isSome hb)
    exact ⟨t, ht, hcst, fun k => (hkeys k).trans (if_congr (perKeyChanged_factoryDefaults _ k) rfl rfl)⟩
  case user =>
    obtain ⟨t, ht, hcst, hkeys⟩ :=
      exec_calDefaults_done h hl hn (congrArg regionOf hr) isProtected_user (congrArg Option.isSome hb)
    exact ⟨t, ht, hcst, fun k => (hkeys k).trans (if_congr (perKeyChanged_userDefaults _ k) rfl rfl)⟩

/-! ## CAL COMMIT (R188) -/

/-- From the calibration link and of a region with no commit in flight, the working copy as it stands is taken. -/
theorem calCommitEffect_done (hl : fromCalLink s l = true) (hn : 1 ≤ args.length)
    (hr : regionOf (byteAt args 0) = some r) (hb : s.cst.inFlight r = false) :
    calCommitEffect l args s = done (onCst (fun k => k.beginCommit s.clock r) s) := by
  rw [calCommitEffect, needs_enough _ hn, hr, hl, if_neg nofun]
  exact if_neg (Bool.eq_false_iff.mp hb)

theorem exec_calCommit_done (h : headRequest l s = some (kCalCommit, args)) (hl : fromCalLink s l = true)
    (hn : 1 ≤ args.length) (hr : regionOf (byteAt args 0) = some r) (hb : s.cst.inFlight r = false) :
    exec (.calCommit l) s = .next (putReply l kCalCommit { result := .done }
      (onCst (fun k => k.beginCommit s.clock r) (popRequest l s))) :=
  congrArg Host.Outcome.next (serve_of_effect h (calCommitEffect_done (s := popRequest l s) hl hn hr hb))

/-! ## COMMIT_COMPLETE (R188) -/

theorem commitEqual_factory {k : Cst} {c : Commit FactoryRegion} (h : k.factory.commit = some c) :
    commitEqual .factory k =
      { k with factory := k.factory.commitEqual c.copy, committedOption := c.copy.option, defaultMarking := false } := by
  simp only [commitEqual, h]

theorem commitEqual_user {k : Cst} {c : Commit UserRegion} (h : k.user.commit = some c) :
    commitEqual .user k = { k with user := k.user.commitEqual c.copy } := by
  simp only [commitEqual, h]

theorem commitDifferent_factory {k : Cst} {c : Commit FactoryRegion} (h : k.factory.commit = some c) (n : Nat) :
    commitDifferent .factory n k = { k with factory := k.factory.commitDifferent c.copy n } := by
  simp only [commitDifferent, h]

theorem commitDifferent_user {k : Cst} {c : Commit UserRegion} (h : k.user.commit = some c) (n : Nat) :
    commitDifferent .user n k = { k with user := k.user.commitDifferent c.copy n } := by
  simp only [commitDifferent, h]

/-- With no system reset pending there is no wait for a commit to end (R190). -/
theorem endAwait_of_none (h : s.sysReset = .none) : endAwait r s = s := by
  rw [endAwait, h]
  exact congrArg (fun x => { s with sysReset := x }) h.symm

theorem exec_commitComplete_equal (hb : s.cst.inFlight r = true) (h : s.sysReset = .none) :
    exec (.commitComplete r true) s = .next (raiseAll .calDone (onCst (commitEqual r) s)) :=
  congrArg Host.Outcome.next ((if_pos hb).trans (endAwait_of_none h))

/-- An image that read back different is reported; the store changes by the draw that its damage takes (log 6). -/
theorem exec_commitComplete_different (hb : s.cst.inFlight r = true) :
    ∃ t, exec (.commitComplete r false) s = .next t ∧ t.cst = commitDifferent r s.freeCount s.cst
      ∧ t.faults.flags.getLsbD 10 = true :=
  ⟨_, congrArg Host.Outcome.next (if_pos hb), rfl, reportFault_own_flag .calWriteFail⟩

/-- Settles O47: the commit taken of either region, and its end by what was read back. -/
theorem commitWritesImage : Obligations.CommitWritesImage := by
  refine fun l args s => ⟨fun h hl hn => ⟨fun hr hb => ?takeFactory, fun hr hb => ?takeUser⟩, fun c hc hnone => ?equalFactory,
    fun c hc hnone => ?equalUser, fun c hc => ?differentFactory, fun c hc => ?differentUser⟩
  case takeFactory =>
    exact exec_calCommit_done h hl hn (congrArg regionOf hr) (congrArg Option.isSome hb)
  case takeUser =>
    exact exec_calCommit_done h hl hn (congrArg regionOf hr) (congrArg Option.isSome hb)
  case equalFactory =>
    rw [exec_commitComplete_equal (r := .factory) (congrArg Option.isSome hc) hnone, onCst, commitEqual_factory hc]
    rfl
  case equalUser =>
    rw [exec_commitComplete_equal (r := .user) (congrArg Option.isSome hc) hnone, onCst, commitEqual_user hc]
    rfl
  case differentFactory =>
    obtain ⟨t, ht, hcst, hflag⟩ := exec_commitComplete_different (r := .factory) (congrArg Option.isSome hc)
    rw [commitDifferent_factory hc] at hcst
    refine ⟨t, ht, ?_⟩
    rw [hcst]
    exact ⟨rfl, rfl, rfl, rfl, rfl, rfl, hflag⟩
  case differentUser =>
    obtain ⟨t, ht, hcst, hflag⟩ := exec_commitComplete_different (r := .user) (congrArg Option.isSome hc)
    rw [commitDifferent_user hc] at hcst
    refine ⟨t, ht, ?_⟩
    rw [hcst]
    exact ⟨rfl, rfl, rfl, rfl, hflag⟩

end Sys2Proof.Machine
end
